-- ==== Sys2Proof/Word.lean ====
section
/-! DEFINITION. The plain word, quantity and index types of the ALF-6240 and their plainest arithmetic. -/

namespace Sys2Proof

/-- One byte of a bus transaction or of a test frame. -/
abbrev Byte := BitVec 8

/-- A site time reading: seconds 0 to 2^32 - 1 and nanoseconds 0 to 999 999 990 (R62). -/
structure SiteTime where
  sec : BitVec 32
  ns : Nat
  deriving DecidableEq, Repr

/-- The two request ports. -/
inductive Port where
  | main | service
  deriving DecidableEq, Repr

/-- The three timing sources, indexed 0 to 2. -/
inductive Source where
  | gnss | link | aux
  deriving DecidableEq, Repr

/-- The four discrete inputs, in the order of the table of R174. -/
inductive InputPin where
  | resetN | mastMoving | oduLock | svcConnect
  deriving DecidableEq, Repr

/-- The four feeder-sense lines. -/
inductive FeederLine where
  | f0 | f1 | f2 | f3
  deriving DecidableEq, Repr

/-- One value for each port. -/
structure PerPort (α : Type) where
  main : α
  service : α
  deriving DecidableEq, Repr

namespace PerPort
variable {α : Type}

def get (v : PerPort α) : Port → α
  | .main => v.main
  | .service => v.service

def put (v : PerPort α) (p : Port) (x : α) : PerPort α :=
  match p with
  | .main => { v with main := x }
  | .service => { v with service := x }

@[simp] theorem get_put_same (v : PerPort α) (p : Port) (x : α) : (v.put p x).get p = x := by
  cases p <;> rfl

@[simp] theorem get_put_other (v : PerPort α) {p q : Port} (x : α) (h : q ≠ p) :
    (v.put p x).get q = v.get q := by
  cases p <;> cases q <;> first | rfl | exact absurd rfl h

end PerPort

/-- One value for each timing source. -/
structure PerSource (α : Type) where
  gnss : α
  link : α
  aux : α
  deriving DecidableEq, Repr

namespace PerSource
variable {α : Type}

def get (v : PerSource α) : Source → α
  | .gnss => v.gnss
  | .link => v.link
  | .aux => v.aux

def put (v : PerSource α) (i : Source) (x : α) : PerSource α :=
  match i with
  | .gnss => { v with gnss := x }
  | .link => { v with link := x }
  | .aux => { v with aux := x }

def map {β : Type} (f : α → β) (v : PerSource α) : PerSource β :=
  { gnss := f v.gnss, link := f v.link, aux := f v.aux }

@[simp] theorem get_put_same (v : PerSource α) (i : Source) (x : α) : (v.put i x).get i = x := by
  cases i <;> rfl

@[simp] theorem get_put_other (v : PerSource α) {i j : Source} (x : α) (h : j ≠ i) :
    (v.put i x).get j = v.get j := by
  cases i <;> cases j <;> first | rfl | exact absurd rfl h

@[simp] theorem get_map {β : Type} (f : α → β) (v : PerSource α) (i : Source) :
    (v.map f).get i = f (v.get i) := by
  cases i <;> rfl

end PerSource

/-- One value for each discrete input. -/
structure PerInput (α : Type) where
  resetN : α
  mastMoving : α
  oduLock : α
  svcConnect : α
  deriving DecidableEq, Repr

namespace PerInput
variable {α : Type}

def get (v : PerInput α) : InputPin → α
  | .resetN => v.resetN
  | .mastMoving => v.mastMoving
  | .oduLock => v.oduLock
  | .svcConnect => v.svcConnect

def put (v : PerInput α) (i : InputPin) (x : α) : PerInput α :=
  match i with
  | .resetN => { v with resetN := x }
  | .mastMoving => { v with mastMoving := x }
  | .oduLock => { v with oduLock := x }
  | .svcConnect => { v with svcConnect := x }

@[simp] theorem get_put_same (v : PerInput α) (i : InputPin) (x : α) : (v.put i x).get i = x := by
  cases i <;> rfl

@[simp] theorem get_put_other (v : PerInput α) {i j : InputPin} (x : α) (h : j ≠ i) :
    (v.put i x).get j = v.get j := by
  cases i <;> cases j <;> first | rfl | exact absurd rfl h

end PerInput

/-- One value for each feeder-sense line. -/
structure PerLine (α : Type) where
  f0 : α
  f1 : α
  f2 : α
  f3 : α
  deriving DecidableEq, Repr

namespace PerLine
variable {α : Type}

def get (v : PerLine α) : FeederLine → α
  | .f0 => v.f0
  | .f1 => v.f1
  | .f2 => v.f2
  | .f3 => v.f3

def put (v : PerLine α) (i : FeederLine) (x : α) : PerLine α :=
  match i with
  | .f0 => { v with f0 := x }
  | .f1 => { v with f1 := x }
  | .f2 => { v with f2 := x }
  | .f3 => { v with f3 := x }

def map {β : Type} (f : α → β) (v : PerLine α) : PerLine β :=
  { f0 := f v.f0, f1 := f v.f1, f2 := f v.f2, f3 := f v.f3 }

@[simp] theorem get_put_same (v : PerLine α) (i : FeederLine) (x : α) : (v.put i x).get i = x := by
  cases i <;> rfl

@[simp] theorem get_put_other (v : PerLine α) {i j : FeederLine} (x : α) (h : j ≠ i) :
    (v.put i x).get j = v.get j := by
  cases i <;> cases j <;> first | rfl | exact absurd rfl h

end PerLine

/-- A set of named things as a list in ONE order: the elements of `all` that `l` holds, so that equal sets
are equal lists and a thing named twice is held once. -/
def asSet {α : Type} [DecidableEq α] (all l : List α) : List α :=
  all.filter fun x => decide (x ∈ l)

end Sys2Proof
end

