-- ==== Sys2Proof/Syntax.lean ====
section
/-! DEFINITION. The commands of the part: one constructor of `Instr` for each row of the table of operations and
events, with its operands. A request row carries its fields as the line gave them, so a field may be absent, a number
may lie outside its range and a name may be none of those listed: the owning block judges that (R190, R201). -/

namespace Sys2Proof

/-- The tag of a request line as it was written: its number and how many digits spelt it (R189, R190). -/
structure Tag where
  value : Nat
  width : Nat
  deriving DecidableEq, Repr

/-- A name given for a field: one of the names the owning rule lists, or some other name in form. -/
inductive Named (α : Type) where
  | known (a : α)
  | other
  deriving DecidableEq, Repr

/-- What every request row carries: its port, its tag, and whether the line holds a key that the request does
not take (R201: the owning block refuses such a request with NO RANGE). -/
structure Req where
  port : Port
  tag : Tag
  extra : Bool
  deriving DecidableEq, Repr

inductive RangeName where
  | coarse | fine
  deriving DecidableEq, Repr

inductive RangeMode where
  | auto | forceCoarse | forceFine
  deriving DecidableEq, Repr

inductive Polarity where
  | normal | inverted
  deriving DecidableEq, Repr

inductive PulsePolarity where
  | activeHigh | activeLow
  deriving DecidableEq, Repr

inductive Squelch where
  | never | freerun | unfit
  deriving DecidableEq, Repr

inductive TemplateName where
  | profile | loopOn | loopOff
  deriving DecidableEq, Repr

inductive Duplex where
  | fdd | tdd
  deriving DecidableEq, Repr

inductive BusFlag where
  | start | stop | ackLast | cont
  deriving DecidableEq, Repr

inductive TestKind where
  | feeder | loopNear | loopFar | pulse | probe
  deriving DecidableEq, Repr

inductive ExpectClass where
  | present | opened | any
  deriving DecidableEq, Repr

inductive CheckMode where
  | required | optional
  deriving DecidableEq, Repr

inductive NoticeClass where
  | link | level | bus | time | share | test | site | port
  deriving DecidableEq, Repr

/-- The access groups of section 10.5. -/
inductive Group where
  | view | align | test | carrier | tenantCfg | linkCfg | timingCfg | bus | store | sitePhase
  deriving DecidableEq, Repr

/-- A group's minimum access level. -/
inductive MinLevel where
  | opened | tenant | site
  deriving DecidableEq, Repr

/-- The two levels that UNLOCK and CRED SET name. -/
inductive CredLevel where
  | site | tenant
  deriving DecidableEq, Repr

/-- A credential as written: NONE, or characters in form (R196 judges their number). -/
inductive Cred where
  | absent
  | text (k : List Char)
  deriving DecidableEq, Repr

/-- The counter selectors of section 11.3. -/
inductive CounterName where
  | levelClamps | rangeSwitches | linkFades | linkLosses | profileUp | profileDown | oduFaults
  | busOk | busNak | busArb | busTimeout | busHoldExpired | oscFails | jumps
  | srcEarly | srcGood | srcBad | srcMissing | srcIgnored
  | sheds | reshares | testsRun | testsPassed | testsFailed | logDrops
  | drops | noticeDrops | unlockFails
  deriving DecidableEq, Repr

/-- The index= field of COUNT READ and COUNT CLEAR: a number, or a name. -/
inductive IndexArg where
  | num (i : Int)
  | port (p : Port)
  | other
  deriving DecidableEq, Repr

/-- The permit= field: a line number, NONE, or some other name. -/
inductive PermitArg where
  | line (i : Int)
  | noLine
  | other
  deriving DecidableEq, Repr

inductive EdgeDir where
  | rise | fall
  deriving DecidableEq, Repr

/-- One character received on a port's serial line (R187). -/
inductive RxChar where
  | code (b : Byte)
  | framingError
  deriving DecidableEq, Repr

/-- How the bus transaction in progress ended, other than by a timeout (R44, R55, R56). -/
inductive BusEnd where
  | ok (data : List Byte)
  | nak (written : Nat)
  | arbLost (written : Nat) (data : List Byte)
  deriving DecidableEq, Repr

/-- Why a taken line is no request (R189). -/
inductive NotRequest where
  | noTag
  | overlong (t : Tag)
  | badCheck (t : Tag)
  | badGrammar (t : Tag)
  | unknownVerb (t : Tag)
  deriving DecidableEq, Repr

structure LevelCalArgs where
  range : Option (Named RangeName)
  scale : Option Int
  shift : Option Int
  offset : Option Int
  xover : Option Int
  mode : Option (Named RangeMode)
  deriving DecidableEq, Repr

structure IndicatorArgs where
  floor : Option Int
  span : Option Int
  polarity : Option (Named Polarity)
  deriving DecidableEq, Repr

structure ProfileArgs where
  enabled : Option Bool
  cap : Option Int
  up : Option Int
  down : Option Int
  code : Option Int
  deriving DecidableEq, Repr

structure TemplateArgs where
  addr : Option Int
  bytes : Option (List Byte)
  pos : Option Int
  deriving DecidableEq, Repr

structure LinkSetArgs where
  high : Option Int
  low : Option Int
  fade : Option Int
  restore : Option Int
  upshift : Option Int
  reserve : Option Int
  autostart : Option (Named Bool)
  deriving DecidableEq, Repr

structure XferArgs where
  addr : Option Int
  write : List Byte
  read : Option Int
  flags : Option (List BusFlag)
  deriving DecidableEq, Repr

structure PulseArgs where
  width : Option Int
  polarity : Option (Named PulsePolarity)
  squelch : Option (Named Squelch)
  auxDiv : Option Int
  deriving DecidableEq, Repr

structure SourceArgs where
  enabled : Option Bool
  priority : Option Int
  tol : Option Int
  qualify : Option Int
  fail : Option Int
  stability : Option Int
  allowance : Option Int
  deriving DecidableEq, Repr

structure TimingArgs where
  jump : Option Int
  slew : Option Int
  window : Option Int
  lockcount : Option Int
  holdover : Option Int
  drift : Option Int
  tdd : Option Int
  revertive : Option (Named Bool)
  deriving DecidableEq, Repr

structure TenantArgs where
  defined : Option Bool
  floor : Option Int
  ceiling : Option Int
  weight : Option Int
  deriving DecidableEq, Repr

structure CarrierArgs where
  tenant : Option Int
  sector : Option Int
  duplex : Option (Named Duplex)
  cls : Option Int
  min : Option Int
  permit : Option PermitArg
  defined : Option Bool
  deriving DecidableEq, Repr

/-- The parameter fields of TEST ADD, of every kind (chapter 8). -/
structure TestArgs where
  lines : Option (List (Named FeederLine))
  clock : Option Int
  discharge : Option Int
  reload : Option Int
  length : Option Int
  count : Option Int
  allowed : Option Int
  widthTol : Option Int
  offset : Option Int
  addr : Option Int
  reg : Option (List Byte)
  read : Option Int
  expect : Option (List Byte)
  mask : Option (List Byte)
  deriving DecidableEq, Repr

structure FeederArgs where
  expect : Option (Named ExpectClass)
  lo : Option Int
  hi : Option Int
  openLimit : Option Int
  deriving DecidableEq, Repr

structure CredArgs where
  level : Option (Named CredLevel)
  tenant : Option Int
  cred : Option Cred
  deriving DecidableEq, Repr

/-- The commands: the 108 rows of the table, in its order. The first 43 and the last two are events; the others
are the requests of the two ports. -/
inductive Instr where
  | powerOnReset
  | pinReset
  | pinResetEnd
  | restartTakesPlace
  /-- a converter count (R1) -/
  | sample (raw : Fin 4096)
  | fadeTimerExpiry
  | restoreTimerExpiry
  | upshiftHoldExpiry
  | mastMovingChange (level : Bool)
  | oduLockChange (level : Bool)
  | svcConnectDeassert
  | svcConnectAssert
  | busFreeStart
  | busFreeTimeout
  /-- the write bytes acknowledged and the bytes read before the stretched one (R54) -/
  | byteStretchTimeout (written : Nat) (data : List Byte)
  | transactionComplete (how : BusEnd)
  | holdDeadlineExpiry
  | secondBoundary
  | startHoldEnd
  | pulseWidthEnd
  | steeringPoint
  /-- the LO cycles counted in the window (R66) -/
  | oscCheckWindowEnd (loCycles : Nat)
  /-- an edge, `steps` steps of the timebase in force after the timebase last moved: 10 ns each on the LO, one RC
  cycle each on the RC clock (R62, R63, R69) -/
  | ppsEdge (src : Source) (dir : EdgeDir) (steps : Nat)
  | missing (src : Source)
  | carrierRestoreExpiry (c : Fin 16)
  | holdTimerExpiry (c : Fin 16)
  | deferTimerExpiry
  | dischargeTimerExpiry
  /-- a comparator report `ticks` sense-clock ticks after the unit's last event (R159) -/
  | comparatorTrip (line : FeederLine) (ticks : Nat)
  | feederCounterOverflow (line : FeederLine)
  | frameSent
  | frameReceived (content : List Byte)
  | returnTimerExpiry
  | edgeWatchExpiry
  | quietHalf
  | quietExpired
  /-- the characters received on the port since its last line end; the line end follows them (R187) -/
  | lineComplete (port : Port) (chars : List RxChar)
  | lineNotRequest (port : Port) (why : NotRequest)
  | transmitLineSent (port : Port)
  | lockoutTimerExpiry (port : Port)
  | intervalTimerExpiry (port : Port)
  | spacingTimerExpiry (port : Port)
  /-- whether the check of the image read back agrees (R204) -/
  | saveWriteEnd (good : Bool)
  | levelRead (rq : Req)
  | levelHistory (rq : Req) (start n : Option Int)
  | levelCal (rq : Req) (a : LevelCalArgs)
  | alignStart (rq : Req) (interval : Option Int)
  | alignStop (rq : Req)
  | alignMark (rq : Req)
  | alignRead (rq : Req)
  | indicatorSet (rq : Req) (a : IndicatorArgs)
  | linkStart (rq : Req)
  | linkStop (rq : Req)
  | profileSet (rq : Req) (p : Option Int) (a : ProfileArgs)
  | profileRead (rq : Req) (p : Option Int)
  | templateSet (rq : Req) (name : Option (Named TemplateName)) (a : TemplateArgs)
  | templateRead (rq : Req) (name : Option (Named TemplateName))
  | linkSet (rq : Req) (a : LinkSetArgs)
  | linkRead (rq : Req)
  | busXfer (rq : Req) (a : XferArgs)
  | busResult (rq : Req) (t : Option Int)
  | busRead (rq : Req)
  | pulseSet (rq : Req) (a : PulseArgs)
  | timeRead (rq : Req)
  | captureRead (rq : Req) (i : Option Int)
  | sourceSet (rq : Req) (i : Option Int) (a : SourceArgs)
  | timingSet (rq : Req) (a : TimingArgs)
  | sourceRead (rq : Req) (i : Option Int)
  | timingRead (rq : Req)
  | tenantSet (rq : Req) (t : Option Int) (a : TenantArgs)
  | tenantRead (rq : Req) (t : Option Int)
  | carrierDefine (rq : Req) (c : Option Int) (a : CarrierArgs)
  | carrierRequest (rq : Req) (c : Option Int) (demand : Option Int)
  | carrierRelease (rq : Req) (c : Option Int)
  | carrierHold (rq : Req) (c : Option Int) (ms : Option Int)
  | carrierRead (rq : Req) (c : Option Int)
  | shareSet (rq : Req) (borrow restore : Option Int)
  | shareRead (rq : Req)
  | testAdd (rq : Req) (kind : Option (Named TestKind)) (a : TestArgs)
  | testCancel (rq : Req) (n : Option Int)
  | testRead (rq : Req) (n : Option Int)
  | resultRead (rq : Req) (n : Option Int)
  | acceptSet (rq : Req) (mask : Option (List (Named TestKind)))
  | acceptRead (rq : Req)
  | feederSet (rq : Req) (f : Option (Named FeederLine)) (a : FeederArgs)
  | feederRead (rq : Req) (f : Option (Named FeederLine))
  | inputSet (rq : Req) (name : Option (Named InputPin)) (filter : Option Int)
  | inputRead (rq : Req)
  | goLive (rq : Req) (force : Bool)
  | stage (rq : Req)
  | quietSet (rq : Req) (period : Option Int)
  | restart (rq : Req)
  | siteRead (rq : Req)
  | checkSet (rq : Req) (mode : Option (Named CheckMode))
  | noticeSet (rq : Req) (classes : Option (List (Named NoticeClass)))
  | summary (rq : Req)
  | summarySet (rq : Req) (interval : Option Int) (change : Option (Named Bool))
  | unlock (rq : Req) (a : CredArgs)
  | lock (rq : Req)
  | credSet (rq : Req) (a : CredArgs)
  | accessSet (rq : Req) (group : Option (Named Group)) (level : Option (Named MinLevel))
  | countRead (rq : Req) (name : Option (Named CounterName)) (index : Option IndexArg)
  | countClear (rq : Req) (name : Option (Named CounterName)) (index : Option IndexArg)
  | save (rq : Req)
  | load (rq : Req)
  | storeRead (rq : Req)
  | inputPinChange (pin : InputPin) (level : Bool)
  | supplyLoss
  deriving DecidableEq, Repr

end Sys2Proof
end

