-- ==== Sys2Proof/Decode.lean ====
section
/-! DEFINITION. The command that a word of the table spells. The part takes commands and text lines, and no row of
the table gives bits, so no word spells a command. -/

namespace Sys2Proof

/-- No row of the table gives bits (its "fields" are empty), so every word is refused. -/
def decodeTableWord (_nbits _w : Nat) : Option Instr := none

end Sys2Proof
end

