-- ==== Sys2Proof/Config.lean ====
section
/-! DEFINITION. The stored settings of the part, as data, and the values that the spec leaves free. -/

namespace Sys2Proof

/-- FREE VALUE (log 2). How many LO cycles fall in the RC cycle with this number: the spec fixes no rate of the LO
against the RC clock. -/
opaque Config.loCyclesInRcCycle : Nat → Nat

/-- FREE VALUE (log 2). How many cycles of the internal 8 MHz clock, from which the sense clocks 0 to 6 are divided,
fall in the RC cycle with this number: the spec fixes no rate of the one against the other. -/
opaque Config.senseCyclesInRcCycle : Nat → Nat

/-- FREE VALUE (log 4). The value of a 32-bit count that the spec neither holds nor wraps at its top: the save
number and the holdover seconds. -/
opaque Config.countAfterTop : Nat → Nat

namespace Machine

/-- A calibration record (R2). -/
structure Cal where
  scale : Nat
  shift : Nat
  offset : Int
  deriving DecidableEq, Repr

/-- The settings of section 1.1. -/
structure LevelSettings where
  coarse : Cal
  fine : Cal
  xover : Nat
  mode : RangeMode
  floor : Int
  span : Nat
  polarity : Polarity
  deriving DecidableEq, Repr

/-- The settings of section 2.1: HIGH and LOW in tenths of a dBm, the fade time in steps of 250 ms, the restore
time and the upshift hold in s, the reserve in CU. -/
structure LinkSettings where
  high : Int
  low : Int
  fade : Nat
  restore : Nat
  upshift : Nat
  reserve : Nat
  autostart : Bool
  deriving DecidableEq, Repr

/-- A record of the profile table (section 2.4). -/
structure Profile where
  enabled : Bool
  cap : Nat
  up : Int
  down : Int
  code : Byte
  deriving DecidableEq, Repr

/-- An ODU template (section 2.8). LOOPON and LOOPOFF have no substitution position; theirs stays 0. -/
structure Template where
  addr : Nat
  bytes : List Byte
  pos : Nat
  deriving DecidableEq, Repr

structure Templates where
  profile : Template
  loopOn : Template
  loopOff : Template
  deriving DecidableEq, Repr

/-- The three SITE_PPS settings that have an active and a latched value (section 4.6); the width in ms. -/
structure PulseSettings where
  width : Nat
  polarity : PulsePolarity
  squelch : Squelch
  deriving DecidableEq, Repr

/-- The settings of one timing source (section 5.1). -/
structure SourceSettings where
  enabled : Bool
  priority : Nat
  tol : Nat
  qualify : Nat
  fail : Nat
  stability : Nat
  allowance : Nat
  deriving DecidableEq, Repr

/-- The settings common to the sources (section 5.1). -/
structure TimingSettings where
  jump : Nat
  slew : Nat
  window : Nat
  lockcount : Nat
  holdover : Nat
  drift : Nat
  tdd : Nat
  revertive : Bool
  deriving DecidableEq, Repr

/-- The settings of one tenant (section 6.1); the credential is 8 characters or absent. -/
structure TenantSettings where
  defined : Bool
  floor : Nat
  ceiling : Nat
  weight : Nat
  cred : Option (List Char)
  deriving DecidableEq, Repr

/-- The definition of a carrier (section 6.1); an undefined carrier has none. -/
structure CarrierDef where
  tenant : Fin 4
  sector : Nat
  duplex : Duplex
  cls : Nat
  min : Nat
  permit : Option (Fin 8)
  deriving DecidableEq, Repr

/-- A feeder record (section 8.1), in sense-clock ticks. -/
structure FeederRec where
  expect : ExpectClass
  lo : Nat
  hi : Nat
  openLimit : Nat
  deriving DecidableEq, Repr

/-- The stored settings of one port (section 10.1); the interval in s. -/
structure PortSettings where
  check : CheckMode
  mask : List NoticeClass
  interval : Nat
  change : Bool
  deriving DecidableEq, Repr

/-- The minimum level of each access group (section 10.5). -/
structure Minima where
  view : MinLevel
  align : MinLevel
  test : MinLevel
  carrier : MinLevel
  tenantCfg : MinLevel
  linkCfg : MinLevel
  timingCfg : MinLevel
  bus : MinLevel
  store : MinLevel
  sitePhase : MinLevel
  deriving DecidableEq, Repr

/-- Every stored setting (section 11.4): what the settings image holds, and, in State, the values in force. Of the
SITE_PPS settings these are the latched values (R74, log 12). -/
structure Settings where
  level : LevelSettings
  link : LinkSettings
  profiles : Vector Profile 8
  templates : Templates
  pulse : PulseSettings
  auxDiv : Nat
  sources : PerSource SourceSettings
  timing : TimingSettings
  tenants : Vector TenantSettings 4
  carriers : Vector (Option CarrierDef) 16
  borrow : Nat
  restoreHold : Nat
  acceptMask : List TestKind
  feeders : PerLine FeederRec
  quiet : Nat
  filters : PerInput Nat
  ports : PerPort PortSettings
  minima : Minima
  siteCred : Option (List Char)
  deriving DecidableEq, Repr

end Machine
end Sys2Proof
end

