-- ==== Sys2Proof/Machine/Factory.lean ====
section
/-! DEFINITION. The factory defaults (section 11.4 and the tables it gathers) and the full lists of names. -/

namespace Sys2Proof.Machine

def allKinds : List TestKind := [.feeder, .loopNear, .loopFar, .pulse, .probe]

def allClasses : List NoticeClass := [.link, .level, .bus, .time, .share, .test, .site, .port]

def allLines : List FeederLine := [.f0, .f1, .f2, .f3]

def allSources : List Source := [.gnss, .link, .aux]

def allPins : List InputPin := [.resetN, .mastMoving, .oduLock, .svcConnect]

def allGroups : List Group :=
  [.view, .align, .test, .carrier, .tenantCfg, .linkCfg, .timingCfg, .bus, .store, .sitePhase]

/-- Section 1.1. -/
def LevelSettings.factory : LevelSettings :=
  { coarse := { scale := 63, shift := 0, offset := -1100 }
    fine := { scale := 25, shift := 0, offset := -1100 }
    xover := 1500, mode := .auto, floor := -900, span := 300, polarity := .normal }

/-- Section 2.1. -/
def LinkSettings.factory : LinkSettings :=
  { high := -800, low := -850, fade := 4, restore := 5, upshift := 3, reserve := 2, autostart := false }

/-- Section 2.4. Profile 0 has no thresholds; its two fields are kept at -1200 and read nowhere. -/
def profilesFactory : Vector Profile 8 :=
  #v[{ enabled := true, cap := 40, up := -1200, down := -1200, code := 0 },
     { enabled := true, cap := 80, up := -780, down := -800, code := 1 },
     { enabled := true, cap := 160, up := -720, down := -740, code := 2 },
     { enabled := true, cap := 240, up := -660, down := -680, code := 3 },
     { enabled := true, cap := 320, up := -600, down := -620, code := 4 },
     { enabled := true, cap := 400, up := -540, down := -560, code := 5 },
     { enabled := false, cap := 0, up := -1200, down := -1200, code := 6 },
     { enabled := false, cap := 0, up := -1200, down := -1200, code := 7 }]

/-- Section 2.8. -/
def Templates.factory : Templates :=
  { profile := { addr := 58, bytes := [0x41, 0x00], pos := 1 }
    loopOn := { addr := 58, bytes := [0x42, 0x01], pos := 0 }
    loopOff := { addr := 58, bytes := [0x42, 0x00], pos := 0 } }

/-- Section 4.6. -/
def PulseSettings.factory : PulseSettings :=
  { width := 100, polarity := .activeHigh, squelch := .freerun }

/-- Section 5.1, first table of values. -/
def sourcesFactory : PerSource SourceSettings :=
  { gnss := { enabled := true, priority := 0, tol := 1000, qualify := 10, fail := 3, stability := 200,
              allowance := 100 }
    link := { enabled := true, priority := 1, tol := 1000, qualify := 10, fail := 3, stability := 200,
              allowance := 400 }
    aux := { enabled := false, priority := 2, tol := 1000, qualify := 10, fail := 3, stability := 200,
             allowance := 200 } }

/-- Section 5.1, the common settings. -/
def TimingSettings.factory : TimingSettings :=
  { jump := 1000, slew := 50, window := 100, lockcount := 5, holdover := 100000, drift := 1, tdd := 1500,
    revertive := true }

/-- Section 6.1. -/
def TenantSettings.factory : TenantSettings :=
  { defined := false, floor := 0, ceiling := 4000, weight := 1, cred := none }

/-- Section 8.1. -/
def FeederRec.factory : FeederRec := { expect := .any, lo := 100, hi := 2000, openLimit := 20 }

/-- Section 10.1. -/
def portsFactory : PerPort PortSettings :=
  { main := { check := .required, mask := allClasses, interval := 0, change := false }
    service := { check := .optional, mask := [.link, .level, .test, .site, .port], interval := 10,
                 change := false } }

/-- Section 10.5. -/
def Minima.factory : Minima :=
  { view := .opened, align := .tenant, test := .tenant, carrier := .tenant, tenantCfg := .site, linkCfg := .site,
    timingCfg := .site, bus := .site, store := .site, sitePhase := .site }

/-- Section 11.4: what every block takes from a store whose check fails. -/
def Settings.factory : Settings :=
  { level := .factory
    link := .factory
    profiles := profilesFactory
    templates := .factory
    pulse := .factory
    auxDiv := 1
    sources := sourcesFactory
    timing := .factory
    tenants := .replicate 4 .factory
    carriers := .replicate 16 none
    borrow := 2
    restoreHold := 10
    acceptMask := [.feeder, .loopNear, .probe]
    feeders := { f0 := .factory, f1 := .factory, f2 := .factory, f3 := .factory }
    quiet := 30
    filters := { resetN := 1, mastMoving := 10, oduLock := 10, svcConnect := 10 }
    ports := portsFactory
    minima := .factory
    siteCred := none }

end Sys2Proof.Machine
end

