-- ==== Sys2Proof/Machine/State.lean ====
section
/-! DEFINITION. The state of the part, block by block as section "Organisation of the part" of the scope file lists
them, as plain data; the reasons a step can stop; and the state right after a power-on reset. -/

namespace Sys2Proof.Machine

/-- Why the part stops with a fault: the spec names no such behaviour, so nothing raises one. -/
inductive Fault
  deriving DecidableEq, Repr

/-- Why a command has no meaning. -/
inductive Refusal where
  /-- Raised by an arm of exec whose command has no meaning yet; no arm of this model raises it. Safe. -/
  | notModelled (mnemonic : String)
  deriving DecidableEq, Repr

/-- Whether the part has supply, and whether the filtered RESET_N holds it in reset (R175, R203). -/
inductive Run where
  | off | held | running
  deriving DecidableEq, Repr

/-! ## Lines the part sends (R191, R202) -/

/-- The value of a field of a line (section 11.1). -/
inductive Val where
  | absent
  | int (i : Int)
  | word (w : String)
  | words (l : List String)
  | ints (l : List Int)
  | bytes (l : List Byte)
  | time (t : SiteTime)
  | tag (t : Tag)
  deriving DecidableEq, Repr

/-- A key=value pair; `caret` is the trailing mark of a changed value in a summary (section 11.2). -/
structure Pair where
  key : String
  val : Val
  caret : Bool
  deriving DecidableEq, Repr

/-- How a line begins: the request's tag, a question mark in its place, or the mark of a notice. -/
inductive Lead where
  | tag (t : Tag)
  | unread
  | notice
  deriving DecidableEq, Repr

/-- One line of a transmit queue: its lead, the `+` of a continuation line, its words, its pairs, and whether it
carries a check. -/
structure TxLine where
  lead : Lead
  plus : Bool
  words : List String
  pairs : List Pair
  checked : Bool
  deriving DecidableEq, Repr

/-- The reasons of a reply NO (R190). -/
inductive Reason where
  | noSyntax | noCheck | noUnknown | noLevel | noRange | noState | noBusy | noFull | noOwned | noPhase | noWait
  deriving DecidableEq, Repr

/-- The three forms of a reply (R190); a reply OK has fields and, where it carries several records, the records. -/
inductive Reply where
  | ok (head : List Pair) (records : List (List Pair))
  | go
  | no (r : Reason)
  deriving DecidableEq, Repr

/-! ## Level monitor (chapter 01) -/

inductive Owner where
  | port (p : Port)
  | mast
  deriving DecidableEq, Repr

structure LastSample where
  raw : Nat
  range : RangeName
  value : Int
  deriving DecidableEq, Repr

/-- The alignment record (section 1.3); the peak carries its time. -/
structure AlignRec where
  owner : Owner
  mastFlag : Bool
  start : SiteTime
  current : Option Int
  peak : Option (Int × SiteTime)
  reports : Nat
  interval : Nat
  toNext : Nat
  deriving DecidableEq, Repr

structure Level where
  range : RangeName
  last : Option LastSample
  window : List Int
  samples : Nat
  smoothed : Option Int
  history : List Int
  align : Option AlignRec
  indicator : Nat
  outPolarity : Polarity
  density : Nat
  acc : Nat
  pin : Bool
  deriving DecidableEq, Repr

/-! ## Link supervisor (chapter 02) -/

inductive LinkState where
  | off | acquire | align | up | fade | lost | test
  deriving DecidableEq, Repr

/-- Where a write kept by its requester stands: in the internal slot or on the bus, or kept back (R21, R141). -/
inductive Place where
  | offered | keptBack
  deriving DecidableEq, Repr

/-- The write of the init sequence that stands next: the first or the second, its attempt, and, once it has been
handed over, the address and the bytes it was formed with (R21, R33), which a retry keeps. -/
structure InitWrite where
  second : Bool
  attempt : Nat
  place : Place
  formed : Option (Nat × List Byte)
  deriving DecidableEq, Repr

structure Link where
  state : LinkState
  confirmed : Option (Fin 8)
  pending : Option (Fin 8)
  guard : Option (Fin 8)
  base : Nat
  fadeTimer : Option Nat
  restoreTimer : Option Nat
  upshiftTimer : Option Nat
  restoreDue : Bool
  init : Option InitWrite
  alignInd : Bool
  claim : Option Nat
  lockLevel : Bool
  unbroken : Bool
  discardInit : Bool
  discardProfile : Bool
  deriving DecidableEq, Repr

/-! ## ODU bus controller (chapter 03) -/

inductive Requester where
  | port (p : Port)
  | link
  | test
  deriving DecidableEq, Repr

inductive Purpose where
  | profile | init | probe | loopOn | loopOff
  deriving DecidableEq, Repr

inductive BusStatus where
  | ok | nak | arbLost | timeout | cancelled
  deriving DecidableEq, Repr

/-- A transaction record (section 3.1), with the target, attempt and confirmation mark that a LINK write carries
(R33). Bytes read is the length of the read data. -/
structure Txn where
  requester : Requester
  tag : Option Tag
  purpose : Option Purpose
  target : Option (Fin 8)
  attempt : Nat
  confirm : Bool
  addr : Nat
  write : List Byte
  read : Nat
  start : Bool
  stop : Bool
  ackLast : Bool
  cont : Bool
  status : Option BusStatus
  written : Nat
  data : List Byte
  deriving DecidableEq, Repr

inductive OpenPhase where
  | closed | write | readAcked | readNacked
  deriving DecidableEq, Repr

inductive HoldCause where
  | deadline | lock | disconnect
  deriving DecidableEq, Repr

/-- The transaction in progress: its record, the ms since it was taken, whether its start condition (or its
continuation) has gone out, and the cause of a hold expiry that came while it ran (R52). -/
structure InProgress where
  txn : Txn
  ms : Nat
  started : Bool
  expiry : Option HoldCause
  deriving DecidableEq, Repr

structure Hold where
  port : Port
  left : Nat
  phase : OpenPhase
  deriving DecidableEq, Repr

structure Bus where
  profileSlot : Option Txn
  internalSlot : Option Txn
  fifo : List Txn
  current : Option InProgress
  hold : Option Hold
  noteLink : Bool
  noteTest : Bool
  results : PerPort (List Txn)
  deriving DecidableEq, Repr

/-! ## Site clock (chapter 04) -/

inductive TimingState where
  | freerun | locking | locked | holdover
  deriving DecidableEq, Repr

inductive Grade where
  | oscFail | unfit | tddOk
  deriving DecidableEq, Repr

inductive Interval where
  | ns (n : Nat)
  | long
  deriving DecidableEq, Repr

/-- A capture record (section 4.5). The elapsed count is in units of 1/32768 ns, in which a step of the LO and a
cycle of the RC clock are both whole numbers; it runs while a last capture is held. -/
structure CaptureRec where
  last : Option SiteTime
  interval : Option Interval
  coarse : Bool
  elapsed : Nat
  deriving DecidableEq, Repr

/-- The site clock (section 4.1). The timebase is RC while `oscBad` and LO otherwise. `rcCycle` is the RC cycle of
the second, `owed` the steps of an RC cycle that lie after a boundary, `ahead` the time, in units of 1/32768 ns, by
which commands have moved the timebase ahead of the RC cycles run (log 1). While `passing`, OSC_BAD has set and counting
passes to the RC clock at the next RC cycle edge (R63). -/
structure Clock where
  sec : BitVec 32
  ns : Nat
  rcCycle : Nat
  owed : Nat
  ahead : Nat
  passing : Bool
  oscBad : Bool
  goodRun : Nat
  lastWindow : Option Nat
  windowRc : Nat
  windowLo : Nat
  steer : Option Int
  jump : Option Int
  permitted : Bool
  startHold : Option Nat
  tstate : TimingState
  grade : Grade
  enabled : PerSource Bool
  captures : PerSource CaptureRec
  auxCount : Nat
  divert : Option Nat
  lastDiverted : Option (SiteTime × EdgeDir)
  active : PulseSettings
  squelched : Bool
  ppsActive : Bool
  pulseLeft : Option Nat
  deriving DecidableEq, Repr

/-! ## Timing selector (chapter 05) -/

inductive SourceState where
  | off | check | qualifying | qualified | failed
  deriving DecidableEq, Repr

structure Anchor where
  min : Int
  max : Int
  deriving DecidableEq, Repr

/-- The state of a source record (section 5.1), with the offset of its good capture since the last steering point,
which R90 uses. -/
structure SourceRec where
  state : SourceState
  lastTime : Option SiteTime
  lastOffset : Option Int
  goodRun : Nat
  anchor : Option Anchor
  badRun : Nat
  watch : Option Nat
  mark : Option Nat
  fresh : Option Int
  deriving DecidableEq, Repr

structure JumpRequest where
  amount : Int
  source : Source
  deriving DecidableEq, Repr

/-- The settings that apply from the second boundary after they are set (R103, R104), as taken at the last one. -/
structure TimingLatch where
  priority : PerSource Nat
  revertive : Bool
  holdover : Nat
  drift : Nat
  tdd : Nat
  deriving DecidableEq, Repr

/-- The timing selector's own state; `bound` is absent when UNBOUNDED. -/
structure Timing where
  sources : PerSource SourceRec
  selected : Option Source
  state : TimingState
  everLocked : Bool
  lockRun : Nat
  unlockRun : Nat
  entryBound : Option Nat
  holdSecs : Option Nat
  bound : Option Nat
  grade : Grade
  jumpReq : Option JumpRequest
  lastJump : Option Int
  handed : Option Int
  linkCopy : LinkState
  oscCopy : Bool
  latch : TimingLatch
  deriving DecidableEq, Repr

/-! ## Share engine (chapter 06) -/

inductive CarrierState where
  | idle | waiting | active | throttled | held
  deriving DecidableEq, Repr

inductive WaitReason where
  | phase | timing | restore | ceiling | noCapacity
  deriving DecidableEq, Repr

inductive HoldTimer where
  | ms (n : Nat)
  | untilCancelled
  deriving DecidableEq, Repr

/-- What a carrier record holds beside its definition (section 6.1). -/
structure Carrier where
  state : CarrierState
  demand : Nat
  reason : Option WaitReason
  grant : Nat
  order : Option Nat
  restore : Option Nat
  hold : Option HoldTimer
  deriving DecidableEq, Repr

structure TenantTotals where
  admitted : Nat
  granted : Nat
  deriving DecidableEq, Repr

inductive Borrow where
  | absent
  | waiting (amount test : Nat)
  | held (amount test : Nat)
  deriving DecidableEq, Repr

inductive SitePhase where
  | staging | live | autonomous
  deriving DecidableEq, Repr

structure Share where
  carriers : Vector Carrier 16
  tenants : Vector TenantTotals 4
  base : Nat
  reserve : Nat
  grade : Grade
  jump : Bool
  phase : SitePhase
  pool : Nat
  borrow : Borrow
  orders : Nat
  ack : Bool
  ackSent : Bool
  permits : Vector Bool 8
  deriving DecidableEq, Repr

/-! ## Test sequencer (chapters 07 and 08) -/

inductive TestParams where
  | feeder (lines : List FeederLine) (clock discharge reload : Nat)
  | loopNear (length count allowed : Nat)
  | loopFar (length count allowed : Nat)
  | pulse (count widthTol offset : Nat)
  | probe (addr : Nat) (reg : List Byte) (read : Nat) (expect mask : List Byte)
  deriving DecidableEq, Repr

inductive TestState where
  | queued | deferred | running | pass | fail | aborted | refused | cancelled
  deriving DecidableEq, Repr

inductive TestReason where
  | phase | source | link | mast | capacity | cancel | quiet | bus | noPulse | limit | cleanup
  deriving DecidableEq, Repr

inductive Verdict where
  | pass | fail | aborted
  deriving DecidableEq, Repr

inductive LineClass where
  | short | opened | present | outOfWindow
  deriving DecidableEq, Repr

/-- A feeder line in CHARGE (section 8.1). -/
inductive LineState where
  | counting
  | tripped (ticks : Nat)
  | overflow
  deriving DecidableEq, Repr

structure LineResult where
  line : FeederLine
  outcome : LineState
  cls : LineClass
  expect : ExpectClass
  deriving DecidableEq, Repr

inductive TestResults where
  | feeder (lines : List LineResult)
  | loop (loopOn : Option BusStatus) (sent ok errored lost stray : Nat)
  | pulse (measured : Nat) (mean : Option Int) (largest : Option Nat)
  | probe (status : BusStatus) (written : Nat) (data : List Byte) (mismatch : Option Nat)
  deriving DecidableEq, Repr

/-- A test record (section 7.1). -/
structure TestRec where
  number : Nat
  kind : TestKind
  owner : Port
  params : TestParams
  state : TestState
  pending : Option (Verdict × Option TestReason)
  reason : Option TestReason
  loopOffFailed : Bool
  results : Option TestResults
  start : Option (BitVec 32)
  finish : Option (BitVec 32)
  deriving DecidableEq, Repr

/-- The outstanding transaction of the current test (R141); `settling` while its completion is awaited only to be
discarded. -/
structure Outstanding where
  purpose : Purpose
  attempt : Nat
  place : Place
  settling : Bool
  deriving DecidableEq, Repr

/-- How far the cleanup of the current test has come (R146, R147). -/
inductive Stage where
  | measuring | settling | loopOff
  deriving DecidableEq, Repr

/-- An entry of the acceptance record (R152). -/
inductive Entry where
  | absent
  | pass (n : Nat)
  | fail (n : Nat)
  deriving DecidableEq, Repr

structure Acceptance where
  feeder : Entry
  loopNear : Entry
  loopFar : Entry
  pulse : Entry
  probe : Entry
  deriving DecidableEq, Repr

inductive FeederPhase where
  | idle | discharge | charge
  deriving DecidableEq, Repr

structure FeederCount where
  counter : Nat
  state : Option LineState
  deriving DecidableEq, Repr

/-- The feeder-sense unit; an entry of `opened` is true while that line's service switch is open. `divider` is the
count of the divider that makes the sense clock, `ahead` the sense ticks by which commands have moved the counters ahead
of the RC cycles run (log 1). -/
structure FeederUnit where
  phase : FeederPhase
  timer : Option Nat
  divider : Nat
  ahead : Nat
  lines : PerLine FeederCount
  opened : PerLine Bool
  deriving DecidableEq, Repr

/-- The service-channel tester (R164). `next` is the number of the frame being sent while none is outstanding. -/
structure Tester where
  running : Bool
  next : Nat
  outstanding : Option Nat
  timer : Option Nat
  sent : Nat
  ok : Nat
  errored : Nat
  lost : Nat
  stray : Nat
  deriving DecidableEq, Repr

/-- The PULSE measurement (R168): WAIT_TRAIL while a leading edge is kept, WAIT_LEAD otherwise. -/
structure PulseMeasure where
  lead : Option (SiteTime × Int)
  count : Nat
  sum : Int
  largest : Nat
  watch : Option Nat
  width : Nat
  polarity : PulsePolarity
  deriving DecidableEq, Repr

structure Tests where
  queue : List TestRec
  current : Option TestRec
  log : List TestRec
  lastNumber : Nat
  deferTimer : Option Nat
  outstanding : Option Outstanding
  stage : Stage
  acceptance : Acceptance
  feeder : FeederUnit
  tester : Tester
  pulse : Option PulseMeasure
  loopOnStatus : Option BusStatus
  deriving DecidableEq, Repr

/-! ## Site supervisor (chapter 09) -/

/-- A discrete input: the pin, its filtered level, and the change under test with its held time in ms. -/
structure Input where
  pin : Bool
  filtered : Bool
  change : Option (Bool × Nat)
  deriving DecidableEq, Repr

inductive ResetCause where
  | power | pin | restart
  deriving DecidableEq, Repr

/-- A pending RESTART: the requesting port, and the lines of its transmit queue up to and with the reply. -/
structure PendingRestart where
  port : Port
  lines : Nat
  deriving DecidableEq, Repr

structure Site where
  phase : SitePhase
  forced : Bool
  quietMs : Nat
  halfSent : Bool
  expired : Bool
  inputs : PerInput Input
  cause : ResetCause
  restart : Option PendingRestart
  deriving DecidableEq, Repr

/-! ## Request ports (chapter 10) -/

inductive AccessLevel where
  | opened
  | tenant (t : Fin 4)
  | site
  deriving DecidableEq, Repr

/-- The line under assembly (R187); `cr` while a carriage return waits for the next character. -/
structure Assembly where
  chars : List Char
  overlong : Bool
  bad : Bool
  cr : Bool
  deriving DecidableEq, Repr

/-- A complete line of the receive queue with its marks. -/
structure RxLine where
  chars : List Char
  overlong : Bool
  bad : Bool
  deriving DecidableEq, Repr

/-- The keys of the summary record's current values (section 11.2). -/
inductive SumKey where
  | phase | link | profile | base | pool | tstate | grade | source | test
  | idle | waiting | active | throttled | held
  deriving DecidableEq, Repr

/-- The event flags of the summary record (section 10.4). -/
inductive EventFlag where
  | fade | loss | oduFault | busError | sourceFail | jump | shed | testDone | noticeDrop | lineDrop | clamp
  deriving DecidableEq, Repr

/-- The current values of the summary record. -/
structure SumVals where
  phase : SitePhase
  link : LinkState
  profile : Option (Fin 8)
  base : Nat
  pool : Nat
  tstate : TimingState
  grade : Grade
  source : Option Source
  test : Option Nat
  idle : Nat
  waiting : Nat
  active : Nat
  throttled : Nat
  held : Nat
  deriving DecidableEq, Repr

structure Summary where
  vals : SumVals
  changed : List SumKey
  events : List EventFlag
  deriving DecidableEq, Repr

/-- The state of a port (section 10.1). A request is in execution between commands only while lines of its reply
wait for an entry of the transmit queue; `waiting` holds those lines. -/
structure PortState where
  assembly : Assembly
  rxq : List RxLine
  waiting : List TxLine
  txq : List TxLine
  access : AccessLevel
  mismatches : Nat
  lockout : Option Nat
  summary : Summary
  intervalTimer : Option Nat
  spacingTimer : Option Nat
  changePending : Bool
  deriving DecidableEq, Repr

/-! ## Settings store (chapter 11) -/

structure Image where
  settings : Settings
  number : Nat
  good : Bool
  deriving DecidableEq, Repr

structure Writing where
  settings : Settings
  number : Nat
  port : Port
  tag : Tag
  deriving DecidableEq, Repr

structure Store where
  image : Image
  blank : Bool
  writing : Option Writing
  deriving DecidableEq, Repr

/-! ## Counters (R200) -/

structure Counters where
  levelClamps : Nat
  rangeSwitches : Nat
  linkFades : Nat
  linkLosses : Nat
  profileUp : Nat
  profileDown : Nat
  oduFaults : Nat
  busOk : Nat
  busNak : Nat
  busArb : Nat
  busTimeout : Nat
  busHoldExpired : Nat
  oscFails : Nat
  jumps : Nat
  srcEarly : PerSource Nat
  srcGood : PerSource Nat
  srcBad : PerSource Nat
  srcMissing : PerSource Nat
  srcIgnored : PerSource Nat
  sheds : Nat
  reshares : Nat
  testsRun : Nat
  testsPassed : Nat
  testsFailed : Nat
  logDrops : Nat
  drops : PerPort Nat
  noticeDrops : PerPort Nat
  unlockFails : Nat
  deriving DecidableEq, Repr

/-! ## The whole part -/

/-- What one block delivers to another as an event of its own (log 3). -/
inductive Signal where
  /-- alignment became active: level monitor to link supervisor (R15, R23) -/
  | alignStart
  /-- alignment ended: level monitor to link supervisor (R15, R23) -/
  | alignEnd
  /-- link-state event to the timing selector (R86) -/
  | linkToTiming (st : LinkState)
  /-- link-state event to the test sequencer (R138) -/
  | linkToTests (st : LinkState)
  /-- the bus may be available: the controller chooses (R50) -/
  | busChoose
  /-- completion of a LINK transaction (R57) -/
  | completeLink (t : Txn)
  /-- completion of a TEST transaction (R57) -/
  | completeTest (t : Txn)
  /-- slot-free events (R47) -/
  | slotFreeLink
  | slotFreeTest
  /-- the share engine's answers to the test sequencer (R127) -/
  | borrowGranted (n : Nat)
  | borrowDeferred (n : Nat)
  | borrowRevoked (n : Nat)
  /-- the running slot is empty and the queue may hold a test (R137) -/
  | takeTest
  /-- the cleanup of the current test may go on (R146) -/
  | cleanup
  deriving DecidableEq, Repr

/-- The RC clock: the accumulator from which ms ticks are derived and the number of cycles run (log 1). -/
structure RcClock where
  ms : Nat
  cycles : Nat
  deriving DecidableEq, Repr

/-- The state of the part. -/
structure State where
  run : Run
  cfg : Settings
  level : Level
  link : Link
  bus : Bus
  clock : Clock
  timing : Timing
  share : Share
  tests : Tests
  site : Site
  ports : PerPort PortState
  store : Store
  counts : Counters
  rc : RcClock
  free : Nat
  signals : List Signal
  pending : List Instr
  deriving DecidableEq, Repr

/-! ## The reset values of the blocks, as functions of the settings they take -/

/-- R7, R18. -/
def Level.atReset (cfg : Settings) : Level :=
  { range := .coarse, last := none, window := [], samples := 0, smoothed := none, history := [], align := none
    indicator := 0, outPolarity := cfg.level.polarity
    density := match cfg.level.polarity with | .normal => 0 | .inverted => 1023
    acc := 0, pin := false }

/-- R19; the lock level is the filtered ODU_LOCK as it stands (R173). -/
def Link.atReset (lock : Bool) : Link :=
  { state := .off, confirmed := none, pending := none, guard := none, base := 0, fadeTimer := none
    restoreTimer := none, upshiftTimer := none, restoreDue := false, init := none, alignInd := false, claim := none
    lockLevel := lock, unbroken := false, discardInit := false, discardProfile := false }

/-- R59. -/
def Bus.atReset : Bus :=
  { profileSlot := none, internalSlot := none, fifo := [], current := none, hold := none, noteLink := false
    noteTest := false, results := { main := [], service := [] } }

def CaptureRec.cleared : CaptureRec := { last := none, interval := none, coarse := false, elapsed := 0 }

/-- R68 and the table of section 4.1. -/
def Clock.atReset (cfg : Settings) : Clock :=
  { sec := 0, ns := 0, rcCycle := 0, owed := 0, ahead := 0, passing := false, oscBad := true, goodRun := 0
    lastWindow := none, windowRc := 0, windowLo := 0, steer := none, jump := none, permitted := false, startHold := none, tstate := .freerun
    grade := .oscFail, enabled := cfg.sources.map (·.enabled)
    captures := { gnss := .cleared, link := .cleared, aux := .cleared }, auxCount := 0, divert := none
    lastDiverted := none, active := cfg.pulse, squelched := true, ppsActive := false, pulseLeft := none }

/-- A source record as at reset (R78): CHECK when enabled, OFF otherwise. -/
def SourceRec.atReset (enabled : Bool) : SourceRec :=
  { state := if enabled then .check else .off, lastTime := none, lastOffset := none, goodRun := 0, anchor := none
    badRun := 0, watch := none, mark := none, fresh := none }

def TimingLatch.of (cfg : Settings) : TimingLatch :=
  { priority := cfg.sources.map (·.priority), revertive := cfg.timing.revertive, holdover := cfg.timing.holdover
    drift := cfg.timing.drift, tdd := cfg.timing.tdd }

/-- R78. -/
def Timing.atReset (cfg : Settings) : Timing :=
  { sources := cfg.sources.map fun x => .atReset x.enabled, selected := none, state := .freerun
    everLocked := false, lockRun := 0, unlockRun := 0, entryBound := none, holdSecs := none, bound := none
    grade := .oscFail, jumpReq := none, lastJump := none, handed := none, linkCopy := .off, oscCopy := true
    latch := .of cfg }

def Carrier.idle : Carrier :=
  { state := .idle, demand := 0, reason := none, grant := 0, order := none, restore := none, hold := none }

/-- R107, before the reshare that ends the reset. -/
def Share.atReset (cfg : Settings) (grade : Grade) (jump ack ackSent : Bool) : Share :=
  { carriers := .replicate 16 .idle, tenants := .replicate 4 { admitted := 0, granted := 0 }, base := 0
    reserve := cfg.link.reserve, grade := grade, jump := jump, phase := .staging, pool := 0, borrow := .absent
    orders := 0, ack := ack, ackSent := ackSent, permits := .replicate 8 false }

def Acceptance.empty : Acceptance :=
  { feeder := .absent, loopNear := .absent, loopFar := .absent, pulse := .absent, probe := .absent }

def FeederUnit.atReset : FeederUnit :=
  let c : FeederCount := { counter := 0, state := none }
  { phase := .idle, timer := none, divider := 0, ahead := 0, lines := { f0 := c, f1 := c, f2 := c, f3 := c }
    opened := { f0 := false, f1 := false, f2 := false, f3 := false } }

def Tester.stopped : Tester :=
  { running := false, next := 0, outstanding := none, timer := none, sent := 0, ok := 0, errored := 0, lost := 0
    stray := 0 }

/-- R134. -/
def Tests.atReset : Tests :=
  { queue := [], current := none, log := [], lastNumber := 0, deferTimer := none, outstanding := none
    stage := .measuring, acceptance := .empty, feeder := .atReset, tester := .stopped, pulse := none
    loopOnStatus := none }

/-- R173; the inputs are those of the reset that ends. -/
def Site.atReset (inputs : PerInput Input) (cause : ResetCause) : Site :=
  { phase := .staging, forced := false, quietMs := 0, halfSent := false, expired := false, inputs := inputs
    cause := cause, restart := none }

def Assembly.empty : Assembly := { chars := [], overlong := false, bad := false, cr := false }

/-- A timer of `n` seconds, stopped when `n` is 0 (the summary interval, section 10.1). -/
def secondsTimer (n : Nat) : Option Nat := if n = 0 then none else some (n * 1000)

/-- R186. -/
def PortState.atReset (set : PortSettings) (vals : SumVals) : PortState :=
  { assembly := .empty, rxq := [], waiting := [], txq := [], access := .opened, mismatches := 0, lockout := none
    summary := { vals := vals, changed := [], events := [] }, intervalTimer := secondsTimer set.interval
    spacingTimer := none, changePending := false }

/-- All counters 0 (R200). -/
def Counters.zero : Counters :=
  let z : PerSource Nat := { gnss := 0, link := 0, aux := 0 }
  let q : PerPort Nat := { main := 0, service := 0 }
  { levelClamps := 0, rangeSwitches := 0, linkFades := 0, linkLosses := 0, profileUp := 0, profileDown := 0
    oduFaults := 0, busOk := 0, busNak := 0, busArb := 0, busTimeout := 0, busHoldExpired := 0, oscFails := 0
    jumps := 0, srcEarly := z, srcGood := z, srcBad := z, srcMissing := z, srcIgnored := z, sheds := 0
    reshares := 0, testsRun := 0, testsPassed := 0, testsFailed := 0, logDrops := 0, drops := q, noticeDrops := q
    unlockFails := 0 }

/-- The summary values of the state that a power-on reset with no carrier defined leaves. -/
def SumVals.atReset : SumVals :=
  { phase := .staging, link := .off, profile := none, base := 0, pool := 0, tstate := .freerun, grade := .oscFail
    source := none, test := none, idle := 0, waiting := 0, active := 0, throttled := 0, held := 0 }

/-- The line of the SITE notice RESET (R173, R185). -/
def resetLine (cause : String) (checked : Bool) : TxLine :=
  { lead := .notice, plus := false, words := ["SITE", "RESET"]
    pairs := [{ key := "cause", val := .word cause, caret := false }], checked := checked }

/-- A level pin at rest: RESET_N high, the others low (DESIGN CHOICE, log 8). -/
def Input.atRest (level : Bool) : Input := { pin := level, filtered := level, change := none }

/-- The part right after a power-on reset whose store check fails, as a new part is (R173, R203 and the usage note
of section 11.5), with the RESET notice in both transmit queues and the reset's own reshare counted (R107). -/
def State.reset : State :=
  { run := .running
    cfg := .factory
    level := .atReset .factory
    link := .atReset false
    bus := .atReset
    clock := .atReset .factory
    timing := .atReset .factory
    share := .atReset .factory .oscFail false false false
    tests := .atReset
    site := .atReset { resetN := .atRest true, mastMoving := .atRest false, oduLock := .atRest false,
                       svcConnect := .atRest false } .power
    ports := { main := { PortState.atReset portsFactory.main .atReset with txq := [resetLine "POWER" true] }
               service := { PortState.atReset portsFactory.service .atReset with
                            txq := [resetLine "POWER" false] } }
    store := { image := { settings := .factory, number := 0, good := false }, blank := true, writing := none }
    counts := { Counters.zero with reshares := 1 }
    rc := { ms := 0, cycles := 0 }
    free := 0
    signals := []
    pending := [] }

end Sys2Proof.Machine
end

