-- ==== Sys2Proof/Machine/Operands.lean ====
section
/-! DEFINITION. The operands of requests and the fields of lines: ranges, field defaults, and the written name of
every enumerated value (section 11.1). -/

namespace Sys2Proof.Machine

/-! ## Operands of requests -/

/-- An absent field has no range to break. -/
def inRange (lo hi : Int) : Option Int → Bool
  | none => true
  | some i => decide (lo ≤ i) && decide (i ≤ hi)

/-- The value in force after a field that may be left out. -/
def natOr (d : Nat) : Option Int → Nat
  | none => d
  | some i => i.toNat

def intOr (d : Int) : Option Int → Int
  | none => d
  | some i => i

def boolOr (d : Bool) : Option Bool → Bool
  | none => d
  | some b => b

/-- A name that the owning rule does not list is out of range (R201). -/
def nameOk {α : Type} : Option (Named α) → Bool
  | some .other => false
  | _ => true

def nameOr {α : Type} (d : α) : Option (Named α) → α
  | some (.known a) => a
  | _ => d

/-- The name given, when one is given and it is a listed one. -/
def nameOf {α : Type} : Option (Named α) → Option α
  | some (.known a) => some a
  | _ => none

/-- The listed names of a list, or none when one of them is not listed. -/
def namesOf {α : Type} : List (Named α) → Option (List α)
  | [] => some []
  | .known a :: l => (namesOf l).map (a :: ·)
  | .other :: _ => none

/-- An object index. -/
def indexOf (n : Nat) : Option Int → Option (Fin n)
  | none => none
  | some i => if h : 0 ≤ i ∧ i.toNat < n then some ⟨i.toNat, h.2⟩ else none

/-- An index that may be left out: `some none` when it is, none when it is out of range. -/
def optIndexOf (n : Nat) : Option Int → Option (Option (Fin n))
  | none => some none
  | some i => (indexOf n (some i)).map some

end Sys2Proof.Machine

/-! ## Names -/

namespace Sys2Proof

def RangeName.word : RangeName → String
  | .coarse => "COARSE" | .fine => "FINE"

def RangeMode.word : RangeMode → String
  | .auto => "AUTO" | .forceCoarse => "FORCE_COARSE" | .forceFine => "FORCE_FINE"

def Polarity.word : Polarity → String
  | .normal => "NORMAL" | .inverted => "INVERTED"

def PulsePolarity.word : PulsePolarity → String
  | .activeHigh => "ACTIVE_HIGH" | .activeLow => "ACTIVE_LOW"

def Squelch.word : Squelch → String
  | .never => "NONE" | .freerun => "FREERUN" | .unfit => "UNFIT"

def TemplateName.word : TemplateName → String
  | .profile => "PROFILE" | .loopOn => "LOOPON" | .loopOff => "LOOPOFF"

def Duplex.word : Duplex → String
  | .fdd => "FDD" | .tdd => "TDD"

def BusFlag.word : BusFlag → String
  | .start => "START" | .stop => "STOP" | .ackLast => "ACKLAST" | .cont => "CONT"

def TestKind.word : TestKind → String
  | .feeder => "FEEDER" | .loopNear => "LOOP_NEAR" | .loopFar => "LOOP_FAR" | .pulse => "PULSE" | .probe => "PROBE"

def ExpectClass.word : ExpectClass → String
  | .present => "PRESENT" | .opened => "OPEN" | .any => "ANY"

def CheckMode.word : CheckMode → String
  | .required => "REQUIRED" | .optional => "OPTIONAL"

def NoticeClass.word : NoticeClass → String
  | .link => "LINK" | .level => "LEVEL" | .bus => "BUS" | .time => "TIME" | .share => "SHARE" | .test => "TEST"
  | .site => "SITE" | .port => "PORT"

def Group.word : Group → String
  | .view => "VIEW" | .align => "ALIGN" | .test => "TEST" | .carrier => "CARRIER" | .tenantCfg => "TENANT_CFG"
  | .linkCfg => "LINK_CFG" | .timingCfg => "TIMING_CFG" | .bus => "BUS" | .store => "STORE"
  | .sitePhase => "SITE_PHASE"

def MinLevel.word : MinLevel → String
  | .opened => "OPEN" | .tenant => "TENANT" | .site => "SITE"

def CredLevel.word : CredLevel → String
  | .site => "SITE" | .tenant => "TENANT"

def CounterName.word : CounterName → String
  | .levelClamps => "LEVEL_CLAMPS" | .rangeSwitches => "RANGE_SWITCHES" | .linkFades => "LINK_FADES"
  | .linkLosses => "LINK_LOSSES" | .profileUp => "PROFILE_UP" | .profileDown => "PROFILE_DOWN"
  | .oduFaults => "ODU_FAULTS" | .busOk => "BUS_OK" | .busNak => "BUS_NAK" | .busArb => "BUS_ARB"
  | .busTimeout => "BUS_TIMEOUT" | .busHoldExpired => "BUS_HOLD_EXPIRED" | .oscFails => "OSC_FAILS"
  | .jumps => "JUMPS" | .srcEarly => "SRC_EARLY" | .srcGood => "SRC_GOOD" | .srcBad => "SRC_BAD"
  | .srcMissing => "SRC_MISSING" | .srcIgnored => "SRC_IGNORED" | .sheds => "SHEDS" | .reshares => "RESHARES"
  | .testsRun => "TESTS_RUN" | .testsPassed => "TESTS_PASSED" | .testsFailed => "TESTS_FAILED"
  | .logDrops => "LOG_DROPS" | .drops => "DROPS" | .noticeDrops => "NOTICE_DROPS" | .unlockFails => "UNLOCK_FAILS"

def Port.word : Port → String
  | .main => "MAIN" | .service => "SERVICE"

def Source.word : Source → String
  | .gnss => "GNSS" | .link => "LINK" | .aux => "AUX"

def Source.index : Source → Nat
  | .gnss => 0 | .link => 1 | .aux => 2

def InputPin.word : InputPin → String
  | .resetN => "RESET_N" | .mastMoving => "MAST_MOVING" | .oduLock => "ODU_LOCK" | .svcConnect => "SVC_CONNECT"

def FeederLine.word : FeederLine → String
  | .f0 => "F0" | .f1 => "F1" | .f2 => "F2" | .f3 => "F3"

end Sys2Proof

namespace Sys2Proof.Machine

def Owner.word : Owner → String
  | .port p => p.word
  | .mast => "MAST"

def LinkState.word : LinkState → String
  | .off => "OFF" | .acquire => "ACQUIRE" | .align => "ALIGN" | .up => "UP" | .fade => "FADE" | .lost => "LOST"
  | .test => "TEST"

def Requester.word : Requester → String
  | .port p => p.word
  | .link => "LINK"
  | .test => "TEST"

def Purpose.word : Purpose → String
  | .profile => "PROFILE" | .init => "INIT" | .probe => "PROBE" | .loopOn => "LOOPON" | .loopOff => "LOOPOFF"

def BusStatus.word : BusStatus → String
  | .ok => "OK" | .nak => "NAK" | .arbLost => "ARB_LOST" | .timeout => "TIMEOUT" | .cancelled => "CANCELLED"

def OpenPhase.word : OpenPhase → String
  | .closed => "NONE" | .write => "WRITE" | .readAcked => "READ_ACKED" | .readNacked => "READ_NACKED"

def HoldCause.word : HoldCause → String
  | .deadline => "DEADLINE" | .lock => "LOCK" | .disconnect => "DISCONNECT"

def TimingState.word : TimingState → String
  | .freerun => "FREERUN" | .locking => "LOCKING" | .locked => "LOCKED" | .holdover => "HOLDOVER"

def Grade.word : Grade → String
  | .oscFail => "OSC_FAIL" | .unfit => "UNFIT" | .tddOk => "TDD_OK"

def SourceState.word : SourceState → String
  | .off => "OFF" | .check => "CHECK" | .qualifying => "QUALIFYING" | .qualified => "QUALIFIED" | .failed => "FAILED"

def CarrierState.word : CarrierState → String
  | .idle => "IDLE" | .waiting => "WAITING" | .active => "ACTIVE" | .throttled => "THROTTLED" | .held => "HELD"

def WaitReason.word : WaitReason → String
  | .phase => "PHASE" | .timing => "TIMING" | .restore => "RESTORE" | .ceiling => "CEILING"
  | .noCapacity => "NO_CAPACITY"

def SitePhase.word : SitePhase → String
  | .staging => "STAGING" | .live => "LIVE" | .autonomous => "AUTONOMOUS"

def TestState.word : TestState → String
  | .queued => "QUEUED" | .deferred => "DEFERRED" | .running => "RUNNING" | .pass => "PASS" | .fail => "FAIL"
  | .aborted => "ABORTED" | .refused => "REFUSED" | .cancelled => "CANCELLED"

def TestReason.word : TestReason → String
  | .phase => "PHASE" | .source => "SOURCE" | .link => "LINK" | .mast => "MAST" | .capacity => "CAPACITY"
  | .cancel => "CANCEL" | .quiet => "QUIET" | .bus => "BUS" | .noPulse => "NO_PULSE" | .limit => "LIMIT"
  | .cleanup => "CLEANUP"

def LineClass.word : LineClass → String
  | .short => "SHORT" | .opened => "OPEN" | .present => "PRESENT" | .outOfWindow => "OUT_OF_WINDOW"

def FeederPhase.word : FeederPhase → String
  | .idle => "IDLE" | .discharge => "DISCHARGE" | .charge => "CHARGE"

def ResetCause.word : ResetCause → String
  | .power => "POWER" | .pin => "PIN" | .restart => "RESTART"

def Reason.word : Reason → String
  | .noSyntax => "SYNTAX" | .noCheck => "CHECK" | .noUnknown => "UNKNOWN" | .noLevel => "LEVEL"
  | .noRange => "RANGE" | .noState => "STATE" | .noBusy => "BUSY" | .noFull => "FULL" | .noOwned => "OWNED"
  | .noPhase => "PHASE" | .noWait => "WAIT"

def EventFlag.word : EventFlag → String
  | .fade => "FADE" | .loss => "LOSS" | .oduFault => "ODU_FAULT" | .busError => "BUS_ERROR"
  | .sourceFail => "SOURCE_FAIL" | .jump => "JUMP" | .shed => "SHED" | .testDone => "TEST_DONE"
  | .noticeDrop => "NOTICE_DROP" | .lineDrop => "LINE_DROP" | .clamp => "CLAMP"

/-! ## Fields of lines -/

/-- A key=value pair without the mark of a changed value. -/
def kv (key : String) (val : Val) : Pair := { key := key, val := val, caret := false }

def Val.nat (n : Nat) : Val := .int n

/-- An absent value is written NONE (section 11.1). -/
def Val.optNat : Option Nat → Val
  | none => .absent
  | some n => .int n

def Val.optInt : Option Int → Val
  | none => .absent
  | some i => .int i

def Val.optFin {n : Nat} : Option (Fin n) → Val
  | none => .absent
  | some i => .int i.val

def Val.optTime : Option SiteTime → Val
  | none => .absent
  | some t => .time t

def Val.optWord : Option String → Val
  | none => .absent
  | some w => .word w

/-- A switch (section 11.1). -/
def Val.onOff (b : Bool) : Val := .word (if b then "ON" else "OFF")

/-- The switches enabled= and defined= (section 11.1). -/
def Val.yesNo (b : Bool) : Val := .word (if b then "yes" else "no")

/-- A mark or a flag that a reply reports as set or clear, a name (log 6). -/
def Val.mark (b : Bool) : Val := .word (if b then "SET" else "CLEAR")

end Sys2Proof.Machine
end

