-- ==== Sys2Proof/Machine/Lines.lean ====
section
/-! DEFINITION. How a line the part sends is written (R191, R202, section 11.1): the characters of values, the check,
and the split of a long line. Key names, the single spaces and the capital hexadecimal digits are the model's (log 6). -/

namespace Sys2Proof.Machine

/-- Decimal digits without leading zeros. -/
def decText (n : Nat) : List Char := Nat.toDigits 10 n

/-- Decimal digits filled up with leading zeros to a width. -/
def padText (width n : Nat) : List Char :=
  List.replicate (width - (decText n).length) '0' ++ decText n

def intText (i : Int) : List Char :=
  if i < 0 then '-' :: decText i.natAbs else decText i.natAbs

def hexDigit (n : Nat) : Char :=
  if n < 10 then Char.ofNat (48 + n) else Char.ofNat (55 + n)

def hexByte (n : Nat) : List Char := [hexDigit (n / 16 % 16), hexDigit (n % 16)]

def commaJoin : List (List Char) → List Char
  | [] => []
  | [x] => x
  | x :: y :: l => x ++ ',' :: commaJoin (y :: l)

/-- A tag as it was written: its digits with its leading zeros (R190). -/
def Tag.text (t : Tag) : List Char := padText t.width t.value

/-- The value forms of section 11.1; a tag as the value of a field is an integer, without leading zeros (R202). -/
def Val.text : Val → List Char
  | .absent => ['N', 'O', 'N', 'E']
  | .int i => intText i
  | .word w => w.toList
  | .words l => commaJoin (l.map String.toList)
  | .ints l => commaJoin (l.map intText)
  | .bytes l => l.flatMap fun b => hexByte b.toNat
  | .time t => decText t.sec.toNat ++ '.' :: padText 9 t.ns
  | .tag t => decText t.value

def Pair.text (p : Pair) : List Char :=
  p.key.toList ++ '=' :: p.val.text ++ (if p.caret then ['^'] else [])

def Lead.text : Lead → List Char
  | .tag t => Tag.text t
  | .unread => ['?']
  | .notice => ['!']

/-- The sum of the codes modulo 256 (R189). -/
def checkSum (l : List Char) : Nat := (l.map Char.toNat).sum % 256

/-- The line without its check: its parts separated by single spaces. -/
def TxLine.body (l : TxLine) : List Char :=
  l.lead.text ++ (if l.plus then [' ', '+'] else []) ++ l.words.flatMap (fun w => ' ' :: w.toList)
    ++ l.pairs.flatMap (fun p => ' ' :: p.text)

/-- The characters of the line, without the carriage return and the line feed that end it (R191). -/
def TxLine.text (l : TxLine) : List Char :=
  if l.checked then
    let t := l.body ++ [' ']
    t ++ '*' :: hexByte (checkSum t)
  else l.body

/-- The line as the part sends it: a carriage return and a line feed end it (R191). -/
def TxLine.wire (l : TxLine) : List Char := l.text ++ ['\r', '\n']

def Pair.room (p : Pair) : Nat := p.text.length + 1

/-- Takes pairs from the front while they fit in `room`; the first is always taken. -/
def fitMore (room : Nat) : List Pair → List Pair × List Pair
  | [] => ([], [])
  | p :: l =>
    if p.room ≤ room then
      let r := fitMore (room - p.room) l
      (p :: r.1, r.2)
    else ([], p :: l)

def fitPairs (room : Nat) : List Pair → List Pair × List Pair
  | [] => ([], [])
  | p :: l =>
    let r := fitMore (room - p.room) l
    (p :: r.1, r.2)

/-- The lines that the pairs of a record take on new lines, each of room `later`, and of room `last` where it ends
the record. -/
def splitRest : (fuel later last : Nat) → List Pair → List (List Pair)
  | 0, _, _, l => [l]
  | fuel + 1, later, last, l =>
    if (l.map Pair.room).sum ≤ last then [l]
    else
      let r := fitPairs later l
      if r.2.isEmpty then [r.1] else r.1 :: splitRest fuel later last r.2

/-- The same for a record whose first line has the room `first`. -/
def splitFirst (first later last : Nat) (l : List Pair) : List (List Pair) :=
  if (l.map Pair.room).sum ≤ first then [l]
  else
    let r := fitPairs first l
    if r.2.isEmpty then [r.1] else r.1 :: splitRest l.length later last r.2

/-- The lines of the records after the first: each begins a new line, and the last of all has the room of a last
line. -/
def splitRecords (later last : Nat) : List (List Pair) → List (List Pair)
  | [] => []
  | [r] => splitRest r.length later last r
  | r :: r' :: l => splitRest r.length later later r ++ splitRecords later last (r' :: l)

/-- The marks of a group: no `+` on its first line, which alone holds the words, nor on its last (R202). -/
def markLines (lead : Lead) (checked : Bool) : List (List Pair) → List TxLine
  | [] => []
  | [ps] => [{ lead := lead, plus := false, words := [], pairs := ps, checked := checked }]
  | ps :: l => { lead := lead, plus := true, words := [], pairs := ps, checked := checked } :: markLines lead checked l

/-- A group of lines: the head's words and pairs, then the records. With no pairs in the head the first record
shares the first line (log 6). -/
def groupLines (lead : Lead) (checked : Bool) (words : List String) (head : List Pair) (records : List (List Pair)) :
    List TxLine :=
  let whole := 120 - (if checked then 4 else 0)
  let leadRoom := lead.text.length
  let wordRoom := (words.map fun w => w.length + 1).sum
  let first := whole - leadRoom - wordRoom
  let later := whole - leadRoom - 2
  let last := whole - leadRoom
  let chunks := match head, records with
    | [], r :: l => r :: l
    | h, l => h :: l
  let all := match chunks with
    | [] => [[]]
    | [c] => splitFirst first later last c
    | c :: r :: l => splitFirst first later later c ++ splitRecords later last (r :: l)
  match all with
  | [] => []
  | ps :: l =>
    { lead := lead, plus := false, words := words, pairs := ps, checked := checked } :: markLines lead checked l

/-- The lines of a reply (R190, R202). -/
def replyLines (lead : Lead) (checked : Bool) : Reply → List TxLine
  | .ok head records => groupLines lead checked ["OK"] head records
  | .go => groupLines lead checked ["GO"] [] []
  | .no r => groupLines lead checked ["NO", r.word] [] []

end Sys2Proof.Machine
end

