-- ==== Sys2Proof/WellFormed.lean ====
section
/-! DEFINITION. Which terms of `Instr` are commands that can be sent: the checks that the types leave open. -/

namespace Sys2Proof

/-- A tag is 1 to 4 decimal digits (R189). -/
def Tag.wf (t : Tag) : Bool :=
  decide (1 ≤ t.width) && decide (t.width ≤ 4) && decide (t.value < 10 ^ t.width)

def Req.wf (rq : Req) : Bool := rq.tag.wf

/-- An integer in form has at most 10 digits (R201). -/
def intInForm : Option Int → Bool
  | none => true
  | some i => decide (i.natAbs < 10 ^ 10)

/-- A byte string on a line of 120 characters has fewer than 60 bytes (R187, R201). -/
def bytesInForm : Option (List Byte) → Bool
  | none => true
  | some l => decide (l.length < 60)

/-- A character of a credential: printable, not space, `=` or `*` (R196, section 11.1). -/
def credChar (c : Char) : Bool :=
  decide (0x21 ≤ c.toNat) && decide (c.toNat ≤ 0x7E) && c != '=' && c != '*'

def Cred.wf : Cred → Bool
  | .absent => true
  | .text k => !k.isEmpty && k.all credChar

def credInForm : Option Cred → Bool
  | none => true
  | some k => k.wf

/-- A bus transaction moves at most 24 bytes each way (section 3.1). -/
def BusEnd.wf : BusEnd → Bool
  | .ok data => decide (data.length ≤ 24)
  | .nak w => decide (w ≤ 24)
  | .arbLost w data => decide (w ≤ 24) && decide (data.length ≤ 24)

def NotRequest.wf : NotRequest → Bool
  | .noTag => true
  | .overlong t | .badCheck t | .badGrammar t | .unknownVerb t => t.wf

/-- A character between two line ends is no line feed (R187). -/
def RxChar.wf : RxChar → Bool
  | .code b => b != 0x0A
  | .framingError => true

def IndexArg.wf : IndexArg → Bool
  | .num i => decide (i.natAbs < 10 ^ 10)
  | .port _ | .other => true

def PermitArg.wf : PermitArg → Bool
  | .line i => decide (i.natAbs < 10 ^ 10)
  | .noLine | .other => true

def TestArgs.wf (a : TestArgs) : Bool :=
  intInForm a.clock && intInForm a.discharge && intInForm a.reload && intInForm a.length && intInForm a.count
    && intInForm a.allowed && intInForm a.widthTol && intInForm a.offset && intInForm a.addr && intInForm a.read
    && bytesInForm a.reg && bytesInForm a.expect && bytesInForm a.mask

/-- The commands that can be sent. -/
def WellFormed : Instr → Bool
  | .powerOnReset | .pinReset | .pinResetEnd | .restartTakesPlace | .sample _ | .fadeTimerExpiry
  | .restoreTimerExpiry | .upshiftHoldExpiry | .mastMovingChange _ | .oduLockChange _ | .svcConnectDeassert
  | .svcConnectAssert | .busFreeStart | .busFreeTimeout | .holdDeadlineExpiry | .secondBoundary | .startHoldEnd
  | .pulseWidthEnd | .steeringPoint | .ppsEdge _ _ _ | .missing _ | .carrierRestoreExpiry _ | .holdTimerExpiry _
  | .deferTimerExpiry | .dischargeTimerExpiry | .feederCounterOverflow _ | .frameSent | .returnTimerExpiry
  | .edgeWatchExpiry | .quietHalf | .quietExpired | .transmitLineSent _ | .lockoutTimerExpiry _
  | .intervalTimerExpiry _ | .spacingTimerExpiry _ | .saveWriteEnd _ | .inputPinChange _ _ | .supplyLoss => true
  | .byteStretchTimeout w data => decide (w ≤ 24) && decide (data.length ≤ 24)
  | .transactionComplete how => how.wf
  | .oscCheckWindowEnd n => decide (n < 65536 * 1024)
  | .comparatorTrip _ ticks => decide (ticks ≤ 4095)
  | .frameReceived content => decide (content.length ≤ 65535)
  | .lineComplete _ chars => chars.all RxChar.wf
  | .lineNotRequest _ why => why.wf
  | .levelRead rq | .alignStop rq | .alignMark rq | .alignRead rq | .linkStart rq | .linkStop rq | .linkRead rq
  | .busRead rq | .timeRead rq | .timingRead rq | .shareRead rq | .acceptRead rq | .inputRead rq | .goLive rq _
  | .stage rq | .restart rq | .siteRead rq | .checkSet rq _ | .noticeSet rq _ | .summary rq | .lock rq
  | .accessSet rq _ _ | .save rq | .load rq | .storeRead rq | .templateRead rq _ | .acceptSet rq _
  | .feederRead rq _ => rq.wf
  | .levelHistory rq i n => rq.wf && intInForm i && intInForm n
  | .levelCal rq a => rq.wf && intInForm a.scale && intInForm a.shift && intInForm a.offset && intInForm a.xover
  | .alignStart rq k => rq.wf && intInForm k
  | .indicatorSet rq a => rq.wf && intInForm a.floor && intInForm a.span
  | .profileSet rq p a =>
    rq.wf && intInForm p && intInForm a.cap && intInForm a.up && intInForm a.down && intInForm a.code
  | .templateSet rq _ a => rq.wf && intInForm a.addr && bytesInForm a.bytes && intInForm a.pos
  | .linkSet rq a =>
    rq.wf && intInForm a.high && intInForm a.low && intInForm a.fade && intInForm a.restore && intInForm a.upshift
      && intInForm a.reserve
  | .busXfer rq a => rq.wf && intInForm a.addr && bytesInForm (some a.write) && intInForm a.read
  | .pulseSet rq a => rq.wf && intInForm a.width && intInForm a.auxDiv
  | .sourceSet rq i a =>
    rq.wf && intInForm i && intInForm a.priority && intInForm a.tol && intInForm a.qualify && intInForm a.fail
      && intInForm a.stability && intInForm a.allowance
  | .timingSet rq a =>
    rq.wf && intInForm a.jump && intInForm a.slew && intInForm a.window && intInForm a.lockcount
      && intInForm a.holdover && intInForm a.drift && intInForm a.tdd
  | .tenantSet rq t a => rq.wf && intInForm t && intInForm a.floor && intInForm a.ceiling && intInForm a.weight
  | .carrierDefine rq c a =>
    rq.wf && intInForm c && intInForm a.tenant && intInForm a.sector && intInForm a.cls && intInForm a.min
      && (match a.permit with | none => true | some p => p.wf)
  | .profileRead rq i | .busResult rq i | .captureRead rq i | .sourceRead rq i | .tenantRead rq i
  | .carrierRelease rq i | .carrierRead rq i | .testCancel rq i | .testRead rq i | .resultRead rq i
  | .inputSet rq _ i | .quietSet rq i | .summarySet rq i _ => rq.wf && intInForm i
  | .carrierRequest rq i j | .carrierHold rq i j | .shareSet rq i j => rq.wf && intInForm i && intInForm j
  | .testAdd rq _ a => rq.wf && a.wf
  | .feederSet rq _ a => rq.wf && intInForm a.lo && intInForm a.hi && intInForm a.openLimit
  | .unlock rq a | .credSet rq a => rq.wf && intInForm a.tenant && credInForm a.cred
  | .countRead rq _ i | .countClear rq _ i => rq.wf && (match i with | none => true | some x => x.wf)

end Sys2Proof
end

