-- ==== Sys2Proof/Machine/Parse.lean ====
section
/-! DEFINITION. How a port reads a line: the tests of R189 with the value forms of R201 and section 11.1, and the
words and keys of every request. -/

namespace Sys2Proof.Machine

/-! ## Characters and values (section 11.1) -/

def isDigit (c : Char) : Bool := decide (48 ≤ c.toNat) && decide (c.toNat ≤ 57)

def isCapital (c : Char) : Bool := decide (65 ≤ c.toNat) && decide (c.toNat ≤ 90)

def isSmall (c : Char) : Bool := decide (97 ≤ c.toNat) && decide (c.toNat ≤ 122)

def digitsVal (l : List Char) : Nat := l.foldl (fun n c => 10 * n + (c.toNat - 48)) 0

/-- At most 10 digits. -/
def natOf (l : List Char) : Option Nat :=
  if !l.isEmpty && decide (l.length ≤ 10) && l.all isDigit then some (digitsVal l) else none

def intOf : List Char → Option Int
  | '-' :: l => (natOf l).map fun n => -(n : Int)
  | l => (natOf l).map fun n => (n : Int)

def hexOf (c : Char) : Option Nat :=
  if isDigit c then some (c.toNat - 48)
  else if decide (65 ≤ c.toNat) && decide (c.toNat ≤ 70) then some (c.toNat - 55)
  else if decide (97 ≤ c.toNat) && decide (c.toNat ≤ 102) then some (c.toNat - 87)
  else none

/-- Pairs of hexadecimal digits, most significant digit first. -/
def bytesOf : List Char → Option (List Byte)
  | [] => some []
  | a :: b :: l => do
    let x ← hexOf a
    let y ← hexOf b
    let r ← bytesOf l
    pure (BitVec.ofNat 8 (16 * x + y) :: r)
  | [_] => none

def isNameForm (l : List Char) : Bool :=
  !l.isEmpty && l.all fun c => isCapital c || isDigit c || c == '_'

/-- A name or an integer: digits alone are an integer, and more than 10 of them are out of form (R201). -/
def isNameOrInt (l : List Char) : Bool := (intOf l).isSome || (isNameForm l && !l.all isDigit)

def splitAtChar (c : Char) : List Char → List (List Char)
  | [] => [[]]
  | x :: l =>
    if x = c then [] :: splitAtChar c l
    else
      match splitAtChar c l with
      | [] => [[x]]
      | h :: t => (x :: h) :: t

/-- The elements of a list value; an empty value is an empty list. -/
def elements (l : List Char) : List (List Char) := if l.isEmpty then [] else splitAtChar ',' l

def isListForm (l : List Char) : Bool := (elements l).all isNameOrInt

def isCredForm (l : List Char) : Bool := !l.isEmpty && l.all credChar

/-- The listed name that is written so, or some other name. -/
def nameIn {α : Type} (word : α → String) (all : List α) (l : List Char) : Named α :=
  match all.find? fun a => (word a).toList == l with
  | some a => .known a
  | none => .other

/-! ## Value forms of keys (R201) -/

inductive Form where
  | int | bytes | name | list | flags | yesNo | cred | permit | index
  deriving DecidableEq, Repr

def allFlags : List BusFlag := [.start, .stop, .ackLast, .cont]

def flagOf (l : List Char) : Option BusFlag :=
  match nameIn BusFlag.word allFlags l with
  | .known a => some a
  | .other => none

/-- Whether a value has the form of its key. An unknown flag name makes the line unparseable (R48).
Any name or number is in the form of permit= (log 28). -/
def Form.holds (v : List Char) : Form → Bool
  | .int => (intOf v).isSome
  | .bytes => (bytesOf v).isSome
  | .name => isNameForm v
  | .list => isListForm v
  | .flags => (elements v).all fun e => (flagOf e).isSome
  | .yesNo => v == ['y', 'e', 's'] || v == ['n', 'o']
  | .cred => isCredForm v
  | .permit | .index => isNameOrInt v

/-- A site time: seconds, a point, and nine digits of nanoseconds. -/
def isTimeForm (v : List Char) : Bool :=
  match splitAtChar '.' v with
  | [a, b] => (natOf a).isSome && (natOf b).isSome && decide (b.length = 9)
  | _ => false

/-- Some form of the table: what the value of a key that the request does not take must have. -/
def someForm (v : List Char) : Bool :=
  Form.holds v .int || Form.holds v .bytes || Form.holds v .list || Form.holds v .yesNo || isTimeForm v
    || (isCredForm v && decide (v.length = 8))

/-! ## Fields of a request -/

/-- The key=value fields of a line, with no key twice. -/
abbrev Fields := List (List Char × List Char)

namespace Fields

def get (f : Fields) (k : String) : Option (List Char) := f.lookup k.toList

def int (f : Fields) (k : String) : Option Int := (f.get k).bind intOf

def bytes (f : Fields) (k : String) : Option (List Byte) := (f.get k).bind bytesOf

def yesNo (f : Fields) (k : String) : Option Bool := (f.get k).map fun v => v == ['y', 'e', 's']

def name {α : Type} (f : Fields) (k : String) (word : α → String) (all : List α) : Option (Named α) :=
  (f.get k).map (nameIn word all)

def names {α : Type} (f : Fields) (k : String) (word : α → String) (all : List α) : Option (List (Named α)) :=
  (f.get k).map fun v => (elements v).map (nameIn word all)

def onOff (f : Fields) (k : String) : Option (Named Bool) :=
  f.name k (fun b => if b then "ON" else "OFF") [true, false]

def flags (f : Fields) (k : String) : Option (List BusFlag) := (f.get k).map fun v => (elements v).filterMap flagOf

def cred (f : Fields) (k : String) : Option Cred :=
  (f.get k).map fun v => if v == ['N', 'O', 'N', 'E'] then .absent else .text v

def permit (f : Fields) (k : String) : Option PermitArg :=
  (f.get k).map fun v =>
    match intOf v with
    | some i => .line i
    | none => if v == ['N', 'O', 'N', 'E'] then .noLine else .other

def index (f : Fields) (k : String) : Option IndexArg :=
  (f.get k).map fun v =>
    match intOf v with
    | some i => .num i
    | none =>
      match nameIn Port.word [.main, .service] v with
      | .known p => .port p
      | .other => .other

end Fields

/-- An object index as a word; a word that is no number is outside every range, and in no log (log 11). -/
def wordIndex (w : Option (List Char)) : Option Int := w.map fun v => (intOf v).getD (-1)

/-! ## The requests -/

/-- How a request is written: its verb and object words, whether one more object word may follow, its keys with their
forms, and the command that it is. -/
structure Format where
  words : List String
  object : Bool
  keys : List (String × Form)
  build : Req → Option (List Char) → Fields → Instr

def plainFormat (words : List String) (build : Req → Instr) : Format :=
  { words := words, object := false, keys := [], build := fun rq _ _ => build rq }

def readFormat (words : List String) (build : Req → Option Int → Instr) : Format :=
  { words := words, object := true, keys := [], build := fun rq w _ => build rq (wordIndex w) }

def allTemplates : List TemplateName := [.profile, .loopOn, .loopOff]

def allRanges : List RangeName := [.coarse, .fine]

def allCounters : List CounterName :=
  [.levelClamps, .rangeSwitches, .linkFades, .linkLosses, .profileUp, .profileDown, .oduFaults, .busOk, .busNak,
   .busArb, .busTimeout, .busHoldExpired, .oscFails, .jumps]
    ++ [.srcEarly, .srcGood, .srcBad, .srcMissing, .srcIgnored, .sheds, .reshares, .testsRun, .testsPassed,
        .testsFailed, .logDrops, .drops, .noticeDrops, .unlockFails]

def ints (l : List String) : List (String × Form) := l.map fun k => (k, .int)

def levelFormats : List Format :=
  [plainFormat ["LEVEL", "READ"] .levelRead,
   { words := ["LEVEL", "HISTORY"], object := false, keys := ints ["from", "n"]
     build := fun rq _ f => .levelHistory rq (f.int "from") (f.int "n") },
   { words := ["LEVEL", "CAL"], object := true, keys := ints ["scale", "shift", "offset", "xover"] ++ [("mode", .name)]
     build := fun rq w f => .levelCal rq
       { range := w.map (nameIn RangeName.word allRanges), scale := f.int "scale", shift := f.int "shift"
         offset := f.int "offset", xover := f.int "xover"
         mode := f.name "mode" RangeMode.word [.auto, .forceCoarse, .forceFine] } },
   { words := ["ALIGN", "START"], object := false, keys := ints ["interval"]
     build := fun rq _ f => .alignStart rq (f.int "interval") },
   plainFormat ["ALIGN", "STOP"] .alignStop, plainFormat ["ALIGN", "MARK"] .alignMark,
   plainFormat ["ALIGN", "READ"] .alignRead,
   { words := ["INDICATOR", "SET"], object := false, keys := ints ["floor", "span"] ++ [("polarity", .name)]
     build := fun rq _ f => .indicatorSet rq
       { floor := f.int "floor", span := f.int "span"
         polarity := f.name "polarity" Polarity.word [.normal, .inverted] } }]

/-- autostart= takes any name, as revertive= and change= do: another than ON or OFF is out of range (log 28). -/
def linkFormats : List Format :=
  [plainFormat ["LINK", "START"] .linkStart, plainFormat ["LINK", "STOP"] .linkStop,
   { words := ["PROFILE", "SET"], object := true, keys := ("enabled", .yesNo) :: ints ["cap", "up", "down", "code"]
     build := fun rq w f => .profileSet rq (wordIndex w)
       { enabled := f.yesNo "enabled", cap := f.int "cap", up := f.int "up", down := f.int "down"
         code := f.int "code" } },
   readFormat ["PROFILE", "READ"] .profileRead,
   { words := ["TEMPLATE", "SET"], object := true, keys := ints ["addr", "pos"] ++ [("bytes", .bytes)]
     build := fun rq w f => .templateSet rq (w.map (nameIn TemplateName.word allTemplates))
       { addr := f.int "addr", bytes := f.bytes "bytes", pos := f.int "pos" } },
   { words := ["TEMPLATE", "READ"], object := true, keys := []
     build := fun rq w _ => .templateRead rq (w.map (nameIn TemplateName.word allTemplates)) },
   { words := ["LINK", "SET"], object := false
     keys := ints ["high", "low", "fade", "restore", "upshift", "reserve"] ++ [("autostart", .name)]
     build := fun rq _ f => .linkSet rq
       { high := f.int "high", low := f.int "low", fade := f.int "fade", restore := f.int "restore"
         upshift := f.int "upshift", reserve := f.int "reserve", autostart := f.onOff "autostart" } },
   plainFormat ["LINK", "READ"] .linkRead]

def busFormats : List Format :=
  [{ words := ["BUS", "XFER"], object := false
     keys := [("addr", .int), ("write", .bytes), ("read", .int), ("flags", .flags)]
     build := fun rq _ f => .busXfer rq
       { addr := f.int "addr", write := (f.bytes "write").getD [], read := f.int "read", flags := f.flags "flags" } },
   { words := ["BUS", "RESULT"], object := false, keys := ints ["tag"]
     build := fun rq _ f => .busResult rq (f.int "tag") },
   plainFormat ["BUS", "READ"] .busRead]

def timeFormats : List Format :=
  [{ words := ["PULSE", "SET"], object := false
     keys := ints ["width", "aux_div"] ++ [("polarity", .name), ("squelch", .name)]
     build := fun rq _ f => .pulseSet rq
       { width := f.int "width", polarity := f.name "polarity" PulsePolarity.word [.activeHigh, .activeLow]
         squelch := f.name "squelch" Squelch.word [.never, .freerun, .unfit], auxDiv := f.int "aux_div" } },
   plainFormat ["TIME", "READ"] .timeRead, readFormat ["CAPTURE", "READ"] .captureRead,
   { words := ["SOURCE", "SET"], object := true
     keys := ("enabled", .yesNo) :: ints ["priority", "tol", "qualify", "fail", "stability", "allowance"]
     build := fun rq w f => .sourceSet rq (wordIndex w)
       { enabled := f.yesNo "enabled", priority := f.int "priority", tol := f.int "tol", qualify := f.int "qualify"
         fail := f.int "fail", stability := f.int "stability", allowance := f.int "allowance" } },
   { words := ["TIMING", "SET"], object := false
     keys := ints ["jump", "slew", "window", "lockcount", "holdover", "drift", "tdd"] ++ [("revertive", .name)]
     build := fun rq _ f => .timingSet rq
       { jump := f.int "jump", slew := f.int "slew", window := f.int "window", lockcount := f.int "lockcount"
         holdover := f.int "holdover", drift := f.int "drift", tdd := f.int "tdd"
         revertive := f.onOff "revertive" } },
   readFormat ["SOURCE", "READ"] .sourceRead, plainFormat ["TIMING", "READ"] .timingRead]

def shareFormats : List Format :=
  [{ words := ["TENANT", "SET"], object := true, keys := ("defined", .yesNo) :: ints ["floor", "ceiling", "weight"]
     build := fun rq w f => .tenantSet rq (wordIndex w)
       { defined := f.yesNo "defined", floor := f.int "floor", ceiling := f.int "ceiling"
         weight := f.int "weight" } },
   readFormat ["TENANT", "READ"] .tenantRead,
   { words := ["CARRIER", "DEFINE"], object := true
     keys := ints ["tenant", "sector", "class", "min"] ++ [("duplex", .name), ("permit", .permit), ("defined", .yesNo)]
     build := fun rq w f => .carrierDefine rq (wordIndex w)
       { tenant := f.int "tenant", sector := f.int "sector", duplex := f.name "duplex" Duplex.word [.fdd, .tdd]
         cls := f.int "class", min := f.int "min", permit := f.permit "permit", defined := f.yesNo "defined" } },
   { words := ["CARRIER", "REQUEST"], object := true, keys := ints ["demand"]
     build := fun rq w f => .carrierRequest rq (wordIndex w) (f.int "demand") },
   readFormat ["CARRIER", "RELEASE"] .carrierRelease,
   { words := ["CARRIER", "HOLD"], object := true, keys := ints ["ms"]
     build := fun rq w f => .carrierHold rq (wordIndex w) (f.int "ms") },
   readFormat ["CARRIER", "READ"] .carrierRead,
   { words := ["SHARE", "SET"], object := false, keys := ints ["borrow", "restore"]
     build := fun rq _ f => .shareSet rq (f.int "borrow") (f.int "restore") },
   plainFormat ["SHARE", "READ"] .shareRead]

/-- The keys of TEST ADD with a kind: the parameter fields of that kind (R157, R162, R168, R171). -/
def testKeys : TestKind → List (String × Form)
  | .feeder => ("lines", .list) :: ints ["clock", "discharge", "reload"]
  | .loopNear | .loopFar => ints ["length", "count", "allowed"]
  | .pulse => ints ["count", "width_tol", "offset"]
  | .probe => ints ["addr", "read"] ++ [("reg", .bytes), ("expect", .bytes), ("mask", .bytes)]

def testArgs (f : Fields) : TestArgs :=
  { lines := f.names "lines" FeederLine.word allLines, clock := f.int "clock", discharge := f.int "discharge"
    reload := f.int "reload", length := f.int "length", count := f.int "count", allowed := f.int "allowed"
    widthTol := f.int "width_tol", offset := f.int "offset", addr := f.int "addr", reg := f.bytes "reg"
    read := f.int "read", expect := f.bytes "expect", mask := f.bytes "mask" }

def testAddFormat (k : TestKind) : Format :=
  { words := ["TEST", "ADD", TestKind.word k], object := false, keys := testKeys k
    build := fun rq _ f => .testAdd rq (some (.known k)) (testArgs f) }

/-- TEST ADD with each kind, and with no kind or a word that is none, which takes no key. -/
def testFormats : List Format :=
  allKinds.map testAddFormat ++
  [{ words := ["TEST", "ADD"], object := true, keys := []
     build := fun rq w f => .testAdd rq (w.map (nameIn TestKind.word allKinds)) (testArgs f) },
   readFormat ["TEST", "CANCEL"] .testCancel, readFormat ["TEST", "READ"] .testRead,
   readFormat ["RESULT", "READ"] .resultRead,
   { words := ["ACCEPT", "SET"], object := false, keys := [("mask", .list)]
     build := fun rq _ f => .acceptSet rq (f.names "mask" TestKind.word allKinds) },
   plainFormat ["ACCEPT", "READ"] .acceptRead,
   { words := ["FEEDER", "SET"], object := true, keys := ("expect", .name) :: ints ["lo", "hi", "open"]
     build := fun rq w f => .feederSet rq (w.map (nameIn FeederLine.word allLines))
       { expect := f.name "expect" ExpectClass.word [.present, .opened, .any], lo := f.int "lo", hi := f.int "hi"
         openLimit := f.int "open" } },
   { words := ["FEEDER", "READ"], object := true, keys := []
     build := fun rq w _ => .feederRead rq (w.map (nameIn FeederLine.word allLines)) }]

def siteFormats : List Format :=
  [{ words := ["INPUT", "SET"], object := true, keys := ints ["filter"]
     build := fun rq w f => .inputSet rq (w.map (nameIn InputPin.word allPins)) (f.int "filter") },
   plainFormat ["INPUT", "READ"] .inputRead, plainFormat ["GO", "LIVE"] fun rq => .goLive rq false,
   plainFormat ["GO", "LIVE", "FORCE"] fun rq => .goLive rq true, plainFormat ["STAGE"] .stage,
   { words := ["QUIET", "SET"], object := false, keys := ints ["period"]
     build := fun rq _ f => .quietSet rq (f.int "period") },
   plainFormat ["RESTART"] .restart, plainFormat ["SITE", "READ"] .siteRead]

def credKeys : List (String × Form) := [("level", .name), ("tenant", .int), ("cred", .cred)]

def credArgs (f : Fields) : CredArgs :=
  { level := f.name "level" CredLevel.word [.site, .tenant], tenant := f.int "tenant", cred := f.cred "cred" }

def portFormats : List Format :=
  [{ words := ["CHECK", "SET"], object := false, keys := [("mode", .name)]
     build := fun rq _ f => .checkSet rq (f.name "mode" CheckMode.word [.required, .optional]) },
   { words := ["NOTICE", "SET"], object := false, keys := [("classes", .list)]
     build := fun rq _ f => .noticeSet rq (f.names "classes" NoticeClass.word allClasses) },
   plainFormat ["SUMMARY"] .summary,
   { words := ["SUMMARY", "SET"], object := false, keys := [("interval", .int), ("change", .name)]
     build := fun rq _ f => .summarySet rq (f.int "interval") (f.onOff "change") },
   { words := ["UNLOCK"], object := false, keys := credKeys, build := fun rq _ f => .unlock rq (credArgs f) },
   plainFormat ["LOCK"] .lock,
   { words := ["CRED", "SET"], object := false, keys := credKeys, build := fun rq _ f => .credSet rq (credArgs f) },
   { words := ["ACCESS", "SET"], object := false, keys := [("group", .name), ("level", .name)]
     build := fun rq _ f => .accessSet rq (f.name "group" Group.word allGroups)
       (f.name "level" MinLevel.word [.opened, .tenant, .site]) },
   { words := ["COUNT", "READ"], object := true, keys := [("index", .index)]
     build := fun rq w f => .countRead rq (w.map (nameIn CounterName.word allCounters)) (f.index "index") },
   { words := ["COUNT", "CLEAR"], object := true, keys := [("index", .index)]
     build := fun rq w f => .countClear rq (w.map (nameIn CounterName.word allCounters)) (f.index "index") },
   plainFormat ["SAVE"] .save, plainFormat ["LOAD"] .load, plainFormat ["STORE", "READ"] .storeRead]

def formats : List Format :=
  levelFormats ++ linkFormats ++ busFormats ++ timeFormats ++ shareFormats ++ testFormats ++ siteFormats
    ++ portFormats

/-- What follows the words `w` in `l`. -/
def afterWords : List String → List (List Char) → Option (List (List Char))
  | [], l => some l
  | _ :: _, [] => none
  | w :: ws, x :: l => if w.toList = x then afterWords ws l else none

/-- A word after the verb is a capital name, a number or a line name (R201). DESIGN CHOICE (log 11): a word of more than
10 digits, which no rule calls a number or a name, has the form of a name. It passes test 5, and the owning block
refuses it like any word that is no number. -/
def isObjectWord (w : List Char) : Bool := isNameForm w || (intOf w).isSome

/-- The format that the verb and object words name, with the further object word. -/
def formatOf (l : List (List Char)) : List Format → Option (Format × Option (List Char))
  | [] => none
  | g :: gs =>
    match afterWords g.words l with
    | some [] => some (g, none)
    | some [w] => if g.object && isObjectWord w then some (g, some w) else formatOf l gs
    | _ => formatOf l gs

/-! ## The tests of R189 -/

/-- The digits at the start of a line. -/
def leadDigits : List Char → List Char × List Char
  | [] => ([], [])
  | c :: l =>
    if isDigit c then
      let r := leadDigits l
      (c :: r.1, r.2)
    else ([], c :: l)

/-- Test 1: the tag, and what follows its space. -/
def readTag (l : List Char) : Option (Tag × List Char) :=
  match leadDigits l with
  | (d, ' ' :: r) =>
    if !d.isEmpty && decide (d.length ≤ 4) then some ({ value := digitsVal d, width := d.length }, r) else none
  | _ => none

/-- A check: the characters before its `*` and its two last characters. -/
def checkOf (l : List Char) : Option (List Char × Char × Char) :=
  match l.reverse with
  | b :: a :: '*' :: r => some (r.reverse, a, b)
  | _ => none

def checkAgrees (body : List Char) (a b : Char) : Bool :=
  match hexOf a, hexOf b with
  | some x, some y => 16 * x + y == checkSum body
  | _, _ => false

/-- Test 3. -/
def checkPasses (mode : CheckMode) (l : List Char) : Bool :=
  match checkOf l with
  | some (body, a, b) => checkAgrees body a b
  | none => mode == .optional

/-- What test 4 looks at, of what follows the tag: everything but the check and the space before it. -/
def uncheckedRest (l rest : List Char) : Option (List Char) :=
  match checkOf l with
  | none => some rest
  | some _ =>
    match (rest.take (rest.length - 3)).reverse with
    | ' ' :: r => some r.reverse
    | _ => none

/-- A part that is a field: its key in small letters and its value. DESIGN CHOICE (log 11): a value that holds an equals
sign itself is in no form (R201), a credential among them, so that its line is refused with NO SYNTAX (R189) and not
with the NO RANGE of R196. -/
def fieldOf (w : List Char) : Option (List Char × List Char) :=
  match splitAtChar '=' w with
  | [k, v] => if !k.isEmpty && k.all (fun c => isSmall c || c == '_') then some (k, v) else none
  | _ => none

/-- The words, then the fields; no part is empty and no word follows a field. DESIGN CHOICE (log 28): any part without an
equals sign is in the form of a verb or of an object word, capitals or not, so that a verb in small letters names no
request (NO UNKNOWN) and breaks no grammar. -/
def splitParts : List (List Char) → Option (List (List Char) × Fields)
  | [] => some ([], [])
  | w :: l =>
    match splitParts l with
    | none => none
    | some (ws, fs) =>
      if w.isEmpty then none
      else if '=' ∈ w then
        match fieldOf w with
        | none => none
        | some x => if ws.isEmpty && (fs.lookup x.1).isNone then some ([], x :: fs) else none
      else some (w :: ws, fs)

def keyForm (g : Format) (k : List Char) : Option Form := (g.keys.find? fun x => x.1.toList == k).map (·.2)

/-- A value in the form that the named request `g` gives its key, and in some form of the table under a key that the
request does not take (R201). DESIGN CHOICE (log 28): on a line that names no request any form of the table will do. -/
def fieldInForm (g : Option Format) (x : List Char × List Char) : Bool :=
  match g.bind fun g => keyForm g x.1 with
  | some form => form.holds x.2
  | none => someForm x.2

/-- Tests 4 and 5: the command, or none for NO UNKNOWN; no answer for NO SYNTAX. -/
def readRest (p : Port) (t : Tag) (rest : List Char) : Option (Option Instr) :=
  if '*' ∈ rest then none
  else
    match splitParts (splitAtChar ' ' rest) with
    | none => none
    | some ([], _) => none
    | some (ws, fs) =>
      let g := formatOf ws formats
      if !fs.all (fieldInForm (g.map (·.1))) then none
      else
        match g with
        | none => some none
        | some (g, w) =>
          let extra := fs.any fun x => (keyForm g x.1).isNone
          some (some (g.build { port := p, tag := t, extra := extra } w fs))

inductive Judged where
  | request (i : Instr)
  | bad (why : NotRequest)
  deriving DecidableEq, Repr

/-- R189. -/
def judgeLine (p : Port) (mode : CheckMode) (x : RxLine) : Judged :=
  match readTag x.chars with
  | none => .bad .noTag
  | some (t, rest) =>
    if x.overlong then .bad (.overlong t)
    else if !checkPasses mode x.chars then .bad (.badCheck t)
    else if x.bad then .bad (.badGrammar t)
    else
      match (uncheckedRest x.chars rest).bind (readRest p t) with
      | none => .bad (.badGrammar t)
      | some none => .bad (.unknownVerb t)
      | some (some i) => .request i

end Sys2Proof.Machine
end

