-- ==== Sys2Proof/Machine/Flags.lean ====
section
/-! DEFINITION. Counters (R200), and the values and flags of the summary record (section 10.4, section 11.2). -/

namespace Sys2Proof.Machine

/-- R200: a 32-bit count stays at its top. -/
def bump (n : Nat) : Nat := if n < 2 ^ 32 - 1 then n + 1 else n

/-- Adds one to the counter kept for one source. -/
def bumpAt (v : PerSource Nat) (i : Source) : PerSource Nat := v.put i (bump (v.get i))

def State.counting (s : State) (f : Counters → Counters) : State := { s with counts := f s.counts }

/-- The number of defined carriers in a state (section 10.4). -/
def carriersIn (s : State) (st : CarrierState) : Nat :=
  (List.finRange 16).countP fun c => (s.cfg.carriers.get c).isSome && (s.share.carriers.get c).state == st

/-- The current values as their owners hold them (section 10.4). -/
def currentVals (s : State) : SumVals :=
  { phase := s.site.phase, link := s.link.state, profile := s.link.confirmed, base := s.link.base
    pool := s.share.pool, tstate := s.timing.state, grade := s.timing.grade, source := s.timing.selected
    test := s.tests.current.map (·.number), idle := carriersIn s .idle, waiting := carriersIn s .waiting
    active := carriersIn s .active, throttled := carriersIn s .throttled, held := carriersIn s .held }

/-- The keys in the order of section 11.2. -/
def allKeys : List SumKey :=
  [.phase, .link, .profile, .base, .pool, .tstate, .grade, .source, .test, .idle, .waiting, .active, .throttled,
   .held]

/-! The current values of each owning block (section 10.4). -/

def siteOwned : List SumKey := [.phase]
def linkOwned : List SumKey := [.link, .profile, .base]
def timingOwned : List SumKey := [.tstate, .grade, .source]
def shareOwned : List SumKey := [.pool, .idle, .waiting, .active, .throttled, .held]
def testOwned : List SumKey := [.test]

def allEvents : List EventFlag :=
  [.fade, .loss, .oduFault, .busError, .sourceFail, .jump, .shed, .testDone, .noticeDrop, .lineDrop, .clamp]

def SumKey.word : SumKey → String
  | .phase => "phase" | .link => "link" | .profile => "profile" | .base => "base" | .pool => "pool"
  | .tstate => "tstate" | .grade => "grade" | .source => "source" | .test => "test" | .idle => "idle"
  | .waiting => "waiting" | .active => "active" | .throttled => "throttled" | .held => "held"

def SumVals.val (v : SumVals) : SumKey → Val
  | .phase => .word v.phase.word
  | .link => .word v.link.word
  | .profile => .optFin v.profile
  | .base => .nat v.base
  | .pool => .nat v.pool
  | .tstate => .word v.tstate.word
  | .grade => .word v.grade.word
  | .source => .optWord (v.source.map Source.word)
  | .test => .optNat v.test
  | .idle => .nat v.idle
  | .waiting => .nat v.waiting
  | .active => .nat v.active
  | .throttled => .nat v.throttled
  | .held => .nat v.held

/-- The value of one key taken from `w`. -/
def SumVals.take (v w : SumVals) : SumKey → SumVals
  | .phase => { v with phase := w.phase }
  | .link => { v with link := w.link }
  | .profile => { v with profile := w.profile }
  | .base => { v with base := w.base }
  | .pool => { v with pool := w.pool }
  | .tstate => { v with tstate := w.tstate }
  | .grade => { v with grade := w.grade }
  | .source => { v with source := w.source }
  | .test => { v with test := w.test }
  | .idle => { v with idle := w.idle }
  | .waiting => { v with waiting := w.waiting }
  | .active => { v with active := w.active }
  | .throttled => { v with throttled := w.throttled }
  | .held => { v with held := w.held }

/-- A value set with its changed flag (R194). -/
def Summary.setValue (m : Summary) (k : SumKey) (w : SumVals) : Summary :=
  { m with vals := m.vals.take w k, changed := asSet allKeys (k :: m.changed) }

def Summary.setEvent (m : Summary) (e : EventFlag) : Summary :=
  { m with events := asSet allEvents (e :: m.events) }

/-- Sending clears the flags (section 10.4). -/
def Summary.cleared (m : Summary) : Summary := { m with changed := [], events := [] }

/-- The record as the SUMMARY notice and the reply to SUMMARY carry it (section 11.2). -/
def Summary.pairs (m : Summary) : List Pair :=
  (allKeys.map fun k => { key := k.word, val := m.vals.val k, caret := decide (k ∈ m.changed) })
    ++ [kv "events" (.words (m.events.map EventFlag.word))]

end Sys2Proof.Machine
end

