-- ==== Sys2Proof/Machine/Ops.lean ====
section
/-! DEFINITION. The operations that every block shares: site time, deliveries between blocks, the transmit queue of a
port, notices, replies and the summary record (R191, R193 to R195), and the access levels of section 10.5. -/

namespace Sys2Proof.Machine

/-- Site time as a block reads it (R62). -/
def State.now (s : State) : SiteTime := { sec := s.clock.sec, ns := s.clock.ns }

/-- A delivery that the receiving block takes as an event of its own (log 3). -/
def State.push (s : State) (g : Signal) : State := { s with signals := s.signals ++ [g] }

def State.port (s : State) (p : Port) : PortState := s.ports.get p

def State.setPort (s : State) (p : Port) (x : PortState) : State := { s with ports := s.ports.put p x }

def State.onPort (s : State) (p : Port) (f : PortState → PortState) : State := s.setPort p (f (s.port p))

def State.settings (s : State) (f : Settings → Settings) : State := { s with cfg := f s.cfg }

/-! ## The transmit queue (R191) -/

def txCapacity : Nat := 24

def freeEntries (x : PortState) : Nat := txCapacity - x.txq.length

/-- Whether the port's lines carry a check: only in check mode REQUIRED. -/
def checked (s : State) (p : Port) : Bool := (s.cfg.ports.get p).check == .required

/-- R191, R202: the lines of the waiting reply enter while an entry is free. -/
def PortState.enter (x : PortState) : PortState :=
  { x with txq := x.txq ++ x.waiting.take (freeEntries x), waiting := x.waiting.drop (freeEntries x) }

/-- A reply is offered to the port's transmit queue. -/
def offerReply (s : State) (p : Port) (lead : Lead) (r : Reply) : State :=
  s.onPort p fun x => { x with waiting := x.waiting ++ replyLines lead (checked s p) r }.enter

/-- R191, R202: a notice group needs as many free entries as it has lines, plus 3. -/
def fits (x : PortState) (l : List TxLine) : Bool := decide (l.length + 3 ≤ freeEntries x)

def noticeLines (s : State) (p : Port) (words : List String) (pairs : List Pair) : List TxLine :=
  groupLines .notice (checked s p) words pairs []

def countNoticeDrop (s : State) (p : Port) : State :=
  s.counting fun c => { c with noticeDrops := c.noticeDrops.put p (bump (c.noticeDrops.get p)) }

/-! ## The summary record (R194, R195) -/

def changeMode (s : State) (p : Port) : Bool := (s.cfg.ports.get p).change

/-- The two timers that each summary made restarts. -/
def restartSummaryTimers (s : State) (p : Port) : State :=
  s.onPort p fun x =>
    { x with intervalTimer := secondsTimer (s.cfg.ports.get p).interval, spacingTimer := some 1000 }

/-- A PORT notice SUMMARY, whatever the mask. If it enters it clears the flags; if it is dropped it clears none, and
its drop, under change mode ON, is a summary change that the running spacing timer defers. DESIGN CHOICE (log 33): that
holds of a drop that sets NOTICE_DROP (R194); one that finds the flag set already is no summary change, sets no pending
mark and brings no further attempt, though R195 words it of every drop. -/
def sendSummary (s : State) (p : Port) : State :=
  let l := noticeLines s p ["PORT", "SUMMARY"] (s.port p).summary.pairs
  if fits (s.port p) l then
    restartSummaryTimers (s.onPort p fun x => { x with txq := x.txq ++ l, summary := x.summary.cleared }) p
  else
    let fresh := decide (EventFlag.noticeDrop ∉ (s.port p).summary.events)
    let t := restartSummaryTimers (countNoticeDrop s p) p
    t.onPort p fun x =>
      { x with summary := x.summary.setEvent .noticeDrop
               changePending := x.changePending || (fresh && changeMode s p) }

/-- Rule 3 of R195. -/
def summaryChange (s : State) (p : Port) : State :=
  if changeMode s p then
    match (s.port p).spacingTimer with
    | none => sendSummary s p
    | some _ => s.onPort p fun x => { x with changePending := true }
  else s

/-- An event flag of one port's record: a flag that goes from clear to set is a summary change (R194). -/
def setFlag (s : State) (p : Port) (e : EventFlag) : State :=
  if e ∈ (s.port p).summary.events then s
  else summaryChange (s.onPort p fun x => { x with summary := x.summary.setEvent e }) p

def setFlagBoth (s : State) (e : EventFlag) : State := setFlag (setFlag s .main e) .service e

/-- One current value delivered to one port's record. -/
def syncKey (s : State) (p : Port) (cur : SumVals) (k : SumKey) : State :=
  if (s.port p).summary.vals.val k = cur.val k then s
  else summaryChange (s.onPort p fun x => { x with summary := x.summary.setValue k cur }) p

/-- R194: an owning block delivers every change of one of its current values to the records of both ports. The order of
the keys and of the ports is the model's (log 3). -/
def syncSummary (own : List SumKey) (s : State) : State :=
  let cur := currentVals s
  own.foldl (fun t k => syncKey (syncKey t .main cur k) .service cur k) s

/-! ## Notices (R191, R193) -/

/-- A notice offered to one port whatever its mask. -/
def notice (s : State) (p : Port) (words : List String) (pairs : List Pair) : State :=
  let l := noticeLines s p words pairs
  if fits (s.port p) l then s.onPort p fun x => { x with txq := x.txq ++ l }
  else setFlag (countNoticeDrop s p) p .noticeDrop

/-- A notice offered to one port if its mask holds the class. -/
def noticeMasked (s : State) (p : Port) (c : NoticeClass) (words : List String) (pairs : List Pair) : State :=
  if c ∈ (s.cfg.ports.get p).mask then notice s p (c.word :: words) pairs else s

/-- A notice to both ports, each only if its mask holds the class. -/
def noticeBoth (s : State) (c : NoticeClass) (words : List String) (pairs : List Pair) : State :=
  noticeMasked (noticeMasked s .main c words pairs) .service c words pairs

/-- A notice to `p` whatever its mask, and to the other port if its mask holds the class. -/
def noticeOwner (s : State) (p : Port) (c : NoticeClass) (words : List String) (pairs : List Pair) : State :=
  match p with
  | .main => noticeMasked (notice s .main (c.word :: words) pairs) .service c words pairs
  | .service => notice (noticeMasked s .main c words pairs) .service (c.word :: words) pairs

/-! ## Access (section 10.5) -/

def Minima.get (m : Minima) : Group → MinLevel
  | .view => m.view | .align => m.align | .test => m.test | .carrier => m.carrier | .tenantCfg => m.tenantCfg
  | .linkCfg => m.linkCfg | .timingCfg => m.timingCfg | .bus => m.bus | .store => m.store
  | .sitePhase => m.sitePhase

def Minima.put (m : Minima) (g : Group) (v : MinLevel) : Minima :=
  match g with
  | .view => { m with view := v } | .align => { m with align := v } | .test => { m with test := v }
  | .carrier => { m with carrier := v } | .tenantCfg => { m with tenantCfg := v }
  | .linkCfg => { m with linkCfg := v } | .timingCfg => { m with timingCfg := v } | .bus => { m with bus := v }
  | .store => { m with store := v } | .sitePhase => { m with sitePhase := v }

/-- OPEN is the lowest level, TENANT(t) meets a TENANT minimum for every t, and SITE is the highest. -/
def AccessLevel.meets : AccessLevel → MinLevel → Bool
  | _, .opened => true
  | .tenant _, .tenant => true
  | .site, .tenant => true
  | .site, .site => true
  | _, _ => false

/-- Whether a port's level meets the minimum in force of a group. -/
def inGroup (s : State) (p : Port) (g : Group) : Bool := (s.port p).access.meets (s.cfg.minima.get g)

def atSite (s : State) (p : Port) : Bool := (s.port p).access == .site

def otherPort : Port → Port
  | .main => .service
  | .service => .main

/-! ## Free values (log 4) -/

/-- One more than a 32-bit count; past its top a free value in its range, a fresh one each time. -/
def countOn (s : State) (low n : Nat) : State × Nat :=
  if n < 2 ^ 32 - 1 then (s, n + 1)
  else ({ s with free := s.free + 1 }, low + Config.countAfterTop s.free % (2 ^ 32 - low))

end Sys2Proof.Machine
end

