-- ==== Sys2Proof/Machine/Share.lean ====
section
/-! DEFINITION. The share engine (chapter 06): the reshare, the carriers, the borrow, the jump hold and the permit
lines. -/

namespace Sys2Proof.Machine

/-- The state in which a carrier is on the air. -/
def CarrierState.admitted : CarrierState → Bool
  | .active | .throttled => true
  | _ => false

def CarrierState.requesting : CarrierState → Bool
  | .waiting | .active | .throttled => true
  | _ => false

/-- The cause that a CARRIER notice names when its event named the carrier (R131). -/
inductive ShareCause where
  | request | release | hold | holdEnd | restoreEnd
  deriving DecidableEq, Repr

def ShareCause.word : ShareCause → String
  | .request => "REQUEST" | .release => "RELEASE" | .hold => "HOLD" | .holdEnd => "HOLD_END"
  | .restoreEnd => "RESTORE_END"

/-! ## Blocking and the eligible order (R119) -/

/-- Why a requesting carrier is blocked: the first reason that applies. -/
def blocked (h : Share) (d : CarrierDef) (c : Carrier) : Option WaitReason :=
  if h.phase = .staging then some .phase
  else if h.grade = .oscFail ∨ (d.duplex = .tdd ∧ (h.grade ≠ .tddOk ∨ h.ack = true)) then some .timing
  else if c.restore.isSome then some .restore
  else none

def eligible (cfg : Settings) (h : Share) (c : Fin 16) : Bool :=
  match cfg.carriers.get c with
  | none => false
  | some d => (h.carriers.get c).state.requesting && (blocked h d (h.carriers.get c)).isNone

/-- Priority class first, request order within a class. -/
def sortKey (cfg : Settings) (h : Share) (c : Fin 16) : Nat × Nat :=
  (match cfg.carriers.get c with | none => 0 | some d => d.cls, ((h.carriers.get c).order).getD 0)

def keyBefore (a b : Nat × Nat) : Bool := decide (a.1 < b.1) || (a.1 == b.1 && decide (a.2 ≤ b.2))

def insertBy {α : Type} (le : α → α → Bool) (x : α) : List α → List α
  | [] => [x]
  | y :: l => if le x y then x :: y :: l else y :: insertBy le x l

def sortBy {α : Type} (le : α → α → Bool) : List α → List α
  | [] => []
  | x :: l => insertBy le x (sortBy le l)

def eligibleOrder (cfg : Settings) (h : Share) : List (Fin 16) :=
  sortBy (fun a b => keyBefore (sortKey cfg h a) (sortKey cfg h b)) ((List.finRange 16).filter (eligible cfg h))

/-! ## Admission (R120, R121) -/

/-- A walk of the eligible order: the remaining pool, the admitted minimum total of each tenant, the carriers
admitted, and the reason the ceiling pass gave to each other carrier it tested. -/
structure Admission where
  left : Nat
  totals : Vector Nat 4
  admitted : List (Fin 16)
  reasons : List (Fin 16 × WaitReason)
  deriving DecidableEq, Repr

def Admission.start (pool : Nat) : Admission :=
  { left := pool, totals := .replicate 4 0, admitted := [], reasons := [] }

def Admission.take (a : Admission) (c : Fin 16) (d : CarrierDef) : Admission :=
  { a with left := a.left - d.min, totals := a.totals.set d.tenant (a.totals.get d.tenant + d.min),
           admitted := a.admitted ++ [c] }

/-- R120. -/
def floorTest (cfg : Settings) (a : Admission) (c : Fin 16) : Admission :=
  match cfg.carriers.get c with
  | none => a
  | some d =>
    if a.totals.get d.tenant + d.min ≤ (cfg.tenants.get d.tenant).floor ∧ d.min ≤ a.left then a.take c d else a

/-- R121. -/
def ceilingTest (cfg : Settings) (a : Admission) (c : Fin 16) : Admission :=
  if c ∈ a.admitted then a
  else
    match cfg.carriers.get c with
    | none => a
    | some d =>
      if a.totals.get d.tenant + d.min ≤ (cfg.tenants.get d.tenant).ceiling then
        if d.min ≤ a.left then a.take c d else { a with reasons := a.reasons ++ [(c, .noCapacity)] }
      else { a with reasons := a.reasons ++ [(c, .ceiling)] }

def admission (cfg : Settings) (order : List (Fin 16)) (pool : Nat) : Admission :=
  order.foldl (ceilingTest cfg) (order.foldl (floorTest cfg) (.start pool))

def sameCarriers (a b : List (Fin 16)) : Bool :=
  (List.finRange 16).all fun c => decide (c ∈ a) == decide (c ∈ b)

/-! ## Growth (R122, R123) -/

structure Growth where
  left : Nat
  unmet : Vector Nat 4
  extra : Vector Nat 4
  deriving DecidableEq, Repr

def tenantSum (f : Fin 4 → Nat) : Nat := f 0 + f 1 + f 2 + f 3

def ofTenants (f : Fin 4 → Nat) : Vector Nat 4 := #v[f 0, f 1, f 2, f 3]

def demandOf (h : Share) (c : Fin 16) : Nat := (h.carriers.get c).demand

def minOf (cfg : Settings) (c : Fin 16) : Nat :=
  match cfg.carriers.get c with
  | none => 0
  | some d => d.min

def tenantOf (cfg : Settings) (c : Fin 16) : Option (Fin 4) := (cfg.carriers.get c).map (·.tenant)

def unmetAmount (cfg : Settings) (h : Share) (a : Admission) (t : Fin 4) : Nat :=
  let mine := a.admitted.filter fun c => tenantOf cfg c == some t
  min ((mine.map fun c => demandOf h c - minOf cfg c).sum) ((cfg.tenants.get t).ceiling - a.totals.get t)

/-- The weight with which a tenant stands in the growth set. -/
def growthWeight (cfg : Settings) (g : Growth) (t : Fin 4) : Nat :=
  if g.unmet.get t = 0 then 0 else (cfg.tenants.get t).weight

def Growth.give (g : Growth) (f : Fin 4 → Nat) : Growth :=
  { left := g.left - tenantSum f, unmet := ofTenants fun t => g.unmet.get t - f t,
    extra := ofTenants fun t => g.extra.get t + f t }

/-- The rounds: each gives by weight, until one gives nothing. -/
def growthRounds (cfg : Settings) : Nat → Growth → Growth
  | 0, g => g
  | fuel + 1, g =>
    let w := tenantSum (growthWeight cfg g)
    let share := fun t => if w = 0 then 0 else min (g.left * growthWeight cfg g t / w) (g.unmet.get t)
    if tenantSum share = 0 then g else growthRounds cfg fuel (g.give share)

/-- One gift of 1 CU to a tenant of the growth set. -/
def gift (g : Growth) (t : Fin 4) : Growth :=
  if g.left = 0 ∨ g.unmet.get t = 0 then g else g.give fun u => if u = t then 1 else 0

def giftCycles : Nat → Growth → Growth
  | 0, g => g
  | fuel + 1, g =>
    let g' := [0, 1, 2, 3].foldl gift g
    if g'.left = g.left then g else giftCycles fuel g'

def growth (cfg : Settings) (h : Share) (a : Admission) (pool : Nat) : Growth :=
  let x := pool - tenantSum fun t => a.totals.get t
  let g : Growth := { left := x, unmet := ofTenants (unmetAmount cfg h a), extra := .replicate 4 0 }
  giftCycles (x + 1) (growthRounds cfg (x + 1) g)

/-- The grants of the admitted carriers, each tenant's extra handed out in the eligible order (R123). -/
def handOut (cfg : Settings) (h : Share) : List (Fin 16) → Vector Nat 4 → List (Fin 16 × Nat)
  | [], _ => []
  | c :: l, extra =>
    match tenantOf cfg c with
    | none => handOut cfg h l extra
    | some t =>
      let take := min (extra.get t) (demandOf h c - minOf cfg c)
      (c, minOf cfg c + take) :: handOut cfg h l (extra.set t (extra.get t - take))

/-! ## The reshare (section 6.5) -/

/-- The full pool (R118). -/
def fullPool (h : Share) : Nat := h.base - h.reserve

def borrowAmount : Borrow → Nat
  | .absent => 0
  | .waiting n _ | .held n _ => n

/-- R127: whether the borrow fits. -/
def borrowFits (cfg : Settings) (order : List (Fin 16)) (full amount : Nat) : Bool :=
  decide (amount ≤ full)
    && sameCarriers (admission cfg order full).admitted (admission cfg order (full - amount)).admitted

/-- The borrow after a reshare, and what is delivered to the test sequencer (R127). -/
def borrowOutcome (b : Borrow) (fit fromRequest : Bool) : Borrow × List Signal :=
  match b with
  | .absent => (.absent, [])
  | .waiting n t =>
    if fit then (.held n t, [.borrowGranted t]) else (b, if fromRequest then [.borrowDeferred t] else [])
  | .held _ t => if fit then (b, []) else (.absent, [.borrowRevoked t])

/-- The part of the pool that a held borrow takes. -/
def heldAmount : Borrow → Nat
  | .held n _ => n
  | _ => 0

/-- The carrier record that a reshare leaves (R119, R123). DEDUCED (log 36): a restore timer that runs when STAGE blocks
the carrier runs on (R119, R125); the 'no restore timer' of R178 is that none starts. -/
def settleCarrier (cfg : Settings) (h : Share) (a : Admission) (grants : List (Fin 16 × Nat)) (c : Fin 16) :
    Carrier :=
  let r := h.carriers.get c
  match cfg.carriers.get c with
  | none => r
  | some d =>
    if r.state.requesting then
      match blocked h d r with
      | some why => { r with state := .waiting, reason := some why, grant := 0 }
      | none =>
        match grants.lookup c with
        | some g => { r with state := if g = r.demand then .active else .throttled, reason := none, grant := g }
        | none => { r with state := .waiting, reason := a.reasons.lookup c, grant := 0 }
    else { r with grant := 0 }

/-- R124: admitted before and turned away now for its ceiling or for lack of capacity. -/
def isShed (old new : Carrier) : Bool :=
  old.state.admitted && new.state == .waiting && (new.reason == some .ceiling || new.reason == some .noCapacity)

/-- The restore timer of a shed carrier, with the restore hold in force (R124). -/
def startRestore (hold : Nat) (c : Carrier) : Carrier :=
  if hold = 0 then c else { c with restore := some (hold * 1000), reason := some .restore }

def ofCarriers (f : Fin 16 → Carrier) : Vector Carrier 16 := Vector.ofFn f

/-- R130: asserted exactly while the defined carrier assigned to the line is on the air. -/
def permitLine (cfg : Settings) (cs : Vector Carrier 16) (l : Fin 8) : Bool :=
  (List.finRange 16).any fun c =>
    match cfg.carriers.get c with
    | none => false
    | some d => d.permit == some l && (cs.get c).state.admitted

/-- The tables a reshare leaves, and the carriers it sheds with the reasons the ceiling pass gave them. -/
structure Reshared where
  share : Share
  shed : List (Fin 16 × Option WaitReason)
  deliver : List Signal
  deriving DecidableEq, Repr

def grantedTotal (cfg : Settings) (cs : Vector Carrier 16) (t : Fin 4) : Nat :=
  ((List.finRange 16).map fun c => if tenantOf cfg c = some t then (cs.get c).grant else 0).sum

/-- Steps 1 to 6 and the permit lines of section 6.5, as a function of the tables. -/
def Share.reshared (cfg : Settings) (h0 : Share) (fromRequest : Bool) : Reshared :=
  let h := { h0 with ack := h0.jump }
  let order := eligibleOrder cfg h
  let full := fullPool h
  let a := admission cfg order full
  let out := borrowOutcome h.borrow (borrowFits cfg order full (borrowAmount h.borrow)) fromRequest
  let pool := full - heldAmount out.1
  let g := growth cfg h a pool
  let grants := handOut cfg h (order.filter (· ∈ a.admitted)) g.extra
  let after := ofCarriers (settleCarrier cfg h a grants)
  let shed := (List.finRange 16).filter fun c => isShed (h.carriers.get c) (after.get c)
  let cs := ofCarriers fun c => if c ∈ shed then startRestore cfg.restoreHold (after.get c) else after.get c
  { share := { h with
      carriers := cs
      tenants := #v[{ admitted := a.totals.get 0, granted := grantedTotal cfg cs 0 },
                    { admitted := a.totals.get 1, granted := grantedTotal cfg cs 1 },
                    { admitted := a.totals.get 2, granted := grantedTotal cfg cs 2 },
                    { admitted := a.totals.get 3, granted := grantedTotal cfg cs 3 }]
      pool := pool
      borrow := out.1
      permits := Vector.ofFn (permitLine cfg cs) }
    shed := shed.map fun c => (c, (after.get c).reason)
    deliver := out.2 }

/-- The results of a reshare for a carrier: its state, its waiting reason and its grant (R131). -/
def Carrier.sameResult (a b : Carrier) : Bool := a.state == b.state && a.reason == b.reason && a.grant == b.grant

/-- What a SHARE notice looks at: the results of a reshare (R131). What the event itself changes in a carrier's record
(its demand, its order, a timer) is none of them, and neither is a changed copy of the base or the reserve alone
(log 26). -/
def Share.sameResults (a b : Share) : Bool :=
  (List.finRange 16).all (fun c => (a.carriers.get c).sameResult (b.carriers.get c)) && decide (a.tenants = b.tenants)
    && a.pool == b.pool && a.borrow == b.borrow && a.ack == b.ack

def Borrow.pairs : Borrow → List Pair
  | .absent => [kv "borrow" .absent, kv "amount" .absent]
  | .waiting n _ => [kv "borrow" (.word "WAITING"), kv "amount" (.nat n)]
  | .held n _ => [kv "borrow" (.word "HELD"), kv "amount" (.nat n)]

def Share.granted (h : Share) : Nat := tenantSum fun t => (h.tenants.get t).granted

/-- The CARRIER notice of one carrier after a reshare (R131). DESIGN CHOICE (log 26): the record of an undefined carrier
stands as IDLE, so that CARRIER DEFINE, which leaves the carrier IDLE or undefined, changes no state and none is sent.
-/
def carrierNotice (before : Share) (shed : List (Fin 16 × Option WaitReason)) (named : Option (Fin 16 × ShareCause))
    (s : State) (c : Fin 16) : State :=
  let old := before.carriers.get c
  let new := s.share.carriers.get c
  match s.cfg.carriers.get c with
  | none => s
  | some d =>
    if old.sameResult new then s
    else
      let lost := shed.lookup c
      let why := match lost with | some r => r | none => new.reason
      let cause := match lost, named with
        | some _, _ => "SHED"
        | none, some (n, k) => if n = c then k.word else "RESHARE"
        | none, none => "RESHARE"
      noticeBoth s .share ["CARRIER"]
        [kv "carrier" (.nat c), kv "tenant" (.nat d.tenant), kv "sector" (.nat d.sector),
         kv "state" (.word new.state.word), kv "former" (.word old.state.word),
         kv "reason" (.optWord (why.map (·.word))), kv "grant" (.nat new.grant), kv "demand" (.nat new.demand),
         kv "cause" (.word cause)]

/-- R129: the acknowledgement goes to the site clock if it differs from the value last delivered. -/
def deliverAck (s : State) : State :=
  if s.share.ack = s.share.ackSent then s
  else { s with clock := { s.clock with permitted := s.share.ack }
                share := { s.share with ackSent := s.share.ack } }

/-- A SHARE notice, if the reshare changed anything in its results (R131). -/
def shareNotice (before : Share) (s : State) : State :=
  if before.sameResults s.share then s
  else noticeBoth s .share ["SHARE"]
    ([kv "base" (.nat s.share.base), kv "reserve" (.nat s.share.reserve), kv "pool" (.nat s.share.pool)]
      ++ s.share.borrow.pairs
      ++ [kv "granted" (.nat s.share.granted), kv "t0" (.nat (s.share.tenants.get 0).granted),
          kv "t1" (.nat (s.share.tenants.get 1).granted), kv "t2" (.nat (s.share.tenants.get 2).granted),
          kv "t3" (.nat (s.share.tenants.get 3).granted), kv "jumphold" (.mark s.share.ack)])

/-- R124: the SHED event is raised for each shed carrier. -/
def shedFlag (shed : List (Fin 16 × Option WaitReason)) (s : State) : State :=
  shed.foldl (fun s _ => setFlagBoth s .shed) s

/-- The reports of a reshare: the SHED flag, the CARRIER notices in index order, the SHARE notice, the
engine's own values of the summaries. -/
def reshareReport (before : Share) (shed : List (Fin 16 × Option WaitReason)) (named : Option (Fin 16 × ShareCause))
    (s : State) : State :=
  syncSummary shareOwned
    (shareNotice before ((List.finRange 16).foldl (carrierNotice before shed named) (shedFlag shed s)))

def countReshare (shed : List (Fin 16 × Option WaitReason)) (s : State) : State :=
  s.counting fun c => { c with reshares := bump c.reshares, sheds := shed.foldl (fun n _ => bump n) c.sheds }

/-- One reshare: the tables, the counters, the deliveries and the notices (section 6.5, R131). `before` holds the
tables as they stood before the event that causes it. -/
def reshare (s : State) (before : Share) (named : Option (Fin 16 × ShareCause)) (fromRequest : Bool) : State :=
  let r := s.share.reshared s.cfg fromRequest
  reshareReport before r.shed named
    (r.deliver.foldl State.push (deliverAck (countReshare r.shed { s with share := r.share })))

/-- A change of an input of the engine: the copy takes the value, then one reshare (R117). -/
def shareInput (s : State) (f : Share → Share) : State :=
  reshare { s with share := f s.share } s.share none false

/-! ## The borrow (R126, R128) -/

def borrowRequest (s : State) (test : Nat) : State :=
  match s.share.borrow with
  | .absent => reshare { s with share := { s.share with borrow := .waiting s.cfg.borrow test } } s.share none true
  | _ => s

/-- A withdrawal, or a return: a WAITING borrow ends without a reshare, a HELD one with it. -/
def borrowEnd (s : State) : State :=
  match s.share.borrow with
  | .absent => s
  | .waiting _ _ => { s with share := { s.share with borrow := .absent } }
  | .held _ _ => shareInput s fun h => { h with borrow := .absent }

/-! ## Carriers (section 6.3) -/

def Share.setCarrier (h : Share) (c : Fin 16) (f : Carrier → Carrier) : Share :=
  { h with carriers := h.carriers.set c (f (h.carriers.get c)) }

/-- The orders held by carriers, renumbered from 1 with their relative order kept (R111). -/
def renumbered (h : Share) : Share :=
  let held := (List.finRange 16).filter fun c => (h.carriers.get c).order.isSome
  let rank := fun c => (held.countP fun x =>
    decide (((h.carriers.get x).order).getD 0 < ((h.carriers.get c).order).getD 0)) + 1
  { h with
    carriers := ofCarriers fun c =>
      let r := h.carriers.get c
      if r.order.isSome then { r with order := some (rank c) } else r
    orders := held.length }

/-- A new request order (R111). -/
def nextOrder (h : Share) : Share :=
  let h := if h.orders < 2 ^ 32 - 1 then h else renumbered h
  { h with orders := h.orders + 1 }

/-- A carrier event that names the carrier, taken as a reshare event. -/
def carrierEvent (s : State) (c : Fin 16) (cause : ShareCause) (f : Share → Share) : State :=
  reshare { s with share := f s.share } s.share (some (c, cause)) false

/-- R112, once the checks have passed. -/
def requestCarrier (s : State) (c : Fin 16) (d : Nat) : State :=
  carrierEvent s c .request fun h =>
    if (h.carriers.get c).state = .idle then
      let h := nextOrder h
      h.setCarrier c fun r => { r with demand := d, state := .waiting, order := some h.orders }
    else h.setCarrier c fun r => { r with demand := d }

/-- R113: the effect on a carrier that is not IDLE. -/
def releaseCarrier (s : State) (c : Fin 16) : State :=
  carrierEvent s c .release fun h => h.setCarrier c fun _ => .idle

/-- R115. -/
def endHold (s : State) (c : Fin 16) : State :=
  carrierEvent s c .holdEnd fun h =>
    h.setCarrier c fun r => { r with state := .waiting, hold := none, restore := none }

/-- R114 for n above 0. -/
def holdCarrier (s : State) (c : Fin 16) (n : Nat) : State :=
  carrierEvent s c .hold fun h =>
    h.setCarrier c fun r =>
      { r with state := .held, grant := 0, reason := none, restore := none
               hold := some (if n = 65535 then .untilCancelled else .ms n) }

/-- R125. -/
def endRestore (s : State) (c : Fin 16) : State :=
  carrierEvent s c .restoreEnd fun h => h.setCarrier c fun r => { r with restore := none }

/-- Tenant scoping of the CARRIER group (R112, R199). -/
def inScope (s : State) (p : Port) (t : Fin 4) : Bool :=
  match (s.port p).access with
  | .site => true
  | .tenant u => u == t
  | .opened => false

def HoldTimer.val : HoldTimer → Val
  | .ms n => .nat n
  | .untilCancelled => .word "UNTIL_CANCELLED"

def holdVal : Option HoldTimer → Val
  | none => .absent
  | some t => t.val

def carrierPairs (s : State) (c : Fin 16) : List Pair :=
  let r := s.share.carriers.get c
  match s.cfg.carriers.get c with
  | none => [kv "c" (.nat c), kv "defined" (.word "UNDEFINED")]
  | some d =>
    [kv "c" (.nat c), kv "defined" (.yesNo true), kv "tenant" (.nat d.tenant), kv "sector" (.nat d.sector),
     kv "duplex" (.word d.duplex.word), kv "class" (.nat d.cls), kv "min" (.nat d.min),
     kv "permit" (.optFin d.permit), kv "demand" (.nat r.demand), kv "state" (.word r.state.word),
     kv "reason" (.optWord (r.reason.map (·.word))), kv "grant" (.nat r.grant), kv "order" (.optNat r.order),
     kv "restore" (.optNat r.restore), kv "hold" (holdVal r.hold)]

/-- The tenant record of section 6.1. -/
def tenantRecord (s : State) (t : Fin 4) : List Pair :=
  let k := s.cfg.tenants.get t
  [kv "t" (.nat t), kv "defined" (.yesNo k.defined), kv "floor" (.nat k.floor), kv "ceiling" (.nat k.ceiling),
   kv "weight" (.nat k.weight), kv "cred" (.word (if k.cred.isSome then "SET" else "NONE")),
   kv "admitted" (.nat (s.share.tenants.get t).admitted), kv "granted" (.nat (s.share.tenants.get t).granted)]

def tenantPairs (s : State) (t : Fin 4) : List Pair :=
  let n := fun st => (List.finRange 16).countP fun c =>
    tenantOf s.cfg c == some t && (s.share.carriers.get c).state == st
  tenantRecord s t ++
  [kv "idle" (.nat (n .idle)), kv "waiting" (.nat (n .waiting)), kv "active" (.nat (n .active)),
   kv "throttled" (.nat (n .throttled)), kv "held" (.nat (n .held))]

/-! ## Requests of the share engine -/

/-- The checks that CARRIER REQUEST, RELEASE and HOLD share: the carrier named, in scope. The order of the refusals
is the model's (log 11). -/
def namedCarrier (s : State) (p : Port) (c : Option Int) (k : Fin 16 → CarrierDef → State × Reply) : State × Reply :=
  if (s.port p).access = .opened then (s, .no .noLevel)
  else
    match indexOf 16 c with
    | none => (s, .no .noRange)
    | some c =>
      match s.cfg.carriers.get c with
      | none => (s, .no .noState)
      | some d => if inScope s p d.tenant then k c d else (s, .no .noLevel)

/-- R113. -/
def handleCarrierRelease (s : State) (p : Port) (c : Option Int) : State × Reply :=
  namedCarrier s p c fun c _ =>
    (if (s.share.carriers.get c).state = .idle then s else releaseCarrier s c,
     .ok [kv "state" (.word CarrierState.idle.word)] [])

/-- R112. -/
def handleCarrierRequest (s : State) (p : Port) (c demand : Option Int) : State × Reply :=
  if demand = some 0 then handleCarrierRelease s p c
  else
    namedCarrier s p c fun c d =>
      match demand with
      | none => (s, .no .noRange)
      | some i =>
        if i < d.min ∨ 4000 < i then (s, .no .noRange)
        else
          let t := requestCarrier s c i.toNat
          let r := t.share.carriers.get c
          (t, .ok [kv "state" (.word r.state.word), kv "reason" (.optWord (r.reason.map (·.word))),
                   kv "grant" (.nat r.grant)] [])

def holdReply (s : State) (c : Fin 16) : Reply :=
  let r := s.share.carriers.get c
  .ok [kv "state" (.word r.state.word), kv "hold" (holdVal r.hold)] []

/-- R114. The range of n is checked before the carrier's state (log 11). -/
def handleCarrierHold (s : State) (p : Port) (c ms : Option Int) : State × Reply :=
  if (s.port p).access = .opened then (s, .no .noLevel)
  else
    match indexOf 16 c with
    | none => (s, .no .noRange)
    | some c =>
      let outOfScope := match s.cfg.carriers.get c with
        | none => false
        | some d => !inScope s p d.tenant
      if outOfScope then (s, .no .noLevel)
      else
        match indexOf 65536 ms with
        | none => (s, .no .noRange)
        | some n =>
          let st := (s.share.carriers.get c).state
          if (s.cfg.carriers.get c).isNone ∨ st = .idle then (s, .no .noState)
          else
            let t := if n.val = 0 then (if st = .held then endHold s c else s) else holdCarrier s c n
            (t, holdReply t c)

/-- R116. -/
def handleCarrierRead (s : State) (c : Option Int) : State × Reply :=
  match optIndexOf 16 c with
  | none => (s, .no .noRange)
  | some (some c) => (s, .ok (carrierPairs s c) [])
  | some none => (s, .ok [] ((List.finRange 16).map (carrierPairs s)))

/-- The tenant record that TENANT SET would leave. -/
def TenantSettings.with (k : TenantSettings) (a : TenantArgs) : TenantSettings :=
  { k with defined := boolOr k.defined a.defined, floor := natOr k.floor a.floor
           ceiling := natOr k.ceiling a.ceiling, weight := natOr k.weight a.weight }

def tenantArgsOk (a : TenantArgs) : Bool :=
  inRange 0 4000 a.floor && inRange 0 4000 a.ceiling && inRange 1 16 a.weight
    && (a.defined.isSome || a.floor.isSome || a.ceiling.isSome || a.weight.isSome)

/-- R108; the reply is the record as it stands after the reshare. -/
def handleTenantSet (s : State) (t : Option Int) (a : TenantArgs) : State × Reply :=
  match indexOf 4 t with
  | none => (s, .no .noRange)
  | some t =>
    let k := (s.cfg.tenants.get t).with a
    if !tenantArgsOk a || decide (k.ceiling < k.floor) then (s, .no .noRange)
    else if a.defined = some false ∧ (List.finRange 16).any (fun c => tenantOf s.cfg c == some t) then
      (s, .no .noState)
    else
      let s := s.settings fun cfg => { cfg with tenants := cfg.tenants.set t k }
      let s := shareInput s id
      (s, .ok (tenantRecord s t) [])

/-- R109. -/
def handleTenantRead (s : State) (p : Port) (t : Option Int) : State × Reply :=
  match (s.port p).access, optIndexOf 4 t with
  | .opened, _ => (s, .no .noLevel)
  | _, none => (s, .no .noRange)
  | .site, some none => (s, .ok [] ((List.finRange 4).map (tenantPairs s)))
  | .site, some (some t) => (s, .ok (tenantPairs s t) [])
  | .tenant _, some none => (s, .no .noLevel)
  | .tenant u, some (some t) => if u = t then (s, .ok (tenantPairs s t) []) else (s, .no .noLevel)

/-- The definition that CARRIER DEFINE would leave: the fields given over the record, or over the values of R110 for
an undefined carrier. -/
def definedCarrier (old : Option CarrierDef) (a : CarrierArgs) : Option CarrierDef :=
  match indexOf 4 (match a.tenant with | some i => some i | none => old.map fun d => (d.tenant.val : Int)) with
  | none => none
  | some t =>
    let base : CarrierDef :=
      match old with
      | some d => d
      | none => { tenant := t, sector := 0, duplex := .fdd, cls := 3, min := 1, permit := none }
    some { tenant := t, sector := natOr base.sector a.sector, duplex := nameOr base.duplex a.duplex
           cls := natOr base.cls a.cls, min := natOr base.min a.min
           permit := match a.permit with
             | none => base.permit
             | some (.line i) => indexOf 8 (some i)
             | some .noLine | some .other => none }

def permitOk : Option PermitArg → Bool
  | some (.line i) => inRange 0 7 (some i)
  | some .other => false
  | _ => true

def noCarrierField (a : CarrierArgs) : Bool :=
  a.tenant.isNone && a.sector.isNone && a.duplex.isNone && a.cls.isNone && a.min.isNone && a.permit.isNone

def carrierArgsOk (a : CarrierArgs) : Bool :=
  inRange 0 3 a.tenant && inRange 0 7 a.sector && nameOk a.duplex && inRange 0 3 a.cls && inRange 1 4000 a.min
    && permitOk a.permit && (a.defined.isSome || !noCarrierField a)

def lineTaken (cfg : Settings) (c : Fin 16) (d : CarrierDef) : Bool :=
  d.permit.isSome && (List.finRange 16).any fun x =>
    x != c && (match cfg.carriers.get x with | none => false | some e => e.permit == d.permit)

/-- R110. The carrier is IDLE, with demand 0, after the change. -/
def putCarrier (s : State) (c : Fin 16) (d : Option CarrierDef) : State :=
  let t := s.settings fun cfg => { cfg with carriers := cfg.carriers.set c d }
  shareInput t fun h => h.setCarrier c fun _ => .idle

/-- R110; the reply is the record as it stands after the reshare. -/
def handleCarrierDefine (s : State) (c : Option Int) (a : CarrierArgs) : State × Reply :=
  match indexOf 16 c with
  | none => (s, .no .noRange)
  | some c =>
    let old := s.cfg.carriers.get c
    if old.isSome ∧ (s.share.carriers.get c).state ≠ .idle then (s, .no .noState)
    else if !carrierArgsOk a then (s, .no .noRange)
    else if a.defined = some false then
      if !noCarrierField a then (s, .no .noRange)
      else if old.isNone then (s, .no .noRange)
      else (putCarrier s c none, .ok (carrierPairs (putCarrier s c none) c) [])
    else if old.isNone ∧ a.tenant.isNone then (s, .no .noRange)
    else
      match definedCarrier old a with
      | none => (s, .no .noRange)
      | some d =>
        if lineTaken s.cfg c d then (s, .no .noRange)
        else if !(s.cfg.tenants.get d.tenant).defined then (s, .no .noState)
        else (putCarrier s c (some d), .ok (carrierPairs (putCarrier s c (some d)) c) [])

/-- R132. -/
def handleShareSet (s : State) (borrow restore : Option Int) : State × Reply :=
  if (borrow.isNone && restore.isNone) || !inRange 1 16 borrow || !inRange 0 120 restore then (s, .no .noRange)
  else
    let t := s.settings fun cfg =>
      { cfg with borrow := natOr cfg.borrow borrow, restoreHold := natOr cfg.restoreHold restore }
    (t, .ok [kv "borrow" (.nat t.cfg.borrow), kv "restore" (.nat t.cfg.restoreHold)] [])

def borrowTest : Borrow → Option Nat
  | .absent => none
  | .waiting _ t | .held _ t => some t

/-- R133. -/
def handleShareRead (s : State) : State × Reply :=
  let h := s.share
  let tenants := ((List.finRange 4).filter fun t => (s.cfg.tenants.get t).defined).map fun (t : Fin 4) =>
    [kv "t" (.nat t.val), kv "admitted" (.nat (h.tenants.get t).admitted),
     kv "granted" (.nat (h.tenants.get t).granted)]
  (s, .ok ([kv "base" (.nat h.base), kv "reserve" (.nat h.reserve), kv "full" (.nat (fullPool h)),
            kv "pool" (.nat h.pool)] ++ h.borrow.pairs
        ++ [kv "test" (.optNat (borrowTest h.borrow)), kv "total" (.nat h.granted), kv "grade" (.word h.grade.word),
            kv "jump" (.word (if h.jump then "PRESENT" else "NONE")), kv "jumphold" (.mark h.ack),
            kv "phase" (.word h.phase.word), kv "orders" (.nat h.orders), kv "lend" (.nat s.cfg.borrow),
            kv "restore" (.nat s.cfg.restoreHold)]) tenants)

/-- R132: a LOAD releases every carrier, replaces the tables and performs one reshare. Its notices compare with the
tables before the LOAD, under the definitions of the image (log 26). -/
def loadShare (s : State) (img : Settings) : State :=
  let t := s.settings fun cfg =>
    { cfg with tenants := img.tenants, carriers := img.carriers, borrow := img.borrow,
               restoreHold := img.restoreHold }
  shareInput t fun h => { h with carriers := .replicate 16 .idle }

end Sys2Proof.Machine
end

