-- ==== Sys2Proof/Machine/Timing.lean ====
section
/-! DEFINITION. The timing selector (chapter 05): qualification, selection, timing states, bound, grade, the jump
request and the timing requests. -/

namespace Sys2Proof.Machine

def State.onTiming (s : State) (f : Timing → Timing) : State := { s with timing := f s.timing }

def State.onClock (s : State) (f : Clock → Clock) : State := { s with clock := f s.clock }

def Timing.onSource (t : Timing) (i : Source) (f : SourceRec → SourceRec) : Timing :=
  { t with sources := t.sources.put i (f (t.sources.get i)) }

/-! ## Forced CHECK (R86) -/

def Timing.forced (t : Timing) (i : Source) : Bool :=
  (t.sources.get i).mark.isSome || (i == .link && t.linkCopy != .up) || t.oscCopy

/-- A source comes into CHECK; its last capture is kept for reading. -/
def SourceRec.toCheck (r : SourceRec) : SourceRec :=
  { r with state := .check, anchor := none, goodRun := 0, badRun := 0, watch := none }

/-- Every enabled source to which a condition of R86 applies is in CHECK. -/
def Timing.applyForce (t : Timing) : Timing :=
  allSources.foldl (fun t i =>
    if t.forced i ∧ (t.sources.get i).state ≠ .off then t.onSource i SourceRec.toCheck else t) t

/-! ## Bound and grade (R98, R99) -/

def boundOf (cfg : Settings) (t : Timing) : Option Nat :=
  match t.state with
  | .freerun => none
  | .locking | .locked =>
    match t.selected with
    | none => none
    | some i => (t.sources.get i).lastOffset.map fun x => x.natAbs + (cfg.sources.get i).allowance
  | .holdover =>
    match t.entryBound, t.holdSecs with
    | some b, some n => some (b + t.latch.drift * n)
    | _, _ => none

def within (limit : Nat) : Option Nat → Bool
  | none => false
  | some b => decide (b ≤ limit)

def gradeOf (t : Timing) : Grade :=
  if t.oscCopy then .oscFail
  else if (t.state = .locked ∨ t.state = .holdover) ∧ within t.latch.tdd t.bound then .tddOk
  else .unfit

def Timing.regrade (cfg : Settings) (t : Timing) : Timing :=
  let t := { t with bound := boundOf cfg t }
  { t with grade := gradeOf t }

/-! ## Selection and timing state (R89, R93) -/

def Timing.selectable (t : Timing) (i : Source) : Bool :=
  (t.sources.get i).state == .qualified && (t.sources.get i).mark.isNone

/-- The lowest priority number, and between equals the lower index. -/
def Timing.preferred (t : Timing) : Option Source :=
  (allSources.filter t.selectable).foldl (fun best i =>
    match best with
    | none => some i
    | some b => if t.latch.priority.get i < t.latch.priority.get b then some i else some b) none

/-- Whether one source is preferred to another (R89). -/
def Timing.preferredTo (t : Timing) (i j : Source) : Bool :=
  let a := t.latch.priority.get i
  let b := t.latch.priority.get j
  decide (a < b) || (a == b && decide (Source.index i < Source.index j))

/-- Entry to FREERUN. -/
def Timing.toFreerun (t : Timing) : Timing :=
  { t with state := .freerun, everLocked := false, entryBound := none, holdSecs := none }

def Timing.toLocking (t : Timing) : Timing :=
  { t with state := .locking, lockRun := 0, entryBound := none, holdSecs := none }

/-- The selection becomes NONE; the bound held is the bound just before the loss (R93). DESIGN CHOICE (log 13): where a
bad capture of the selected source is what makes it FAILED, that is the bound before this event, without the capture's
offset. -/
def Timing.lose (t : Timing) : Timing :=
  match t.state with
  | .locking | .locked =>
    if (t.state = .locked ∨ t.everLocked) ∧ within t.latch.holdover t.bound then
      { t with state := .holdover, entryBound := t.bound, holdSecs := some 0 }
    else t.toFreerun
  | _ => t

/-- A change of selection acts on the timing state. -/
def Timing.select (t : Timing) (new : Option Source) : Timing :=
  if new = t.selected then t
  else
    match new with
    | none => { t.lose with selected := none }
    | some i => { t.toLocking with selected := some i }

/-- R89: the selection after an event, with the cause of a change. `became` is a source that has just become
QUALIFIED. -/
def Timing.reselect (t : Timing) (became : Option Source) (boundary : Bool) : Timing × String :=
  match t.selected with
  | some i =>
    if !t.selectable i then (t.select t.preferred, if boundary then "BOUNDARY" else "LOSS")
    else if t.latch.revertive && boundary then (t.select t.preferred, "BOUNDARY")
    else
      match became with
      | some j => if t.latch.revertive && t.preferredTo j i then (t.select (some j), "REVERT") else (t, "LOSS")
      | none => (t, "LOSS")
  | none =>
    if boundary then (t.select t.preferred, "BOUNDARY")
    else
      match became with
      | some j => (t.select (some j), "QUALIFIED")
      | none => (t, "LOSS")

/-! ## What an event delivers (R99, R102, R106) -/

/-- The causes that the notices of one event carry. -/
structure TimingCauses where
  source : String
  select : String
  state : String
  jump : String
  deriving DecidableEq, Repr

def optSource (o : Option Source) : Val := .optWord (o.map Source.word)

def boundVal : Option Nat → Val
  | none => .word "UNBOUNDED"
  | some n => .nat n

def sourceNotice (old : Timing) (cause : String) (s : State) (i : Source) : State :=
  let a := (old.sources.get i).state
  let b := (s.timing.sources.get i).state
  if a = b then s
  else noticeBoth s .time ["SOURCE"]
    [kv "source" (.word (Source.word i)), kv "state" (.word b.word), kv "former" (.word a.word),
     kv "cause" (.word cause)]

/-- After an event of the timing selector: bound and grade are recomputed; the notices leave in the order SOURCE,
SELECT, STATE, GRADE, JUMP CANCELLED; the copies and the reshare events are delivered. DESIGN CHOICE (log 22): several
SOURCE notices of one event leave in the order of the source indices, and the STATE notice carries the bound as it
stands after the change (UNBOUNDED for HOLDOVER to FREERUN). DESIGN CHOICE (log 3): where one event changes both the
grade and the presence of a jump request, the reshare of the grade comes before that of the request. -/
def timingCommit (s : State) (old : Timing) (c : TimingCauses) : State :=
  let s := s.onTiming fun t => t.regrade s.cfg
  let new := s.timing
  let s := allSources.foldl (sourceNotice old c.source) s
  let s := if new.selected = old.selected then s
    else noticeBoth s .time ["SELECT"]
      [kv "selected" (optSource new.selected), kv "former" (optSource old.selected), kv "cause" (.word c.select)]
  let s := if new.state = old.state then s
    else noticeBoth s .time ["STATE"]
      [kv "state" (.word new.state.word), kv "former" (.word old.state.word), kv "cause" (.word c.state),
       kv "bound" (boundVal new.bound)]
  let s := if new.grade = old.grade then s
    else noticeBoth s .time ["GRADE"]
      [kv "grade" (.word new.grade.word), kv "former" (.word old.grade.word), kv "state" (.word new.state.word),
       kv "bound" (boundVal new.bound)]
  let s := match old.jumpReq, new.jumpReq with
    | some j, none =>
      if c.jump = "" then s
      else noticeBoth s .time ["JUMP", "CANCELLED"] [kv "amount" (.int j.amount), kv "cause" (.word c.jump)]
    | _, _ => s
  let s := s.onClock fun k => { k with tstate := new.state, grade := new.grade }
  let s := if new.grade = old.grade then s else shareInput s fun h => { h with grade := new.grade }
  let s := if new.jumpReq.isSome = old.jumpReq.isSome then s
    else shareInput s fun h => { h with jump := new.jumpReq.isSome }
  syncSummary timingOwned s

/-- R102: a change of selection cancels a jump request, and the command is withdrawn from the site clock. -/
def cancelOnReselect (s : State) (old : Timing) : State :=
  if s.timing.selected = old.selected ∨ s.timing.jumpReq.isNone then s
  else (s.onTiming fun t => { t with jumpReq := none }).onClock fun k => { k with jump := none }

/-- The end of an event that touched source records: the forced CHECKs, the selection, a cancelled jump, and the
deliveries. `s0` is the state as the event found it. DESIGN CHOICE (log 22): where the selected source is lost and
another is selected at once, the STATE notice says SELECTED (R106) and JUMP CANCELLED says LOSS (R102). -/
def sourcesChanged (s0 s : State) (became : Option Source) (cause : String) : State :=
  let r := s.timing.applyForce.reselect became false
  let s := cancelOnReselect (s.onTiming fun _ => r.1) s0.timing
  timingCommit s s0.timing
    { source := cause, select := r.2, state := if r.1.selected.isSome then "SELECTED" else "LOSS"
      jump := if r.2 = "LOSS" then "LOSS" else "RESELECT" }

/-! ## Captures (R80 to R84) -/

inductive Judgement where
  | good | bad | noInterval
  deriving DecidableEq, Repr

def judge (tol : Nat) : Option Interval → Judgement
  | none => .noInterval
  | some .long => .bad
  | some (.ns n) => if 1000000000 - tol ≤ n ∧ n ≤ 1000000000 + tol then .good else .bad

/-- The offset of a stamp from the nearest boundary. -/
def offsetOf (t : SiteTime) : Int := if t.ns < 500000000 then t.ns else (t.ns : Int) - 1000000000

/-- The capture becomes the anchor of a new run. -/
def SourceRec.anchorAt (r : SourceRec) (x : Int) : SourceRec :=
  { r with goodRun := 0, anchor := some { min := x, max := x } }

def SourceRec.breakRun (r : SourceRec) : SourceRec := { r with goodRun := 0, anchor := none }

/-- R82. -/
def qualifyStep (g : SourceSettings) (r : SourceRec) (x : Int) : Judgement → SourceRec
  | .good =>
    match r.anchor with
    | none => r.anchorAt x
    | some a =>
      let b : Anchor := { min := min a.min x, max := max a.max x }
      let n := min 60 (r.goodRun + 1)
      if g.qualify ≤ n then
        if b.max - b.min ≤ g.stability then { r with state := .qualified, goodRun := n, anchor := some b, badRun := 0 }
        else r.anchorAt x
      else { r with goodRun := n, anchor := some b }
  | _ => r.breakRun

/-- R83: one more bad pulse of a QUALIFIED source. -/
def badPulse (g : SourceSettings) (r : SourceRec) : SourceRec :=
  if g.fail ≤ r.badRun + 1 then { r with state := .failed, badRun := 0, goodRun := 0, anchor := none }
  else { r with badRun := r.badRun + 1 }

/-- The rule of the source's state for a taken capture. -/
def takeCapture (g : SourceSettings) (r : SourceRec) (x : Int) (j : Judgement) : SourceRec :=
  match r.state with
  | .off => r
  | .check => { r.anchorAt x with state := .qualifying, badRun := 0 }
  | .qualifying => qualifyStep g r x j
  | .qualified => if j = .good then { r with badRun := 0 } else badPulse g r
  | .failed => if j = .good then { r.anchorAt x with state := .qualifying, badRun := 0 } else r

def countJudged (s : State) (i : Source) (st : SourceState) (j : Judgement) : State :=
  if st = .check then s
  else
    match j with
    | .good => s.counting fun c => { c with srcGood := bumpAt c.srcGood i }
    | .bad => s.counting fun c => { c with srcBad := bumpAt c.srcBad i }
    | .noInterval => s

/-- What follows a change of one source's record by a capture or a MISSING event. DESIGN CHOICE (log 21): SOURCE_FAIL is
set before the SOURCE notice is offered. -/
def recordChanged (s0 s : State) (i : Source) (cause : String) : State :=
  let a := (s0.timing.sources.get i).state
  let b := (s.timing.sources.get i).state
  let s := if a ≠ b ∧ b = .failed then setFlagBoth s .sourceFail else s
  sourcesChanged s0 s (if a ≠ b ∧ b = .qualified then some i else none) cause

/-- A capture event (R80). -/
def timingCapture (s : State) (i : Source) (t : SiteTime) (iv : Option Interval) (coarse : Bool) : State :=
  let r := s.timing.sources.get i
  if r.state = .off then s
  else if s.timing.forced i || coarse then s.counting fun c => { c with srcIgnored := bumpAt c.srcIgnored i }
  else
    let g := s.cfg.sources.get i
    let x := offsetOf t
    let j := judge g.tol iv
    let fresh := if r.state ≠ .check ∧ j = .good then some x else r.fresh
    let r' := takeCapture g { r with lastTime := some t, lastOffset := some x, watch := some 1500, fresh := fresh } x j
    recordChanged s ((countJudged s i r.state j).onTiming fun k => k.onSource i fun _ => r') i "CAPTURE"

/-- R85. -/
def timingMissing (s : State) (i : Source) : State :=
  let r := s.timing.sources.get i
  if r.watch.isNone then s
  else
    let w := { r with watch := some 1000 }
    let r' := match r.state with
      | .qualifying => w.breakRun
      | .qualified => badPulse (s.cfg.sources.get i) w
      | _ => w
    let t := s.counting fun c => { c with srcMissing := bumpAt c.srcMissing i }
    recordChanged s (t.onTiming fun k => k.onSource i fun _ => r') i "MISSING"

/-! ## Events of other blocks (R86, R87, R96) -/

/-- R86: a link-state event. -/
def timingLink (s : State) (st : LinkState) : State :=
  sourcesChanged s (s.onTiming fun t => { t with linkCopy := st }) none "LINK"

/-- R96: OSC_BAD sets. -/
def timingOscSet (s : State) : State :=
  let t := { s.timing with oscCopy := true }.applyForce
  let t := { t.toFreerun with selected := none, jumpReq := none }
  let s' := (s.onTiming fun _ => t).onClock fun k =>
    if s.timing.jumpReq.isSome then { k with jump := none } else k
  timingCommit s' s.timing { source := "OSC", select := "LOSS", state := "OSC", jump := "OSC" }

/-- R96: OSC_BAD clears. -/
def timingOscClear (s : State) : State :=
  timingCommit (s.onTiming fun t => { t with oscCopy := false }) s.timing
    { source := "OSC", select := "LOSS", state := "OSC", jump := "OSC" }

/-- R87: the answer to a mark, false when it is refused. -/
def timingMark (s : State) (i : Source) (test : Nat) : State × Bool :=
  if s.timing.selected = some i then (s, false)
  else (sourcesChanged s (s.onTiming fun t => t.onSource i fun r => { r with mark := some test }) none "TEST", true)

def timingUnmark (s : State) (i : Source) : State :=
  s.onTiming fun t => t.onSource i fun r => { r with mark := none }

/-! ## Second boundaries (R88, R94, R101) -/

/-- The correction that the site clock has applied at the boundary. -/
def correctionAt (t : Timing) (jumped : Bool) : Int :=
  if jumped then t.lastJump.getD 0
  else if t.oscCopy then 0
  else t.handed.getD 0

/-- A correction moves the offsets that a record holds (R88). DESIGN CHOICE (log 29): a last offset moved out of the
range of section 5.1 is the plain sum. -/
def SourceRec.move (r : SourceRec) (c : Int) : SourceRec :=
  { r with lastOffset := r.lastOffset.map (· + c)
           anchor := r.anchor.map fun a => { min := a.min + c, max := a.max + c }
           fresh := r.fresh.map (· + c) }

/-- R94: one more second of holdover; past the limit the state becomes FREERUN. -/
def Timing.holdoverSecond (t : Timing) (secs : Nat) : Timing :=
  let t := { t with holdSecs := some secs }
  let b := match t.entryBound with | none => none | some e => some (e + t.latch.drift * secs)
  if within t.latch.holdover b then t else t.toFreerun

/-- A second-boundary event (R88, R94, R101). DESIGN CHOICE (log 22): the last jump amount is absent after a boundary
that applied the jump, as it is after one that follows a cancellation. -/
def timingBoundary (s : State) (jumped : Bool) : State :=
  let old := s.timing
  let s := s.onTiming fun t => { t with latch := .of s.cfg }
  let c := correctionAt old jumped
  let s := s.onTiming fun t => { t with sources := t.sources.map fun r => r.move c, handed := none }
  let cleared := jumped && old.jumpReq.isSome
  let s := if cleared then s.onTiming fun t => { t with jumpReq := none, lockRun := 0 } else s
  let s := s.onTiming fun t => { t with lastJump := if t.jumpReq.isNone then none else t.lastJump }
  let s := match s.timing.state, s.timing.holdSecs with
    | .holdover, some n =>
      let r := countOn s 0 n
      r.1.onTiming fun t => t.holdoverSecond r.2
    | _, _ => s
  let limit := decide (s.timing.state ≠ old.state)
  let r := s.timing.reselect none true
  let s := cancelOnReselect (s.onTiming fun _ => r.1) s.timing
  timingCommit s old
    { source := "CAPTURE", select := r.2
      state := if s.timing.selected ≠ old.selected then (if s.timing.selected.isSome then "SELECTED" else "LOSS")
        else if limit then "HOLDOVER_LIMIT" else "LOSS"
      jump := if cleared then "" else "RESELECT" }

/-! ## Steering points (R90 to R92, R100) -/

def clampSteer (slew : Nat) (c : Int) : Int := max (-(slew : Int)) (min slew c)

def handSteer (s : State) (c : Int) : State :=
  (s.onTiming fun t => { t with handed := some c }).onClock fun k => { k with steer := some c }

def handJump (s : State) (i : Source) (c : Int) : State :=
  (s.onTiming fun t => { t with jumpReq := some { amount := c, source := i }, lastJump := some c }).onClock
    fun k => { k with jump := some c }

/-- The lock run after a fresh offset, and the change to LOCKED (R91). DESIGN CHOICE (log 22): where the lock count was
lowered to a run already counted (R104) and the fresh capture resets that run, nothing changes. -/
def lockStep (g : TimingSettings) (t : Timing) (x : Int) : Timing :=
  let n := if x.natAbs ≤ g.window then min 60 (t.lockRun + 1) else 0
  if g.lockcount ≤ n then { t with lockRun := n, state := .locked, everLocked := true, unlockRun := 0 }
  else { t with lockRun := n }

/-- The unlock run after a fresh offset, and the change to LOCKING (R92). DESIGN CHOICE (log 22): a capture that resets
the run makes no change, whatever run was counted before it (R104). -/
def unlockStep (g : TimingSettings) (t : Timing) (x : Int) : Timing :=
  let n := if g.window < x.natAbs then min 60 (t.unlockRun + 1) else 0
  if g.lockcount ≤ n then { t with unlockRun := n, state := .locking, lockRun := 0 }
  else { t with unlockRun := n }

/-- R100. DESIGN CHOICE (log 3): the notice JUMP REQUEST leaves before the selector's other notices of the steering
point, and before the notices of the reshare that the request causes. -/
def raiseJump (s : State) (i : Source) (x : Int) : State :=
  let s := handJump (s.onTiming fun t => { t with lockRun := 0 }) i (-x)
  noticeBoth s .time ["JUMP", "REQUEST"] [kv "amount" (.int (-x)), kv "source" (.word (Source.word i))]

/-- A steering point with a fresh capture of offset `x` of the selected source. -/
def steerTo (s : State) (i : Source) (x : Int) : State :=
  let g := s.cfg.timing
  match s.timing.state with
  | .locking =>
    match s.timing.jumpReq with
    | some j =>
      if j.amount = -x then s else handJump s j.source (-x)
    | none =>
      if g.jump < x.natAbs then raiseJump s i x
      else (handSteer s (clampSteer g.slew (-x))).onTiming fun t => lockStep g t x
  | .locked => (handSteer s (clampSteer g.slew (-x))).onTiming fun t => unlockStep g t x
  | _ => s

/-- R90. -/
def timingSteering (s : State) : State :=
  let old := s.timing
  let s' := match s.timing.selected with
    | none => s
    | some i =>
      match (s.timing.sources.get i).fresh with
      | none => s
      | some x => steerTo s i x
  let s' := s'.onTiming fun t => { t with sources := t.sources.map fun r => { r with fresh := none } }
  timingCommit s' old
    { source := "CAPTURE", select := "LOSS", state := if old.state = .locking then "LOCK" else "UNLOCK", jump := "" }

/-! ## Requests of the timing selector -/

/-- The site clock takes a change of a source's enabled setting (R69). -/
def clockEnable (s : State) (i : Source) (b : Bool) : State :=
  s.onClock fun k =>
    { k with enabled := k.enabled.put i b
             captures := if b then k.captures else k.captures.put i .cleared
             auxCount := if i = .aux ∧ !b then 0 else k.auxCount }

def SourceSettings.with (g : SourceSettings) (a : SourceArgs) : SourceSettings :=
  { enabled := boolOr g.enabled a.enabled, priority := natOr g.priority a.priority, tol := natOr g.tol a.tol
    qualify := natOr g.qualify a.qualify, fail := natOr g.fail a.fail, stability := natOr g.stability a.stability
    allowance := natOr g.allowance a.allowance }

def sourceArgsOk (a : SourceArgs) : Bool :=
  (a.enabled.isSome || a.priority.isSome || a.tol.isSome || a.qualify.isSome || a.fail.isSome
      || a.stability.isSome || a.allowance.isSome)
    && inRange 0 7 a.priority && inRange 10 10000 a.tol && inRange 2 60 a.qualify && inRange 1 10 a.fail
    && inRange 10 100000 a.stability && inRange 0 100000 a.allowance

/-- The settings of one source come into force with the points of effect of R103. -/
def applySource (s : State) (i : Source) (g : SourceSettings) : State :=
  let was := (s.timing.sources.get i).state
  let t := s.settings fun cfg => { cfg with sources := cfg.sources.put i g }
  if !g.enabled && was != .off then
    sourcesChanged s (clockEnable (t.onTiming fun k => k.onSource i fun _ => .atReset false) i false) none "DISABLE"
  else if g.enabled && was == .off then
    sourcesChanged s
      (clockEnable (t.onTiming fun k => k.onSource i fun r => { r with state := .check }) i true) none "ENABLE"
  else sourcesChanged s t none "ENABLE"

def sourceSettingPairs (i : Source) (g : SourceSettings) : List Pair :=
  [kv "s" (.nat (Source.index i)), kv "enabled" (.yesNo g.enabled), kv "priority" (.nat g.priority),
   kv "tol" (.nat g.tol), kv "qualify" (.nat g.qualify), kv "fail" (.nat g.fail),
   kv "stability" (.nat g.stability), kv "allowance" (.nat g.allowance)]

def sourceAt (i : Fin 3) : Source := if i = 0 then .gnss else if i = 1 then .link else .aux

/-- R103. -/
def handleSourceSet (s : State) (i : Option Int) (a : SourceArgs) : State × Reply :=
  match indexOf 3 i with
  | none => (s, .no .noRange)
  | some i =>
    if !sourceArgsOk a then (s, .no .noRange)
    else
      let g := (s.cfg.sources.get (sourceAt i)).with a
      (applySource s (sourceAt i) g, .ok (sourceSettingPairs (sourceAt i) g) [])

def TimingSettings.with (g : TimingSettings) (a : TimingArgs) : TimingSettings :=
  { jump := natOr g.jump a.jump, slew := natOr g.slew a.slew, window := natOr g.window a.window
    lockcount := natOr g.lockcount a.lockcount, holdover := natOr g.holdover a.holdover
    drift := natOr g.drift a.drift, tdd := natOr g.tdd a.tdd, revertive := nameOr g.revertive a.revertive }

def timingArgsOk (a : TimingArgs) : Bool :=
  (a.jump.isSome || a.slew.isSome || a.window.isSome || a.lockcount.isSome || a.holdover.isSome || a.drift.isSome
      || a.tdd.isSome || a.revertive.isSome)
    && inRange 100 100000 a.jump && inRange 10 1000 a.slew && natOr 0 a.slew % 10 == 0 && inRange 10 10000 a.window
    && inRange 1 60 a.lockcount && inRange 100 10000000 a.holdover && inRange 0 1000 a.drift
    && inRange 100 100000 a.tdd && nameOk a.revertive

/-- The timing settings of a reply (R104, R105). DESIGN CHOICE (log 34): they are those of the second table of section
5.1; the settings of the sources, timing settings too by that section, are left to SOURCE READ. -/
def timingPairs (g : TimingSettings) : List Pair :=
  [kv "jump" (.nat g.jump), kv "slew" (.nat g.slew), kv "window" (.nat g.window), kv "lockcount" (.nat g.lockcount),
   kv "holdover" (.nat g.holdover), kv "drift" (.nat g.drift), kv "tdd" (.nat g.tdd),
   kv "revertive" (.onOff g.revertive)]

/-- R104. -/
def handleTimingSet (s : State) (a : TimingArgs) : State × Reply :=
  if !timingArgsOk a then (s, .no .noRange)
  else
    let g := s.cfg.timing.with a
    (s.settings fun cfg => { cfg with timing := g }, .ok (timingPairs g) [])

def forceCauses (t : Timing) (i : Source) : List String :=
  if (t.sources.get i).state = .off then []
  else
    (if (t.sources.get i).mark.isSome then ["TEST"] else [])
      ++ (if i = .link ∧ t.linkCopy ≠ .up then ["LINK"] else []) ++ (if t.oscCopy then ["OSC"] else [])

/-- The record of one source (R105). DESIGN CHOICE (log 6): 'whether it is a forced CHECK with its causes' is one list
value forced= of the causes in the order TEST, LINK, OSC, empty (and not NONE) where the source is not forced. -/
def sourcePairs (s : State) (i : Source) : List Pair :=
  let r := s.timing.sources.get i
  [kv "s" (.nat (Source.index i)), kv "state" (.word r.state.word),
   kv "forced" (.words (forceCauses s.timing i))]
    ++ (sourceSettingPairs i (s.cfg.sources.get i)).drop 1
    ++ [kv "time" (.optTime r.lastTime), kv "offset" (.optInt r.lastOffset), kv "goodrun" (.nat r.goodRun),
        kv "min" (.optInt (r.anchor.map (·.min))), kv "max" (.optInt (r.anchor.map (·.max))),
        kv "badrun" (.nat r.badRun), kv "watch" (.optNat r.watch), kv "mark" (.optNat r.mark)]

/-- R105. -/
def handleSourceRead (s : State) (i : Option Int) : State × Reply :=
  match optIndexOf 3 i with
  | none => (s, .no .noRange)
  | some (some i) => (s, .ok (sourcePairs s (sourceAt i)) [])
  | some none => (s, .ok [] (allSources.map (sourcePairs s)))

/-- R105. -/
def handleTimingRead (s : State) : State × Reply :=
  let t := s.timing
  (s, .ok ([kv "selected" (optSource t.selected), kv "state" (.word t.state.word),
            kv "everlocked" (.mark t.everLocked), kv "lockrun" (.nat t.lockRun), kv "unlockrun" (.nat t.unlockRun),
            kv "entry" (.optNat t.entryBound), kv "seconds" (.optNat t.holdSecs), kv "bound" (boundVal t.bound),
            kv "grade" (.word t.grade.word), kv "jumpreq" (.optInt (t.jumpReq.map (·.amount))),
            kv "jumpsource" (optSource (t.jumpReq.map (·.source)))] ++ timingPairs s.cfg.timing) [])

end Sys2Proof.Machine
end

