-- ==== Sys2Proof/Machine/Clock.lean ====
section
/-! DEFINITION. The site clock (chapter 04): site time on its two timebases, corrections, the oscillator check, edge
capture, SITE_PPS and the clock requests. -/

namespace Sys2Proof.Machine

/-! ## Time (R62, R63)

Elapsed times are kept in units of 1/32768 ns: a step of the LO timebase is 10 ns, a cycle of the RC clock is
1 000 000 000 units. -/

def unitsPerNs : Nat := 32768

def unitsPerStep : Nat := 10 * unitsPerNs

def unitsPerCycle : Nat := 1000000000

def secondNs : Nat := 1000000000

/-- The reading at cycle `k` of a second on the RC timebase (R63). -/
def rcReading (k : Nat) : Nat := k * secondNs / 32768 / 10 * 10

/-- The least cycle whose reading is at or above `ns` (R63): readings are multiples of 10 ns, so `ns` counts rounded up
to one. -/
def rcCycleAt (ns : Nat) : Nat := ((ns + 9) / 10 * 10 * 32768 + (secondNs - 1)) / secondNs

def CaptureRec.pass (r : CaptureRec) (u : Nat) : CaptureRec :=
  if r.last.isSome then { r with elapsed := r.elapsed + u } else r

/-- Time passes on the timebase: for the intervals of the captures and for the pulse, and against the RC cycles run.
DESIGN CHOICE (log 24): a command whose steps pass the end of the pulse's width, no PULSE_WIDTH_END having come, leaves
the pulse with no width left, and SITE_PPS active until an RC cycle or that row ends it. -/
def Clock.pass (k : Clock) (u : Nat) : Clock :=
  { k with captures := k.captures.map fun r => r.pass u, pulseLeft := k.pulseLeft.map (· - u), ahead := k.ahead + u }

/-- Whether the RC clock counts the time of day: OSC_BAD is set, and the RC cycle edge after its setting has come
(R63). -/
def Clock.onRc (k : Clock) : Bool := k.oscBad && !k.passing

/-- `n` steps of 10 ns on the LO: a start hold takes them first (R64). Site time stays below the wrap, which is the
second boundary: steps past it with no boundary are lost (log 24). -/
def Clock.stepLo (k : Clock) (n : Nat) : Clock :=
  let k := k.pass (n * unitsPerStep)
  match k.startHold with
  | none => { k with ns := min (k.ns + 10 * n) (secondNs - 10) }
  | some h =>
    if 10 * n < h then { k with startHold := some (h - 10 * n) }
    else { k with startHold := none, ns := min (k.ns + (10 * n - h)) (secondNs - 10) }

/-- `n` cycles of the RC clock on the RC timebase. Cycles past the 32767th with no boundary are lost (log 24). -/
def Clock.stepRc (k : Clock) (n : Nat) : Clock :=
  let k := k.pass (n * unitsPerCycle)
  let c := min (k.rcCycle + n) 32767
  { k with rcCycle := c, ns := rcReading c }

/-- Steps of the timebase that counts. -/
def Clock.advance (k : Clock) (n : Nat) : Clock := if k.onRc then k.stepRc n else k.stepLo n

/-- The steps of 10 ns left to the wrap on the LO. -/
def Clock.stepsToWrap (k : Clock) : Nat := (k.startHold.getD 0 + (secondNs - k.ns)) / 10

/-- The rest of the second passes. -/
def Clock.toWrap (k : Clock) : Clock :=
  if k.onRc then k.pass ((32768 - k.rcCycle) * unitsPerCycle) else k.pass (k.stepsToWrap * unitsPerStep)

/-! ## Second boundaries (R62, R64, R65, R73, R74) -/

/-- The nanoseconds begin at a positive correction, or a start hold follows for a negative one. -/
def Clock.correct (k : Clock) (c : Int) : Clock :=
  if 0 < c then { k with ns := c.toNat } else if c < 0 then { k with startHold := some c.natAbs } else k

/-- The jump that the boundary applies (R65). -/
def Clock.dueJump (k : Clock) : Option Int := if k.permitted && !k.oscBad then k.jump else none

/-- Step 1 at a boundary. A held steer is applied, or discarded for a jump or on the RC timebase. -/
def Clock.applyCorrection (k : Clock) : Clock :=
  match k.dueJump with
  | some j => { k.correct j with steer := none, jump := none }
  | none => if k.oscBad then { k with steer := none } else { k.correct (k.steer.getD 0) with steer := none }

def squelchedBy (k : Clock) : Squelch → Bool
  | .never => k.oscBad
  | .freerun => k.oscBad || k.tstate == .freerun
  | .unfit => k.oscBad || k.grade != .tddOk

/-- Steps 2 and 3: the latched settings become active, the squelch is decided, the pulse starts. A width of 1000 ms
holds the output to the next boundary. -/
def Clock.startPulse (k : Clock) (latched : PulseSettings) : Clock :=
  let q := squelchedBy k latched.squelch
  let on := !q && latched.width != 0
  { k with active := latched, squelched := q, ppsActive := on
           pulseLeft := if on && latched.width != 1000 then some (latched.width * 1000000 * unitsPerNs) else none }

/-- The wrap and the steps of R62, the time up to it having passed. -/
def boundary (s : State) : State :=
  let due := s.clock.dueJump
  let s := s.onClock fun k =>
    { k with sec := k.sec + 1, ns := 0, rcCycle := 0, startHold := none }.applyCorrection
  let s := match due with
    | none => s
    | some j =>
      noticeBoth (setFlagBoth (s.counting fun c => { c with jumps := bump c.jumps }) .jump) .time ["JUMP"]
        [kv "amount" (.int j), kv "second" (.nat s.clock.sec.toNat)]
  let s := s.onClock fun k => k.startPulse s.cfg.pulse
  let s := timingBoundary s due.isSome
  s.onClock fun k => if k.onRc then { k with owed := 0 } else { k.stepLo k.owed with owed := 0 }

/-- A second boundary, at its instant. -/
def secondBoundary (s : State) : State := boundary (s.onClock Clock.toWrap)

/-- R64: the start hold runs out. -/
def startHoldEnd (s : State) : State :=
  s.onClock fun k =>
    match k.startHold with
    | none => k
    | some h => { k.pass (h * unitsPerNs) with startHold := none }

/-- R73: the pulse has had its width. A pulse runs on the LO timebase alone (R74). -/
def pulseWidthEnd (s : State) : State :=
  s.onClock fun k =>
    match k.pulseLeft with
    | none => k
    | some u => { k.stepLo (u / unitsPerStep) with ppsActive := false, pulseLeft := none }

/-- The steps of the timebase that counts up to the steering point (R90). -/
def Clock.stepsToSteering (k : Clock) : Nat :=
  if k.onRc then rcCycleAt 600000000 - k.rcCycle
  else if k.ns < 600000000 then (k.startHold.getD 0 + (600000000 - k.ns)) / 10 else 0

def steeringPoint (s : State) : State := timingSteering (s.onClock fun k => k.advance k.stepsToSteering)

/-! ## The oscillator check (R66, R67) -/

/-- OSC_BAD sets (R67). A start hold ends at once; counting passes to the RC clock at the next RC cycle edge (R63). -/
def oscSet (s : State) (count : Nat) : State :=
  let s := s.onClock fun c =>
    { c with oscBad := true, passing := true, goodRun := 0, startHold := none, ppsActive := false, pulseLeft := none
             squelched := true }
  let s := timingOscSet (s.counting fun c => { c with oscFails := bump c.oscFails })
  noticeBoth s .time ["OSC", "BAD"] [kv "count" (.nat count)]

/-- The RC cycle edge at which counting passes to the RC clock (R63): the cycle is the least whose reading is at or
above the nanoseconds held, and where no cycle of the second has such a reading, the edge is a second boundary. -/
def passToRc (s : State) : State :=
  let k := rcCycleAt s.clock.ns
  let t := s.onClock fun c => { c with passing := false, ahead := 0 }
  if k < 32768 then t.onClock fun c => { c with rcCycle := k, ns := rcReading k } else boundary t

/-- OSC_BAD clears (R67): counting continues on the LO from the reading (R63). -/
def oscClear (s : State) : State :=
  let s := s.onClock fun c => { c with oscBad := false, passing := false, rcCycle := 0 }
  noticeBoth (timingOscClear s) .time ["OSC", "GOOD"] []

/-- The end of a window (R66). A count above 65535 is held there (log 25). -/
def oscWindow (s : State) (cycles : Nat) : State :=
  let count := min 65535 (cycles / 1024)
  let s := s.onClock fun k => { k with lastWindow := some count, windowRc := 0, windowLo := 0 }
  if s.clock.oscBad then
    if 1100 ≤ count ∧ count ≤ 1350 then
      let n := s.clock.goodRun + 1
      let s := s.onClock fun k => { k with goodRun := min 8 n }
      if 8 ≤ n then oscClear s else s
    else s.onClock fun k => { k with goodRun := 0 }
  else if count < 1000 ∨ 1450 < count then oscSet s count
  else s

/-! ## Edge capture (R69 to R72) -/

/-- The interval that an elapsed time measures: rounded down to a multiple of 10 ns, or LONG. -/
def intervalOf (elapsed : Nat) : Interval :=
  let n := elapsed / unitsPerNs / 10 * 10
  if n < 2 * secondNs then .ns n else .long

def isEarly : Interval → Bool
  | .ns n => decide (n < 500000000)
  | .long => false

/-- An edge that has passed the prescaler: the early test, then the capture. -/
def captureEdge (s : State) (i : Source) : State :=
  let r := s.clock.captures.get i
  let iv := r.last.map fun _ => intervalOf r.elapsed
  if (iv.map isEarly).getD false then s.counting fun c => { c with srcEarly := bumpAt c.srcEarly i }
  else
    let coarse := s.clock.oscBad
    let t := s.onClock fun k =>
      { k with captures := k.captures.put i { last := some s.now, interval := iv, coarse := coarse, elapsed := 0 } }
    timingCapture t i s.now iv coarse

def prescaler (s : State) : Nat := if s.clock.divert.isSome then 1 else s.cfg.auxDiv

/-- A rising edge of an input that is not diverted. -/
def risingEdge (s : State) (i : Source) : State :=
  if !s.clock.enabled.get i then s
  else if i = .aux then
    if prescaler s ≤ s.clock.auxCount + 1 then captureEdge (s.onClock fun k => { k with auxCount := 0 }) i
    else s.onClock fun k => { k with auxCount := k.auxCount + 1 }
  else captureEdge s i

/-- R72: diversion starts, or ends. -/
def setDiversion (s : State) (d : Option Nat) : State :=
  s.onClock fun k =>
    { k with divert := d, auxCount := 0, captures := k.captures.put .aux .cleared, lastDiverted := none }

/-! ## Requests of the site clock -/

def auxDivOk : Option Int → Bool
  | none => true
  | some i => i == 1 || i == 2 || i == 4 || i == 16

def pulseArgsOk (a : PulseArgs) : Bool :=
  (a.width.isSome || a.polarity.isSome || a.squelch.isSome || a.auxDiv.isSome) && inRange 0 1000 a.width
    && nameOk a.polarity && nameOk a.squelch && auxDivOk a.auxDiv

/-- The latched settings and the prescaler setting (R75); a new prescaler comes into force at once, but during
diversion only at its end. -/
def applyPulse (s : State) (p : PulseSettings) (div : Nat) : State :=
  let t := s.settings fun cfg => { cfg with pulse := p, auxDiv := div }
  if div = s.cfg.auxDiv ∨ s.clock.divert.isSome then t else t.onClock fun k => { k with auxCount := 0 }

/-- R75. -/
def handlePulseSet (s : State) (a : PulseArgs) : State × Reply :=
  if !pulseArgsOk a then (s, .no .noRange)
  else
    let old := s.cfg.pulse
    let p : PulseSettings :=
      { width := natOr old.width a.width, polarity := nameOr old.polarity a.polarity
        squelch := nameOr old.squelch a.squelch }
    let d := natOr s.cfg.auxDiv a.auxDiv
    (applyPulse s p d,
     .ok [kv "width" (.nat p.width), kv "polarity" (.word p.polarity.word), kv "squelch" (.word p.squelch.word),
          kv "aux_div" (.nat d)] [])

/-- R76. -/
def handleTimeRead (s : State) : State × Reply :=
  let k := s.clock
  let l := s.cfg.pulse
  (s, .ok [kv "time" (.time s.now), kv "timebase" (.word (if k.oscBad then "RC" else "LO")),
           kv "oscbad" (.mark k.oscBad), kv "run" (.nat k.goodRun), kv "window" (.optNat k.lastWindow),
           kv "steer" (.optInt k.steer), kv "jump" (.optInt k.jump), kv "permitted" (.mark k.permitted),
           kv "hold" (.optNat k.startHold), kv "width" (.nat k.active.width),
           kv "polarity" (.word k.active.polarity.word), kv "squelch" (.word k.active.squelch.word),
           kv "lwidth" (.nat l.width), kv "lpolarity" (.word l.polarity.word), kv "lsquelch" (.word l.squelch.word),
           kv "squelched" (.onOff k.squelched), kv "pps" (.word (if k.ppsActive then "ACTIVE" else "IDLE"))] [])

def intervalVal : Option Interval → Val
  | none => .absent
  | some (.ns n) => .nat n
  | some .long => .word "LONG"

/-- R77. DESIGN CHOICE (log 22): the elapsed time is rounded down to whole ms. -/
def capturePairs (s : State) (i : Source) : List Pair :=
  let r := s.clock.captures.get i
  [kv "s" (.nat (Source.index i)), kv "last" (.optTime r.last), kv "interval" (intervalVal r.interval),
   kv "coarse" (if r.last.isSome then .mark r.coarse else .absent),
   kv "elapsed" (.optNat (r.last.map fun _ => r.elapsed / (unitsPerNs * 1000000)))]

def dirWord : EdgeDir → String
  | .rise => "RISE"
  | .fall => "FALL"

def captureTail (s : State) : List Pair :=
  [kv "aux" (.nat (prescaler s)), kv "stored" (.nat s.cfg.auxDiv), kv "count" (.nat s.clock.auxCount),
   kv "divert" (match s.clock.divert with | none => .word "OFF" | some n => .nat n)]
    ++ (if s.clock.divert.isSome then
          [kv "edge" (.optTime (s.clock.lastDiverted.map (·.1))),
           kv "dir" (.optWord (s.clock.lastDiverted.map fun e => dirWord e.2))]
        else [])

/-- R77. -/
def handleCaptureRead (s : State) (i : Option Int) : State × Reply :=
  match optIndexOf 3 i with
  | none => (s, .no .noRange)
  | some (some i) => (s, .ok (capturePairs s (sourceAt i) ++ captureTail s) [])
  | some none => (s, .ok (captureTail s) (allSources.map (capturePairs s)))

end Sys2Proof.Machine
end

