-- ==== Sys2Proof/Machine/Bus.lean ====
section
/-! DEFINITION. The ODU bus controller (chapter 03): the three waiting places, the choice of the next transaction,
holds, completions and the bus requests. -/

namespace Sys2Proof.Machine

def State.onBus (s : State) (f : Bus → Bus) : State := { s with bus := f s.bus }

/-! ## The waiting places (R46, R47, R49) -/

/-- R33: the write fills the profile slot or replaces the write that waits there. -/
def offerProfile (s : State) (t : Txn) : State :=
  (s.onBus fun b => { b with profileSlot := some t }).push .busChoose

/-- R46: a withdrawn write leaves the slot empty and has no completion. -/
def withdrawProfile (s : State) : State := s.onBus fun b => { b with profileSlot := none }

/-- R47: the internal slot has become empty. -/
def internalEmptied (s : State) : State :=
  let s := if s.bus.noteLink then s.push .slotFreeLink else s
  let s := if s.bus.noteTest then s.push .slotFreeTest else s
  s.onBus fun b => { b with noteLink := false, noteTest := false }

/-- R47: an offer to the internal slot; false when it is refused as SLOT_BUSY, with the requester noted. -/
def offerInternal (s : State) (t : Txn) : State × Bool :=
  match s.bus.internalSlot with
  | none => ((s.onBus fun b => { b with internalSlot := some t }).push .busChoose, true)
  | some _ =>
    (s.onBus fun b =>
      { b with noteLink := b.noteLink || t.requester == .link, noteTest := b.noteTest || t.requester == .test }, false)

/-- R47: a requester withdraws its own transaction, if it has not started. -/
def withdrawInternal (s : State) (who : Requester) : State :=
  match s.bus.internalSlot with
  | none => s
  | some t =>
    if t.requester = who then internalEmptied (s.onBus fun b => { b with internalSlot := none }) else s

/-! ## Holds (R51, R52) -/

/-- R52: the expiry of the hold of a port. The stop condition, and the byte clocked in after READ_ACKED, go out on
the wires. -/
def expireHold (s : State) (p : Port) (cause : HoldCause) : State :=
  let s := (s.onBus fun b => { b with hold := none }).counting fun c =>
    { c with busHoldExpired := bump c.busHoldExpired }
  noticeMasked s p .port ["HOLD_END"] [kv "cause" (.word cause.word)]

/-- The open phase after a transaction (R45). -/
def openPhaseOf (t : Txn) : OpenPhase :=
  if t.stop then .closed
  else if t.read = 0 then .write
  else if t.ackLast then .readAcked else .readNacked

/-- The hold of the port of a transaction that has completed: OK and CONT keep or begin it, unless an expiry came
while it ran; any other completion but CANCELLED ends it (R51, R52). A cause noted while it ran came before the deadline
(log 30). -/
def updateHold (s : State) (p : Port) (t : Txn) (ok : Bool) (expiry : Option HoldCause) : State :=
  if ok && t.cont then
    let left := match s.bus.hold with | some h => h.left | none => 100
    let cause := match expiry with
      | some c => some c
      | none => if left = 0 then some .deadline else none
    match cause with
    | some c => expireHold s p c
    | none => s.onBus fun b => { b with hold := some { port := p, left := left, phase := openPhaseOf t } }
  else s.onBus fun b => { b with hold := none }

/-- A cause of expiry other than the deadline reaches the controller (R52). With a transaction of the port in
progress it takes effect at its completion. DESIGN CHOICE (log 30): of several causes that come while one transaction
runs, the deadline among them, the first that came is the cause of the HOLD_END notice. -/
def holdDrop (s : State) (p : Port) (cause : HoldCause) : State :=
  let late := match s.bus.hold with | some h => h.left == 0 | none => false
  match s.bus.current with
  | some x =>
    if x.txn.requester = .port p then
      let c := match x.expiry with
        | some c => c
        | none => if late then .deadline else cause
      s.onBus fun b => { b with current := some { x with expiry := some c } }
    else s
  | none =>
    match s.bus.hold with
    | some h => if h.port = p then (expireHold s p cause).push .busChoose else s
    | none => s

/-! ## Completions (R57, R58) -/

def countStatus (s : State) : BusStatus → State
  | .ok => s.counting fun c => { c with busOk := bump c.busOk }
  | .nak => setFlagBoth (s.counting fun c => { c with busNak := bump c.busNak }) .busError
  | .arbLost => setFlagBoth (s.counting fun c => { c with busArb := bump c.busArb }) .busError
  | .timeout => setFlagBoth (s.counting fun c => { c with busTimeout := bump c.busTimeout }) .busError
  | .cancelled => s

def tagVal : Option Tag → Val
  | none => .absent
  | some t => .tag t

def statusVal (o : Option BusStatus) : Val := .optWord (o.map (·.word))

/-- R58: the record enters the port's result list, and the BUS notice goes to the port whatever its mask. -/
def reportPort (s : State) (p : Port) (t : Txn) : State :=
  let l := s.bus.results.get p ++ [t]
  let s := s.onBus fun b => { b with results := b.results.put p (l.drop (l.length - 4)) }
  notice s p ["BUS", "BUS"]
    [kv "tag" (tagVal t.tag), kv "status" (statusVal t.status), kv "addr" (.nat t.addr),
     kv "written" (.nat t.written), kv "read" (.nat t.data.length), kv "data" (.bytes t.data)]

/-- Delivery of a completed record to its requester. -/
def deliverTxn (s : State) (t : Txn) : State :=
  match t.requester with
  | .port p => reportPort s p t
  | .link => s.push (.completeLink t)
  | .test => s.push (.completeTest t)

/-- The completion of the transaction in progress (R57). DESIGN CHOICE (log 21): the counter and the event flag come
before the record reaches its requester, so a SUMMARY notice that the flag causes precedes the BUS notice. DESIGN CHOICE
(log 30): the BUS notice precedes the HOLD_END notice of an expiry that takes effect at the completion (R52). -/
def completeCurrent (s : State) (x : InProgress) (st : BusStatus) (written : Nat) (data : List Byte) : State :=
  let t := { x.txn with status := some st, written := written, data := data }
  let s := s.onBus fun b => { b with current := none }
  let s := deliverTxn (countStatus s st) t
  let s := match t.requester with
    | .port p => updateHold s p t (st == BusStatus.ok) x.expiry
    | _ => s
  s.push .busChoose

/-! ## The choice of the next transaction (R45, R50) -/

/-- Takes the first element that passes the test out of a list. -/
def pickFirst {α : Type} (f : α → Bool) : List α → Option (α × List α)
  | [] => none
  | x :: l => if f x then some (x, l) else (pickFirst f l).map fun r => (r.1, x :: r.2)

/-- The transaction that the controller takes, out of its waiting place. -/
def takeNext (s : State) : Option (Txn × State) :=
  match s.bus.hold with
  | some h =>
    (pickFirst (fun t => decide (t.requester = .port h.port)) s.bus.fifo).map fun r =>
      (r.1, s.onBus fun b => { b with fifo := r.2 })
  | none =>
    match s.bus.profileSlot, s.bus.internalSlot, s.bus.fifo with
    | some t, _, _ => some (t, s.onBus fun b => { b with profileSlot := none })
    | none, some t, _ => some (t, internalEmptied (s.onBus fun b => { b with internalSlot := none }))
    | none, none, t :: l => some (t, s.onBus fun b => { b with fifo := l })
    | none, none, [] => none

/-- Whether a continuation finds the hold it needs (R45). -/
def continues (h : Option Hold) (t : Txn) : Bool :=
  match h with
  | none => false
  | some h =>
    decide (t.requester = .port h.port) && (if t.read = 0 then h.phase == .write else h.phase == .readAcked)

/-- A start condition goes out at once, as a repeated start, only on an open bus (R44). -/
def startsAtOnce (h : Option Hold) : Bool :=
  match h with
  | none => false
  | some h => h.phase != .closed

/-- R50; a CANCELLED continuation repeats the choice. -/
def chooseNext : Nat → State → State
  | 0, s => s
  | fuel + 1, s =>
    if s.bus.current.isSome then s
    else
      match takeNext s with
      | none => s
      | some (t, s) =>
        if t.start then
          s.onBus fun b =>
            { b with current := some { txn := t, ms := 0, started := startsAtOnce b.hold, expiry := none } }
        else if continues s.bus.hold t then
          s.onBus fun b => { b with current := some { txn := t, ms := 0, started := true, expiry := none } }
        else chooseNext fuel (deliverTxn s { t with status := some .cancelled, written := 0, data := [] })

/-- The pass-through FIFO holds 4 transactions, so at most 4 continuations are cancelled in one choice. -/
def fifoCapacity : Nat := 4

def choose (s : State) : State := chooseNext (fifoCapacity + 1) s

/-! ## Events on the wires -/

/-- R44, R53: the bus is free and the start condition goes out. -/
def busStart (s : State) : State :=
  match s.bus.current with
  | none => s
  | some x => s.onBus fun b => { b with current := some { x with started := true } }

/-- R53. -/
def busFreeTimeout (s : State) : State :=
  match s.bus.current with
  | none => s
  | some x => if x.started then s else completeCurrent s x .timeout 0 []

/-- R54. -/
def busStretch (s : State) (written : Nat) (data : List Byte) : State :=
  match s.bus.current with
  | none => s
  | some x => completeCurrent s x .timeout (min written x.txn.write.length) (data.take x.txn.read)

/-- R44, R55, R56. Bytes beyond those the transaction asks for cannot have been moved. DESIGN CHOICE (log 7): an OK
whose data is not exactly the bytes asked for, which R44 rules out, has no effect. -/
def busComplete (s : State) (how : BusEnd) : State :=
  match s.bus.current with
  | none => s
  | some x =>
    match how with
    | .ok data => if data.length = x.txn.read then completeCurrent s x .ok x.txn.write.length data else s
    | .nak w => completeCurrent s x .nak (min w x.txn.write.length) []
    | .arbLost w data => completeCurrent s x .arbLost (min w x.txn.write.length) (data.take x.txn.read)

/-- R52: the deadline passes. With the holding port's transaction in progress it is tested again at the
completion. -/
def holdDeadline (s : State) : State :=
  match s.bus.hold with
  | none => s
  | some h =>
    match s.bus.current with
    | some _ => s.onBus fun b => { b with hold := some { h with left := 0 } }
    | none => (expireHold s h.port .deadline).push .busChoose

/-! ## Requests of the bus controller -/

/-- The first check of R48 that fails. -/
def xferCause (a : XferArgs) (fl : List BusFlag) : Option String :=
  let start := decide (BusFlag.start ∈ fl)
  let stop := decide (BusFlag.stop ∈ fl)
  let ack := decide (BusFlag.ackLast ∈ fl)
  let cont := decide (BusFlag.cont ∈ fl)
  let read := natOr 0 a.read
  if a.addr.isNone || !inRange 0 127 a.addr then some "ADDRESS"
  else if 24 < a.write.length then some "WRITE_COUNT"
  else if !inRange 0 24 a.read then some "READ_COUNT"
  else if !stop && !cont then some "ENDING"
  else if ack && (read == 0 || stop) then some "ACKLAST"
  else if !start && (a.write.isEmpty == (read == 0)) then some "CONTINUATION"
  else none

/-- R48, R49. -/
def handleBusXfer (s : State) (p : Port) (tag : Tag) (a : XferArgs) : State × Reply :=
  let fl := a.flags.getD [.start, .stop]
  match xferCause a fl with
  | some c => (s, .ok [kv "status" (.word "REQ_ERROR"), kv "cause" (.word c)] [])
  | none =>
    if fifoCapacity ≤ s.bus.fifo.length then (s, .no .noFull)
    else
      let t : Txn :=
        { requester := .port p, tag := some tag, purpose := none, target := none, attempt := 1, confirm := false
          addr := natOr 0 a.addr, write := a.write, read := natOr 0 a.read
          start := decide (BusFlag.start ∈ fl), stop := decide (BusFlag.stop ∈ fl)
          ackLast := decide (BusFlag.ackLast ∈ fl), cont := decide (BusFlag.cont ∈ fl)
          status := none, written := 0, data := [] }
      ((s.onBus fun b => { b with fifo := b.fifo ++ [t] }).push .busChoose, .go)

def flagWords (t : Txn) : List String :=
  (if t.start then ["START"] else []) ++ (if t.stop then ["STOP"] else [])
    ++ (if t.ackLast then ["ACKLAST"] else []) ++ (if t.cont then ["CONT"] else [])

def resultPairs (t : Txn) : List Pair :=
  [kv "tag" (tagVal t.tag), kv "status" (statusVal t.status), kv "addr" (.nat t.addr),
   kv "flags" (.words (flagWords t)), kv "written" (.nat t.written), kv "read" (.nat t.data.length),
   kv "data" (.bytes t.data)]

/-- R60: the number held is in the reply without t alone. -/
def handleBusResult (s : State) (p : Port) (t : Option Int) : State × Reply :=
  if !inRange 0 9999 t then (s, .no .noRange)
  else
    let l := s.bus.results.get p
    match t with
    | none => (s, .ok [kv "held" (.nat l.length)] (l.map resultPairs))
    | some i =>
      (s, .ok []
        ((l.filter fun x => match x.tag with | none => false | some g => (g.value : Int) == i).map resultPairs))

def currentPairs : Option InProgress → List Pair
  | none => [kv "now" .absent]
  | some x =>
    [kv "now" (.word x.txn.requester.word), kv "tag" (tagVal x.txn.tag),
     kv "purpose" (.optWord (x.txn.purpose.map (·.word))), kv "addr" (.nat x.txn.addr), kv "ms" (.nat x.ms)]

def holdPairs : Option Hold → List Pair
  | none => [kv "hold" .absent]
  | some h => [kv "hold" (.word (Port.word h.port)), kv "phase" (.word h.phase.word), kv "left" (.nat h.left)]

def profileSlotPairs : Option Txn → List Pair
  | none => [kv "pslot" .absent]
  | some t =>
    [kv "pslot" (.optFin t.target), kv "confirm" (.mark t.confirm), kv "attempt" (.nat t.attempt)]

def internalSlotPairs : Option Txn → List Pair
  | none => [kv "islot" .absent]
  | some t => [kv "islot" (.word t.requester.word), kv "islotp" (.optWord (t.purpose.map (·.word)))]

/-- R61. -/
def handleBusRead (s : State) : State × Reply :=
  let b := s.bus
  (s, .ok (currentPairs b.current ++ holdPairs b.hold ++ profileSlotPairs b.profileSlot
        ++ internalSlotPairs b.internalSlot
        ++ [kv "ports" (.words (b.fifo.map fun t => t.requester.word)),
            kv "tags" (.ints (b.fifo.map fun t => match t.tag with | none => 0 | some g => (g.value : Int))),
            kv "free" (.nat (fifoCapacity - b.fifo.length))]) [])

end Sys2Proof.Machine
end

