-- ==== Sys2Proof/Machine/Level.lean ====
section
/-! DEFINITION. The level monitor (chapter 01): samples, ranges, level reports, the alignment record and the
alignment indicator. -/

namespace Sys2Proof.Machine

def State.onLevel (s : State) (f : Level → Level) : State := { s with level := f s.level }

/-! ## Calibration and ranges (R2 to R4) -/

def Cal.of (g : LevelSettings) : RangeName → Cal
  | .coarse => g.coarse
  | .fine => g.fine

/-- R2, before the clamp. -/
def Cal.apply (k : Cal) (raw : Nat) : Int := (raw * k.scale / 2 ^ (8 + k.shift) : Nat) + k.offset

def clampLevel (i : Int) : Int := max (-1200) (min 0 i)

/-- The range in which a sample is taken (R4). DESIGN CHOICE (log 19): under AUTO it is the selected range (R3) also
where forced modes have come and gone since the sample before it. -/
def sampleRange (g : LevelSettings) (r : RangeName) : RangeName :=
  match g.mode with
  | .auto => r
  | .forceCoarse => .coarse
  | .forceFine => .fine

/-- The range that AUTO makes the next sample take (R3). -/
def nextRange (g : LevelSettings) (r : RangeName) (raw : Nat) : RangeName :=
  match g.mode, r with
  | .auto, .coarse => if raw < g.xover then .fine else .coarse
  | .auto, .fine => if 4032 ≤ raw then .coarse else .fine
  | _, r => r

def countSwitch (s : State) (old new : RangeName) : State :=
  if old = new then s else s.counting fun c => { c with rangeSwitches := bump c.rangeSwitches }

/-- The last `n` elements of a list. -/
def keepLast {α : Type} (n : Nat) (l : List α) : List α := l.drop (l.length - n)

/-! ## The indicator (R17, R18) -/

def densityOf (p : Polarity) (value : Nat) : Nat :=
  match p with
  | .normal => value
  | .inverted => 1023 - value

/-- The value at a report with alignment active. -/
def indicatorValue (g : LevelSettings) (level : Int) : Nat :=
  (min 1023 (max 0 ((level - g.floor) * 1023 / (g.span : Int)))).toNat

def Level.drive (v : Level) (value : Nat) (p : Polarity) : Level :=
  { v with indicator := value, outPolarity := p, density := densityOf p value }

/-! ## The alignment record (section 1.3) -/

def mastAsserted (s : State) : Bool := s.site.inputs.mastMoving.filtered

def newAlign (owner : Owner) (now : SiteTime) (interval : Nat) : AlignRec :=
  { owner := owner, mastFlag := false, start := now, current := none, peak := none, reports := 0
    interval := interval, toNext := interval }

def peakLevel (a : AlignRec) : Option Int := a.peak.map (·.1)

/-- Alignment becomes active: the indicator rests at 0, the notice, and the event to the link supervisor. -/
def beginAlign (s : State) (owner : Owner) (interval : Nat) : State :=
  let s := s.onLevel fun v =>
    { v with align := some (newAlign owner s.now interval) }.drive 0 v.outPolarity
  (noticeBoth s .level ["ALIGN", "START"] [kv "owner" (.word owner.word)]).push .alignStart

/-- Alignment ends and the record is removed. -/
def endAlign (s : State) (cause : String) : State :=
  let peak := s.level.align.bind peakLevel
  let s := s.onLevel fun v => { v with align := none }.drive 0 v.outPolarity
  (noticeBoth s .level ["ALIGN", "END"] [kv "cause" (.word cause), kv "peak" (.optInt peak)]).push .alignEnd

/-- The owner changes while alignment stays active. -/
def passAlign (s : State) (a : AlignRec) : State :=
  noticeBoth (s.onLevel fun v => { v with align := some a }) .level ["ALIGN", "OWNER"]
    [kv "owner" (.word a.owner.word)]

/-- A port gives the record up to MAST (R13, R14). -/
def toMast (a : AlignRec) : AlignRec := { a with owner := .mast, mastFlag := false, toNext := a.interval }

/-- R14. -/
def releaseAlign (s : State) (p : Port) (cause : String) : State :=
  match s.level.align with
  | none => s
  | some a =>
    if a.owner = .port p then
      if mastAsserted s then passAlign s (toMast a) else endAlign s cause
    else s

/-- An access-drop event of a port, taken by the level monitor (R14, R197). -/
def levelAccessDrop (s : State) (p : Port) : State :=
  if inGroup s p .align then s else releaseAlign s p "ACCESS"

/-- R12. -/
def levelMast (s : State) (asserted : Bool) : State :=
  match asserted, s.level.align with
  | true, none => beginAlign s .mast 2
  | true, some a =>
    match a.owner with
    | .port _ => s.onLevel fun v => { v with align := some { a with mastFlag := true } }
    | .mast => s
  | false, none => s
  | false, some a =>
    match a.owner with
    | .mast => endAlign s "MAST"
    | .port _ => s.onLevel fun v => { v with align := some { a with mastFlag := false } }

/-! ## Level reports (R5, R6, R10) -/

/-- The record after a report; the count to the next notice has reached 0 when the second part is true. -/
def AlignRec.report (a : AlignRec) (level : Int) (now : SiteTime) : AlignRec × Bool :=
  let peak := match a.peak with
    | none => some (level, now)
    | some (p, t) => if p < level then some (level, now) else some (p, t)
  let due := decide (a.toNext ≤ 1)
  ({ a with current := some level, reports := if a.reports < 65535 then a.reports + 1 else a.reports, peak := peak
            toNext := if due then a.interval else a.toNext - 1 }, due)

def alignPairs (a : AlignRec) : List Pair :=
  [kv "owner" (.word a.owner.word), kv "level" (.optInt a.current), kv "peak" (.optInt (peakLevel a)),
   kv "reports" (.nat a.reports), kv "mast" (.mark a.mastFlag)]

/-- The ALIGN notice: to the owner port whatever its mask; under MAST to both, by mask (R15). -/
def alignNotice (s : State) (a : AlignRec) : State :=
  match a.owner with
  | .port p => notice s p ["LEVEL", "ALIGN"] (alignPairs a)
  | .mast => noticeBoth s .level ["ALIGN"] (alignPairs a)

def alignReport (s : State) (level : Int) : State :=
  match s.level.align with
  | none => s
  | some a =>
    let r := a.report level s.now
    let s := s.onLevel fun v => { v with align := some r.1 }
    if r.2 then alignNotice s r.1 else s

/-- A level report (R5) as the level monitor's own parts take it. DESIGN CHOICE (log 19): the order is history,
alignment record, indicator. -/
def levelReport (s : State) (level : Int) : State :=
  let s := s.onLevel fun v => { v with smoothed := some level, history := keepLast 32 (v.history ++ [level]) }
  let s := alignReport s level
  s.onLevel fun v =>
    v.drive (match v.align with | none => 0 | some _ => indicatorValue s.cfg.level level) s.cfg.level.polarity

/-- The mean of the window, rounded down (R5). -/
def smooth (window : List Int) : Int := window.sum / 10

/-- One sample (R1). The level report, on every tenth sample, is the second part. -/
def takeSample (s : State) (raw : Nat) : State × Option Int :=
  let g := s.cfg.level
  let r := sampleRange g s.level.range
  let s := countSwitch s s.level.range r
  let exact := (Cal.of g r).apply raw
  let value := clampLevel exact
  let next := nextRange g r raw
  let s := countSwitch s r next
  let s := s.onLevel fun v =>
    { v with range := next, last := some { raw := raw, range := r, value := value }
             window := keepLast 10 (v.window ++ [value]), samples := v.samples + 1 }
  let s := if exact = value then s
    else setFlagBoth (s.counting fun c => { c with levelClamps := bump c.levelClamps }) .clamp
  if s.level.samples % 10 = 0 then
    let level := smooth s.level.window
    (levelReport s level, some level)
  else (s, none)

/-! ## Requests of the level monitor -/

/-- R8. -/
def handleLevelRead (s : State) : State × Reply :=
  let v := s.level
  (s, .ok [kv "level" (.optInt v.smoothed), kv "range" (.word v.range.word), kv "mode" (.word s.cfg.level.mode.word),
           kv "raw" (.optNat (v.last.map (·.raw))), kv "taken" (.optWord (v.last.map (·.range.word))),
           kv "value" (.optInt (v.last.map (·.value)))] [])

/-- R8. -/
def handleLevelHistory (s : State) (start n : Option Int) : State × Reply :=
  if !inRange 0 31 start || !inRange 1 12 n then (s, .no .noRange)
  else
    let i := natOr 0 start
    let l := (s.level.history.drop i).take (natOr 12 n)
    (s, .ok [kv "held" (.nat s.level.history.length), kv "from" (.nat i), kv "levels" (.ints l)] [])

def Cal.with (k : Cal) (a : LevelCalArgs) : Cal :=
  { scale := natOr k.scale a.scale, shift := natOr k.shift a.shift, offset := intOr k.offset a.offset }

def calFieldsOk (a : LevelCalArgs) : Bool :=
  inRange 0 65535 a.scale && inRange 0 7 a.shift && inRange (-32768) 32767 a.offset

def calFields (a : LevelCalArgs) : Bool := a.scale.isSome || a.shift.isSome || a.offset.isSome

def rangeFields (a : LevelCalArgs) : Bool := a.xover.isSome || a.mode.isSome

def putCal (g : LevelSettings) (r : RangeName) (k : Cal) : LevelSettings :=
  match r with
  | .coarse => { g with coarse := k }
  | .fine => { g with fine := k }

/-- The pairs of the fields that a request named. -/
def namedPairs (l : List (Bool × Pair)) : List Pair := (l.filter (·.1)).map (·.2)

/-- R9. DESIGN CHOICE: a range that is neither COARSE nor FINE is refused with NO RANGE (log 11), and the reply to the
calibration form names the range before the fields (log 6). -/
def handleLevelCal (s : State) (a : LevelCalArgs) : State × Reply :=
  match a.range with
  | some .other => (s, .no .noRange)
  | some (.known r) =>
    if !calFields a || rangeFields a || !calFieldsOk a then (s, .no .noRange)
    else
      let k := (Cal.of s.cfg.level r).with a
      (s.settings fun cfg => { cfg with level := putCal cfg.level r k },
       .ok (kv "range" (.word r.word) ::
         namedPairs [(a.scale.isSome, kv "scale" (.nat k.scale)), (a.shift.isSome, kv "shift" (.nat k.shift)),
                     (a.offset.isSome, kv "offset" (.int k.offset))]) [])
  | none =>
    if calFields a || !rangeFields a || !inRange 0 4095 a.xover || !nameOk a.mode then (s, .no .noRange)
    else
      let x := natOr s.cfg.level.xover a.xover
      let m := nameOr s.cfg.level.mode a.mode
      (s.settings fun cfg => { cfg with level := { cfg.level with xover := x, mode := m } },
       .ok (namedPairs [(a.xover.isSome, kv "xover" (.nat x)), (a.mode.isSome, kv "mode" (.word m.word))]) [])

def alignReply (a : AlignRec) : Reply :=
  .ok [kv "owner" (.word a.owner.word), kv "interval" (.nat a.interval)] []

/-- R11. -/
def handleAlignStart (s : State) (p : Port) (k : Option Int) : State × Reply :=
  if !inRange 1 50 k then (s, .no .noRange)
  else if s.site.phase ≠ .staging then (s, .no .noPhase)
  else
    match s.level.align with
    | none =>
      let i := natOr 2 k
      (beginAlign s (.port p) i, alignReply (newAlign (.port p) s.now i))
    | some a =>
      match a.owner with
      | .mast =>
        let i := natOr a.interval k
        let b := { a with owner := .port p, mastFlag := true, interval := i, toNext := i }
        (passAlign s b, alignReply b)
      | .port q =>
        if q = p then
          let b := match k with
            | none => a
            | some i => { a with interval := i.toNat, toNext := i.toNat }
          (s.onLevel fun v => { v with align := some b }, alignReply b)
        else (s, .no .noOwned)

/-- R13. -/
def handleAlignStop (s : State) (p : Port) : State × Reply :=
  match s.level.align with
  | none => (s, .no .noState)
  | some a =>
    if a.owner = .port p then
      if a.mastFlag then (passAlign s (toMast a), .ok [kv "owner" (.word Owner.mast.word)] [])
      else (endAlign s "STOP", .ok [kv "owner" .absent] [])
    else (s, .no .noOwned)

/-- R13. -/
def handleAlignMark (s : State) (p : Port) : State × Reply :=
  match s.level.align with
  | none => (s, .no .noState)
  | some a =>
    if a.owner = .port p then
      let b := { a with peak := a.current.map fun l => (l, s.now), reports := 0 }
      (s.onLevel fun v => { v with align := some b }, .ok [kv "peak" (.optInt (peakLevel b))] [])
    else (s, .no .noOwned)

/-- R16. -/
def handleAlignRead (s : State) : State × Reply :=
  match s.level.align with
  | none => (s, .ok [kv "owner" .absent] [])
  | some a =>
    (s, .ok [kv "owner" (.word a.owner.word), kv "mast" (.mark a.mastFlag), kv "start" (.time a.start),
             kv "level" (.optInt a.current), kv "peak" (.optInt (peakLevel a)),
             kv "peaktime" (.optTime (a.peak.map (·.2))), kv "reports" (.nat a.reports),
             kv "interval" (.nat a.interval), kv "next" (.nat a.toNext)] [])

/-- R18. -/
def handleIndicatorSet (s : State) (a : IndicatorArgs) : State × Reply :=
  if (a.floor.isNone && a.span.isNone && a.polarity.isNone) || !inRange (-1200) 0 a.floor
      || !inRange 10 600 a.span || !nameOk a.polarity then (s, .no .noRange)
  else
    let s := s.settings fun cfg =>
      { cfg with level := { cfg.level with
          floor := intOr cfg.level.floor a.floor, span := natOr cfg.level.span a.span
          polarity := nameOr cfg.level.polarity a.polarity } }
    let g := s.cfg.level
    (s, .ok [kv "floor" (.int g.floor), kv "span" (.nat g.span), kv "polarity" (.word g.polarity.word)] [])

end Sys2Proof.Machine
end

