-- ==== Sys2Proof/Machine/Link.lean ====
section
/-! DEFINITION. The link supervisor (chapter 02): link states, adaptation, profile writes, the init sequence, the base
capacity, the link claim and the link requests. -/

namespace Sys2Proof.Machine

def State.onLink (s : State) (f : Link → Link) : State := { s with link := f s.link }

def LinkState.carries : LinkState → Bool
  | .up | .fade => true
  | _ => false

def LinkState.restoring : LinkState → Bool
  | .acquire | .lost => true
  | _ => false

/-! ## The base capacity (R36) -/

def capOf (cfg : Settings) (p : Fin 8) : Nat := (cfg.profiles.get p).cap

def leastCap (cfg : Settings) (n : Nat) : Option (Fin 8) → Nat
  | none => n
  | some p => min n (capOf cfg p)

def baseOf (cfg : Settings) (k : Link) : Nat :=
  match k.state.carries, k.confirmed with
  | true, some p => leastCap cfg (leastCap cfg (capOf cfg p) k.pending) k.guard
  | _, _ => 0

/-- After an event of the link supervisor: the base is recomputed, the changes are announced and delivered (R36,
R43). `old` is the block as the event found it. -/
def linkCommit (s : State) (old : Link) (cause : String) : State :=
  let s := s.onLink fun k => { k with base := baseOf s.cfg k }
  let new := s.link
  let s := if new.state = old.state then s
    else noticeBoth s .link ["STATE"]
      [kv "state" (.word new.state.word), kv "former" (.word old.state.word), kv "cause" (.word cause),
       kv "base" (.nat new.base)]
  let s := if new.confirmed = old.confirmed then s
    else noticeBoth s .link ["PROFILE"]
      [kv "confirmed" (.optFin new.confirmed), kv "former" (.optFin old.confirmed),
       kv "pending" (.optFin new.pending)]
  let s := if new.base = old.base then s
    else shareInput
      (noticeBoth s .link ["BASE"]
        [kv "base" (.nat new.base), kv "confirmed" (.optFin new.confirmed), kv "pending" (.optFin new.pending),
         kv "guard" (.optFin new.guard)]) fun h => { h with base := new.base }
  let s := if new.state = old.state then s
    else (s.push (.linkToTiming new.state)).push (.linkToTests new.state)
  syncSummary linkOwned s

/-! ## Writes to the ODU (R21, R33) -/

def linkTxn (purpose : Purpose) (target : Option (Fin 8)) (attempt : Nat) (confirm : Bool) (addr : Nat)
    (bytes : List Byte) : Txn :=
  { requester := .link, tag := none, purpose := some purpose, target := target, attempt := attempt
    confirm := confirm, addr := addr, write := bytes, read := 0, start := true, stop := true, ackLast := false
    cont := false, status := none, written := 0, data := [] }

/-- The PROFILE template with the ODU code of a profile substituted. -/
def profileBytes (cfg : Settings) (t : Fin 8) : List Byte :=
  cfg.templates.profile.bytes.set cfg.templates.profile.pos (cfg.profiles.get t).code

/-- R33. -/
def profileWrite (cfg : Settings) (t : Fin 8) (confirm : Bool) : Txn :=
  linkTxn .profile (some t) 1 confirm cfg.templates.profile.addr (profileBytes cfg t)

/-- A write of the init sequence that has not been handed over yet: its first attempt, kept back. -/
def newInit (second : Bool) : InitWrite := { second := second, attempt := 1, place := .keptBack, formed := none }

/-- The address and the bytes of a write of the init sequence: those it was formed with, or, when it is handed over
for the first time, those of its template as it stands (R21, R33). -/
def initForm (cfg : Settings) (w : InitWrite) : Nat × List Byte :=
  w.formed.getD
    (if w.second then (cfg.templates.profile.addr, profileBytes cfg 0)
     else (cfg.templates.loopOff.addr, cfg.templates.loopOff.bytes))

def initTxn (cfg : Settings) (w : InitWrite) : Txn :=
  linkTxn .init none w.attempt false (initForm cfg w).1 (initForm cfg w).2

/-- A profile write with target `t` is issued: it becomes the pending profile and goes to the profile slot. -/
def issueProfile (s : State) (t : Fin 8) (confirm : Bool) : State :=
  offerProfile (s.onLink fun k => { k with pending := some t }) (profileWrite s.cfg t confirm)

/-- R28. -/
def issueConfirmation (s : State) : State :=
  issueProfile (s.onLink fun k => { k with unbroken := true, restoreDue := false }) 0 true

/-- The ODU_FAULT event (R43). The flag is set before the FAULT notice (log 21). -/
def oduFault (s : State) (purpose target : Val) (status : Option BusStatus) : State :=
  let s := setFlagBoth (s.counting fun c => { c with oduFaults := bump c.oduFaults }) .oduFault
  noticeBoth s .link ["FAULT"] [kv "purpose" purpose, kv "target" target, kv "status" (statusVal status)]

/-! ## The init sequence (R21) -/

/-- Hands the write that stands next to the internal slot, or keeps it back: while the slot is occupied, and while a
write of a former sequence is still to be discarded. -/
def offerInit (s : State) : State :=
  match s.link.init with
  | none => s
  | some w =>
    if s.link.discardInit then s.onLink fun k => { k with init := some { w with place := .keptBack } }
    else
      let r := offerInternal s (initTxn s.cfg w)
      r.1.onLink fun k =>
        { k with init := some (if r.2 then { w with place := .offered, formed := some (initForm s.cfg w) }
                               else { w with place := .keptBack }) }

def beginInit (s : State) : State := offerInit (s.onLink fun k => { k with init := some (newInit false) })

/-- The sequence ends early: a write not started is withdrawn, one in progress is to be discarded. -/
def endInitEarly (s : State) : State :=
  match s.link.init with
  | none => s
  | some w =>
    let waiting := match s.bus.internalSlot with | none => false | some t => t.requester == .link
    let s := s.onLink fun k =>
      { k with init := none, discardInit := k.discardInit || (w.place == .offered && !waiting) }
    withdrawInternal s .link

/-- A write of the sequence has ended, whatever its outcome. -/
def initEnded (s : State) (w : InitWrite) : State :=
  if w.second then
    let s := s.onLink fun k => { k with init := none }
    if s.link.restoreDue then issueConfirmation s else s
  else offerInit (s.onLink fun k => { k with init := some (newInit true) })

/-- DESIGN CHOICE (log 20): R43 lets the target of the second write be named by its target profile or by its template;
the model gives the template's name for either write. -/
def initWriteName (w : InitWrite) : String := if w.second then "PROFILE" else "LOOPOFF"

def initCompleted (s : State) (t : Txn) : State :=
  if s.link.discardInit then offerInit (s.onLink fun k => { k with discardInit := false })
  else
    match s.link.init with
    | none => s
    | some w =>
      if t.status = some .ok then initEnded s w
      else if w.attempt < 3 then
        offerInit (s.onLink fun k => { k with init := some { w with attempt := w.attempt + 1, place := .keptBack } })
      else
        initEnded (oduFault s (.word Purpose.init.word) (.word (initWriteName w)) t.status) w

/-- R47: a slot-free event. -/
def linkSlotFree (s : State) : State :=
  match s.link.init with
  | some w => if w.place = .keptBack then offerInit s else s
  | none => s

/-! ## Completions of profile writes (R28, R34, R35) -/

/-- The pending profile after a completion: the target of the write in the profile slot, if one waits there. -/
def pendingAfter (s : State) : Option (Fin 8) := s.bus.profileSlot.bind (·.target)

def countProfile (s : State) (target : Fin 8) : State :=
  match s.link.confirmed with
  | none => s
  | some c =>
    if c < target then s.counting fun k => { k with profileUp := bump k.profileUp }
    else if target < c then s.counting fun k => { k with profileDown := bump k.profileDown }
    else s

/-- R34, steps 1 to 4. -/
def profileOk (s : State) (target : Fin 8) : State :=
  let s := countProfile s target
  s.onLink fun k => { k with confirmed := some target, guard := none, pending := pendingAfter s }

/-- R28, cases 1 to 3. -/
def confirmationCompleted (s : State) (t : Txn) : State :=
  if t.status = some .ok then
    if s.link.unbroken && s.link.state.restoring then
      let s := countProfile s 0
      s.onLink fun k =>
        { k with state := .up, confirmed := some 0, guard := none, pending := none, restoreTimer := none
                 restoreDue := false, unbroken := false }
    else profileOk s 0
  else
    s.onLink fun k =>
      { k with pending := pendingAfter s
               restoreTimer := if k.state.restoring then some (s.cfg.link.restore * 1000) else k.restoreTimer }

/-- R35. -/
def profileFailed (s : State) (t : Txn) (target : Fin 8) : State :=
  match s.bus.profileSlot with
  | some _ => s
  | none =>
    if t.attempt < 3 then
      offerProfile s { t with attempt := t.attempt + 1, status := none, written := 0, data := [] }
    else
      let s := oduFault s (.word Purpose.profile.word) (.nat target) t.status
      s.onLink fun k =>
        { k with pending := none
                 guard := match k.confirmed with
                   | none => none
                   | some c => if target < c then some target else none }

def profileCompleted (s : State) (t : Txn) : State :=
  if s.link.discardProfile then s.onLink fun k => { k with discardProfile := false }
  else
    match t.target with
    | none => s
    | some p =>
      if t.confirm then confirmationCompleted s t
      else if t.status = some .ok then profileOk s p
      else profileFailed s t p

/-- R57: the completion of a LINK transaction. -/
def linkCompleted (s : State) (t : Txn) : State :=
  match t.purpose with
  | some .init => linkCommit (initCompleted s t) s.link "START"
  | some .profile => linkCommit (profileCompleted s t) s.link "RESTORE"
  | _ => s

/-! ## Level reports (R24, R25, R27, R31, R32) -/

def currentTarget (k : Link) : Fin 8 :=
  match k.pending, k.confirmed with
  | some p, _ => p
  | none, some c => c
  | none, none => 0

def profileEnabled (cfg : Settings) (p : Fin 8) : Bool := (cfg.profiles.get p).enabled

/-- The new target of a downshift (R31). -/
def downTarget (cfg : Settings) (t : Fin 8) (level : Int) : Fin 8 :=
  (((List.finRange 8).filter fun q =>
    decide (0 < q) && decide (q < t) && profileEnabled cfg q && decide ((cfg.profiles.get q).down ≤ level)).getLast?).getD 0

/-- The candidate of an upshift (R32). -/
def upCandidate (cfg : Settings) (k : Link) : Option (Fin 8) :=
  match k.confirmed with
  | none => none
  | some c => (List.finRange 8).find? fun q => decide (c < q) && profileEnabled cfg q

/-- R32 at a report. -/
def upshiftReport (s : State) (level : Int) : State :=
  let timer := match s.link.pending, upCandidate s.cfg s.link with
    | none, some q =>
      if (s.cfg.profiles.get q).up ≤ level then
        (match s.link.upshiftTimer with | none => some (s.cfg.link.upshift * 1000) | some n => some n)
      else none
    | _, _ => none
  s.onLink fun k => { k with upshiftTimer := timer }

/-- R31, then R32. -/
def adapt (s : State) (level : Int) : State :=
  let t := currentTarget s.link
  if t ≠ 0 ∧ level < (s.cfg.profiles.get t).down then
    issueProfile (s.onLink fun k => { k with upshiftTimer := none }) (downTarget s.cfg t level) false
  else upshiftReport s level

/-- R24. The FADE flag is set before the STATE notice (log 21). -/
def enterFade (s : State) : State :=
  let target := currentTarget s.link
  let s := s.onLink fun k =>
    { k with state := .fade, fadeTimer := some (s.cfg.link.fade * 250), upshiftTimer := none }
  let s := setFlagBoth (s.counting fun c => { c with linkFades := bump c.linkFades }) .fade
  if target ≠ 0 then issueProfile s 0 false else s

def confirmationWaits (s : State) : Bool :=
  (match s.bus.profileSlot with | none => false | some t => t.confirm)
    || (match s.bus.current with | none => false | some x => x.txn.requester == .link && x.txn.confirm)

/-- R27. -/
def restoreReport (s : State) (level : Int) : State :=
  if level < s.cfg.link.high then
    s.onLink fun k => { k with restoreTimer := none, restoreDue := false, unbroken := false }
  else if s.link.lockLevel && s.link.restoreTimer.isNone && !confirmationWaits s then
    s.onLink fun k => { k with restoreTimer := some (s.cfg.link.restore * 1000) }
  else s

/-- A level report, taken by the link supervisor. -/
def linkReport (s : State) (level : Int) : State :=
  match s.link.state with
  | .up => linkCommit (if level < s.cfg.link.low then enterFade s else adapt s level) s.link "FADE"
  | .fade =>
    if s.cfg.link.high ≤ level then
      linkCommit (s.onLink fun k => { k with state := .up, fadeTimer := none }) s.link "RETURN"
    else s
  | .acquire | .lost => restoreReport s level
  | _ => s

/-! ## Timers, lock and alignment (R23, R25, R26, R28, R32) -/

/-- Entry into LOST: the effects of R25. The LOSS flag is set before the STATE notice (log 21). -/
def enterLost (s : State) (cause : String) : State :=
  let old := s.link
  let s := s.onLink fun k => { k with state := .lost, fadeTimer := none, upshiftTimer := none, restoreTimer := none }
  let s := setFlagBoth (s.counting fun c => { c with linkLosses := bump c.linkLosses }) .loss
  linkCommit s old cause

/-- R25. -/
def fadeExpired (s : State) : State :=
  if s.link.state = .fade ∧ s.link.fadeTimer.isSome then enterLost s "FADE_TIMER" else s

/-- R28. -/
def restoreExpired (s : State) : State :=
  if s.link.restoreTimer.isSome then
    let t := s.onLink fun k => { k with restoreTimer := none }
    if t.link.init.isSome then t.onLink fun k => { k with restoreDue := true }
    else linkCommit (issueConfirmation t) s.link "RESTORE"
  else s

/-- R32. -/
def upshiftExpired (s : State) : State :=
  if s.link.upshiftTimer.isSome then
    let t := s.onLink fun k => { k with upshiftTimer := none }
    match s.link.state, s.link.pending, upCandidate s.cfg s.link with
    | .up, none, some q => linkCommit (issueProfile t q false) s.link "RESTORE"
    | _, _, _ => t
  else s

/-- R26. -/
def linkLock (s : State) (asserted : Bool) : State :=
  let s := s.onLink fun k => { k with lockLevel := asserted }
  if asserted then s
  else if s.link.state.carries then enterLost s "LOCK"
  else if s.link.state.restoring then
    s.onLink fun k => { k with restoreTimer := none, restoreDue := false, unbroken := false }
  else s

/-- The timers stop, the restore due mark is cleared, and the restore condition is broken. -/
def Link.stopTimers (k : Link) : Link :=
  { k with fadeTimer := none, restoreTimer := none, upshiftTimer := none, restoreDue := false, unbroken := false }

/-- R23. -/
def linkAlignStart (s : State) : State :=
  let t := s.onLink fun k => { k with alignInd := true }
  if s.link.state.carries || s.link.state.restoring then
    linkCommit (t.onLink fun k => { k.stopTimers with state := .align }) s.link "ALIGN"
  else t

/-- R23. -/
def linkAlignEnd (s : State) : State :=
  let t := s.onLink fun k => { k with alignInd := false }
  if s.link.state = .align then
    linkCommit (t.onLink fun k => { k with state := .acquire }) s.link "ALIGN_END"
  else t

/-! ## Start, stop and the link claim (R20, R22, R39, R40) -/

/-- The state in which the link comes up (R20, R40). -/
def bringUpState (k : Link) : LinkState := if k.alignInd then .align else .acquire

/-- R20. -/
def linkStart (s : State) (cause : String) : State :=
  let t := s.onLink fun k => { k with state := bringUpState k, restoreTimer := none }
  linkCommit (beginInit t) s.link cause

def profileInProgress (s : State) : Bool :=
  match s.bus.current with
  | none => false
  | some x => x.txn.requester == .link && x.txn.purpose == some .profile

/-- R22. -/
def linkStop (s : State) : State :=
  let t := s.onLink fun k => { k.stopTimers with state := .off }
  let t := withdrawProfile (endInitEarly t)
  let t := t.onLink fun k =>
    { k with discardProfile := profileInProgress s, confirmed := none, pending := none, guard := none }
  linkCommit t s.link "STOP"

/-- R39: the answer to the link claim, with the cause of a refusal. -/
def linkClaim (s : State) (test : Nat) : State × Option TestReason :=
  if s.link.state = .off then (s, some .link)
  else if mastAsserted s then (s, some .mast)
  else
    let t := s.onLink fun k => { k.stopTimers with state := .test, claim := some test }
    (linkCommit (endInitEarly t) s.link "CLAIM", none)

/-- R40. -/
def linkRelease (s : State) : State :=
  linkCommit (s.onLink fun k => { k with claim := none, state := bringUpState k }) s.link "RELEASE"

/-- R40: the test sequencer reports that its LOOPOFF write failed on its third attempt. -/
def loopOffFailed (s : State) (status : Option BusStatus) : State :=
  oduFault s (.word Purpose.loopOff.word) (.word TemplateName.loopOff.word) status

/-! ## Requests of the link supervisor -/

/-- R20. -/
def handleLinkStart (s : State) : State × Reply :=
  if s.link.state = .off then
    let t := linkStart s "START"
    (t, .ok [kv "state" (.word t.link.state.word)] [])
  else (s, .no .noState)

/-- R22. -/
def handleLinkStop (s : State) : State × Reply :=
  match s.link.state with
  | .test => (s, .no .noBusy)
  | .off => (s, .ok [kv "state" (.word LinkState.off.word)] [])
  | _ => (linkStop s, .ok [kv "state" (.word LinkState.off.word)] [])

def Profile.with (r : Profile) (a : ProfileArgs) : Profile :=
  { enabled := boolOr r.enabled a.enabled, cap := natOr r.cap a.cap, up := intOr r.up a.up
    down := intOr r.down a.down
    code := match a.code with | none => r.code | some i => BitVec.ofNat 8 i.toNat }

def profileArgsOk (p : Fin 8) (a : ProfileArgs) : Bool :=
  (a.enabled.isSome || a.cap.isSome || a.up.isSome || a.down.isSome || a.code.isSome)
    && inRange 0 4000 a.cap && inRange (-1200) 0 a.up && inRange (-1200) 0 a.down && inRange 0 255 a.code
    && !(p == 0 && (a.enabled == some false || a.up.isSome || a.down.isSome))

def rising : List Int → Bool
  | x :: y :: l => decide (x < y) && rising (y :: l)
  | _ => true

/-- The conditions of R29 on the table. -/
def tableOk (v : Vector Profile 8) : Bool :=
  let on := v.toList.filter (·.enabled)
  let above := (v.toList.drop 1).filter (·.enabled)
  above.all (fun r => decide (r.down < r.up)) && rising (on.map fun r => (r.cap : Int))
    && rising (above.map (·.up)) && rising (above.map (·.down))

def profilePairs (cfg : Settings) (p : Fin 8) : List Pair :=
  let r := cfg.profiles.get p
  [kv "p" (.nat p), kv "enabled" (.yesNo r.enabled), kv "cap" (.nat r.cap),
   kv "up" (if p = 0 then .absent else .int r.up), kv "down" (if p = 0 then .absent else .int r.down),
   kv "code" (.nat r.code.toNat)]

/-- R29. -/
def handleProfileSet (s : State) (p : Option Int) (a : ProfileArgs) : State × Reply :=
  if s.link.state = .up ∨ s.link.state = .fade ∨ s.link.state = .lost ∨ s.link.state = .test then
    (s, .no .noState)
  else
    match indexOf 8 p with
    | none => (s, .no .noRange)
    | some p =>
      let v := s.cfg.profiles.set p ((s.cfg.profiles.get p).with a)
      if !profileArgsOk p a || !tableOk v then (s, .no .noRange)
      else
        let s := s.settings fun cfg => { cfg with profiles := v }
        (s, .ok (profilePairs s.cfg p) [])

/-- R30. -/
def handleProfileRead (s : State) (p : Option Int) : State × Reply :=
  match optIndexOf 8 p with
  | none => (s, .no .noRange)
  | some (some p) => (s, .ok (profilePairs s.cfg p) [])
  | some none => (s, .ok [] ((List.finRange 8).map (profilePairs s.cfg)))

def Templates.get (t : Templates) : TemplateName → Template
  | .profile => t.profile
  | .loopOn => t.loopOn
  | .loopOff => t.loopOff

def Templates.put (t : Templates) (n : TemplateName) (x : Template) : Templates :=
  match n with
  | .profile => { t with profile := x }
  | .loopOn => { t with loopOn := x }
  | .loopOff => { t with loopOff := x }

def Template.with (t : Template) (a : TemplateArgs) : Template :=
  { addr := natOr t.addr a.addr, bytes := a.bytes.getD t.bytes, pos := natOr t.pos a.pos }

/-- The conditions of R38 on the request and the resulting template. -/
def templateOk (n : TemplateName) (a : TemplateArgs) (t : Template) : Bool :=
  (a.addr.isSome || a.bytes.isSome || a.pos.isSome) && inRange 0 127 a.addr && decide (t.bytes.length ≤ 6)
    && (match n with
        | .profile => inRange 0 5 a.pos && decide (t.pos < t.bytes.length)
        | _ => a.pos.isNone)

def templatePairs (cfg : Settings) (n : TemplateName) : List Pair :=
  let t := cfg.templates.get n
  [kv "name" (.word n.word), kv "addr" (.nat t.addr), kv "bytes" (.bytes t.bytes)]
    ++ (match n with | .profile => [kv "pos" (.nat t.pos)] | _ => [])

/-- R38. -/
def handleTemplateSet (s : State) (n : Option (Named TemplateName)) (a : TemplateArgs) : State × Reply :=
  if s.link.state ≠ .off then (s, .no .noState)
  else
    match nameOf n with
    | none => (s, .no .noRange)
    | some n =>
      let t := (s.cfg.templates.get n).with a
      if !templateOk n a t then (s, .no .noRange)
      else
        let s := s.settings fun cfg => { cfg with templates := cfg.templates.put n t }
        (s, .ok (templatePairs s.cfg n) [])

/-- R38. DESIGN CHOICE (log 11): a name of no template is refused with NO RANGE. -/
def handleTemplateRead (s : State) : Option (Named TemplateName) → State × Reply
  | none => (s, .ok [] ([.profile, .loopOn, .loopOff].map (templatePairs s.cfg)))
  | some .other => (s, .no .noRange)
  | some (.known n) => (s, .ok (templatePairs s.cfg n) [])

def LinkSettings.with (k : LinkSettings) (a : LinkSetArgs) : LinkSettings :=
  { high := intOr k.high a.high, low := intOr k.low a.low, fade := natOr k.fade a.fade
    restore := natOr k.restore a.restore, upshift := natOr k.upshift a.upshift
    reserve := natOr k.reserve a.reserve, autostart := nameOr k.autostart a.autostart }

def linkArgsOk (a : LinkSetArgs) : Bool :=
  (a.high.isSome || a.low.isSome || a.fade.isSome || a.restore.isSome || a.upshift.isSome || a.reserve.isSome
      || a.autostart.isSome)
    && inRange (-1200) 0 a.high && inRange (-1200) 0 a.low && inRange 1 16 a.fade && inRange 1 60 a.restore
    && inRange 1 30 a.upshift && inRange 0 63 a.reserve && nameOk a.autostart

/-- R41, R37. DESIGN CHOICE (log 20): a reserve= that states the value in force is no change, and so no reshare. -/
def handleLinkSet (s : State) (a : LinkSetArgs) : State × Reply :=
  let k := s.cfg.link.with a
  if !linkArgsOk a || decide (k.high ≤ k.low) then (s, .no .noRange)
  else if (a.high.isSome || a.low.isSome || a.fade.isSome)
      && (s.link.state.carries || s.link.state == .lost || s.link.state == .test) then (s, .no .noState)
  else
    let t := s.settings fun cfg => { cfg with link := k }
    let t := if k.reserve = s.cfg.link.reserve then t else shareInput t fun h => { h with reserve := k.reserve }
    (t, .ok (namedPairs
      [(a.high.isSome, kv "high" (.int k.high)), (a.low.isSome, kv "low" (.int k.low)),
       (a.fade.isSome, kv "fade" (.nat k.fade)), (a.restore.isSome, kv "restore" (.nat k.restore)),
       (a.upshift.isSome, kv "upshift" (.nat k.upshift)), (a.reserve.isSome, kv "reserve" (.nat k.reserve)),
       (a.autostart.isSome, kv "autostart" (.onOff k.autostart))]) [])

/-- R42. -/
def handleLinkRead (s : State) : State × Reply :=
  let k := s.link
  let g := s.cfg.link
  (s, .ok [kv "state" (.word k.state.word), kv "confirmed" (.optFin k.confirmed), kv "pending" (.optFin k.pending),
           kv "guard" (.optFin k.guard), kv "base" (.nat k.base), kv "reserve" (.nat g.reserve),
           kv "init" (.onOff k.init.isSome), kv "fadeleft" (.optNat k.fadeTimer),
           kv "restoreleft" (.optNat k.restoreTimer), kv "upshiftleft" (.optNat k.upshiftTimer),
           kv "restoredue" (.mark k.restoreDue), kv "align" (.mark k.alignInd), kv "claim" (.optNat k.claim),
           kv "high" (.int g.high), kv "low" (.int g.low), kv "fade" (.nat g.fade), kv "restore" (.nat g.restore),
           kv "upshift" (.nat g.upshift), kv "autostart" (.onOff g.autostart)] [])

end Sys2Proof.Machine
end

