-- ==== Sys2Proof/Machine/Tests.lean ====
section
/-! DEFINITION. The test sequencer (chapter 07): the queue, start checks, claims, aborts, cleanup, the result log and
the acceptance record, with the measurements of the five kinds (chapter 08). -/

namespace Sys2Proof.Machine

def State.onTests (s : State) (f : Tests → Tests) : State := { s with tests := f s.tests }

def State.onCurrent (s : State) (f : TestRec → TestRec) : State :=
  s.onTests fun t => { t with current := t.current.map f }

def TestParams.lines : TestParams → List FeederLine
  | .feeder l _ _ _ => l
  | _ => []

/-- Whether a test takes the link claim (R137). -/
def needsLink (r : TestRec) : Bool := r.kind == .loopNear || decide (FeederLine.f0 ∈ r.params.lines)

/-! ## Bus transactions of a test (R141, R147, R165, R171) -/

def testTxn (purpose : Purpose) (attempt addr : Nat) (write : List Byte) (read : Nat) : Txn :=
  { requester := .test, tag := none, purpose := some purpose, target := none, attempt := attempt, confirm := false
    addr := addr, write := write, read := read, start := true, stop := true, ackLast := false, cont := false
    status := none, written := 0, data := [] }

def testTransaction (cfg : Settings) (p : TestParams) (o : Outstanding) : Txn :=
  match o.purpose, p with
  | .probe, .probe addr reg read _ _ => testTxn .probe o.attempt addr reg read
  | .loopOn, _ => testTxn .loopOn o.attempt cfg.templates.loopOn.addr cfg.templates.loopOn.bytes 0
  | _, _ => testTxn .loopOff o.attempt cfg.templates.loopOff.addr cfg.templates.loopOff.bytes 0

/-- An attempt is offered to the internal slot; after a SLOT_BUSY it is kept back. -/
def offerTest (s : State) (o : Outstanding) : State :=
  match s.tests.current with
  | none => s
  | some r =>
    let a := offerInternal s (testTransaction s.cfg r.params o)
    a.1.onTests fun t => { t with outstanding := some { o with place := if a.2 then .offered else .keptBack } }

def firstAttempt (p : Purpose) : Outstanding := { purpose := p, attempt := 1, place := .keptBack, settling := false }

/-- R47: a slot-free event. -/
def testSlotFree (s : State) : State :=
  match s.tests.outstanding with
  | some o => if o.place = .keptBack then offerTest s o else s
  | none => s

/-! ## Measurements begin (R158, R164 to R166, R168, R171) -/

def startTester (s : State) : State :=
  s.onTests fun t => { t with tester := { Tester.stopped with running := true } }

def lineSet (l : List FeederLine) : PerLine Bool :=
  { f0 := decide (FeederLine.f0 ∈ l), f1 := decide (FeederLine.f1 ∈ l), f2 := decide (FeederLine.f2 ∈ l)
    f3 := decide (FeederLine.f3 ∈ l) }

def beginMeasurement (s : State) (r : TestRec) : State :=
  match r.params with
  | .feeder l _ discharge _ =>
    s.onTests fun t =>
      { t with feeder := { phase := .discharge, timer := some discharge, divider := 0, ahead := 0
                           lines := t.feeder.lines.map fun c => { c with state := none }, opened := lineSet l } }
  | .loopNear _ _ _ => offerTest s (firstAttempt .loopOn)
  | .loopFar _ _ _ => startTester s
  | .pulse _ _ _ =>
    s.onTests fun t =>
      { t with pulse := some { lead := none, count := 0, sum := 0, largest := 0, watch := some 2000
                               width := s.clock.active.width, polarity := s.clock.active.polarity } }
  | .probe _ _ _ _ _ => offerTest s (firstAttempt .probe)

/-- A test becomes RUNNING (R137, R138). -/
def runTest (s : State) (r : TestRec) : State :=
  let s := (s.onCurrent fun r => { r with state := .running }).counting fun c => { c with testsRun := bump c.testsRun }
  let s := noticeBoth s .test ["START"]
    [kv "n" (.nat r.number), kv "kind" (.word (TestKind.word r.kind)), kv "owner" (.word (Port.word r.owner))]
  beginMeasurement s r

/-! ## Final records (R148, R152) -/

def Acceptance.get (a : Acceptance) : TestKind → Entry
  | .feeder => a.feeder | .loopNear => a.loopNear | .loopFar => a.loopFar | .pulse => a.pulse | .probe => a.probe

def Acceptance.put (a : Acceptance) (k : TestKind) (e : Entry) : Acceptance :=
  match k with
  | .feeder => { a with feeder := e } | .loopNear => { a with loopNear := e } | .loopFar => { a with loopFar := e }
  | .pulse => { a with pulse := e } | .probe => { a with probe := e }

def cleanupMark (r : TestRec) : Val := if r.loopOffFailed then .word "LOOPOFF_FAILED" else .absent

def reasonVal (o : Option TestReason) : Val := .optWord (o.map (·.word))

/-- R152, and the counters of R148. -/
def recordVerdict (s : State) (r : TestRec) : State :=
  match r.state with
  | .pass =>
    (s.onTests fun t => { t with acceptance := t.acceptance.put r.kind (.pass r.number) }).counting fun c =>
      { c with testsPassed := bump c.testsPassed }
  | .fail =>
    (s.onTests fun t => { t with acceptance := t.acceptance.put r.kind (.fail r.number) }).counting fun c =>
      { c with testsFailed := bump c.testsFailed }
  | _ => s

/-- Steps 2 to 6 of R148 for a record that has left its place. -/
def fileRecord (s : State) (r : TestRec) : State :=
  let r := { r with pending := none, finish := some s.clock.sec }
  let s := recordVerdict s r
  let full := decide (24 ≤ s.tests.log.length)
  let s := s.onTests fun t => { t with log := (if full then t.log.drop 1 else t.log) ++ [r] }
  let s := if full then s.counting fun c => { c with logDrops := bump c.logDrops } else s
  noticeOwner (setFlagBoth s .testDone) r.owner .test ["END"]
    [kv "n" (.nat r.number), kv "kind" (.word (TestKind.word r.kind)), kv "owner" (.word (Port.word r.owner)),
     kv "state" (.word r.state.word), kv "reason" (reasonVal r.reason), kv "cleanup" (cleanupMark r)]

/-- The claims that a test still holds are released (R148, step 1). -/
def releaseClaims (s : State) (n : Nat) : State :=
  let s := if s.link.claim = some n then linkRelease s else s
  let s := allSources.foldl (fun s i =>
    if (s.timing.sources.get i).mark = some n then timingUnmark s i else s) s
  if s.clock.divert = some n then setDiversion s none else s

/-- R148 for the current test. The tester's counts are not kept after a test without a verdict (R167), nor after one with
a verdict (log 27). -/
def finalize (s : State) (st : TestState) (why : Option TestReason) : State :=
  match s.tests.current with
  | none => s
  | some r =>
    let s := releaseClaims s r.number
    let s := s.onTests fun t =>
      { t with current := none, deferTimer := none, outstanding := none, stage := .measuring, pulse := none
               loopOnStatus := none, tester := .stopped }
    (syncSummary testOwned (fileRecord s { r with state := st, reason := why })).push .takeTest

def verdictState : Verdict → TestState
  | .pass => .pass
  | .fail => .fail
  | .aborted => .aborted

/-- The cleanup of the current test is complete. -/
def cleanupDone (s : State) : State :=
  match s.tests.current.bind (·.pending) with
  | none => s
  | some (v, why) => finalize s (verdictState v) why

/-! ## Ends of measurements and aborts (R142, R144, R146) -/

def stopTester (t : Tester) : Tester := { t with running := false, outstanding := none, timer := none }

/-- The measurement stops where it stands; the switches stay open until the cleanup closes them (R161, R167). -/
def stopMeasurement (s : State) : State :=
  s.onTests fun t =>
    { t with feeder := { t.feeder with phase := .idle, timer := none }, tester := stopTester t.tester, pulse := none }

def testPending (s : State) : Bool :=
  match s.tests.current with
  | none => true
  | some r => r.pending.isSome || r.state != .running

/-- R142. -/
def endMeasurement (s : State) (v : Verdict) (why : Option TestReason) (res : TestResults) : State :=
  if testPending s then s
  else
    ((stopMeasurement s).onCurrent fun r => { r with pending := some (v, why), results := some res }).push .cleanup

/-- R144. -/
def abortTest (s : State) (why : TestReason) : State :=
  if testPending s then s
  else ((stopMeasurement s).onCurrent fun r => { r with pending := some (.aborted, some why) }).push .cleanup

/-- The kind's own steps (R146). -/
def cleanupKind (s : State) (r : TestRec) : State :=
  match r.kind with
  | .feeder =>
    cleanupDone (s.onTests fun t =>
      { t with feeder := { t.feeder with
          lines := t.feeder.lines.map fun c => { c with state := none }, opened := lineSet [] } })
  | .loopNear => offerTest (s.onTests fun t => { t with stage := .loopOff }) (firstAttempt .loopOff)
  | .loopFar => cleanupDone (borrowEnd s)
  | .pulse | .probe => cleanupDone s

/-- Step 1 of R146: the outstanding transaction is settled (R141). -/
def cleanup (s : State) : State :=
  match s.tests.current with
  | none => s
  | some r =>
    if r.pending.isNone || s.tests.stage != .measuring then s
    else
      match s.tests.outstanding with
      | none => cleanupKind s r
      | some o =>
        let drop := s.onTests fun t => { t with outstanding := none }
        let waiting : Bool := match s.bus.internalSlot with | none => false | some t => t.requester == .test
        if o.place = .keptBack then cleanupKind drop r
        else if waiting then cleanupKind (withdrawInternal drop .test) r
        else s.onTests fun t => { t with stage := .settling, outstanding := some { o with settling := true } }

/-- R147: the cleanup write is given up. -/
def loopOffGivenUp (s : State) (status : Option BusStatus) : State :=
  let s := s.onCurrent fun r =>
    { r with loopOffFailed := true
             pending := match r.pending with | some (.pass, _) => some (.fail, some .cleanup) | p => p }
  cleanupDone (loopOffFailed s status)

/-- The first position at which the masked bytes disagree (R172). DESIGN CHOICE (log 29): positions count from 0. -/
def firstMismatch : Nat → List Byte → List Byte → List Byte → Option Nat
  | i, a :: l, e :: l', m :: l'' => if a &&& m = e &&& m then firstMismatch (i + 1) l l' l'' else some i
  | _, _, _, _ => none

/-- R172. -/
def judgeProbe (s : State) (expect mask : List Byte) (t : Txn) : State :=
  let st := t.status.getD .timeout
  if st = .ok then
    match firstMismatch 0 t.data expect mask with
    | none => endMeasurement s .pass none (.probe st t.written t.data none)
    | some i => endMeasurement s .fail (some .limit) (.probe st t.written t.data (some i))
  else endMeasurement s .fail (some .bus) (.probe st t.written t.data none)

/-- The completion of a TEST transaction (R141, R147, R165, R172). -/
def testCompleted (s : State) (t : Txn) : State :=
  match s.tests.outstanding, s.tests.current with
  | some o, some r =>
    let s := s.onTests fun k => { k with outstanding := none }
    if o.settling then cleanupKind s r
    else
      match o.purpose, r.params with
      | .loopOn, _ =>
        let s := s.onTests fun k => { k with loopOnStatus := t.status }
        if testPending s then s
        else if t.status = some .ok then startTester s
        else endMeasurement s .fail (some .bus) (.loop t.status 0 0 0 0 0)
      | .probe, .probe _ _ _ expect mask => judgeProbe s expect mask t
      | .loopOff, _ =>
        if t.status = some .ok then cleanupDone s
        else if o.attempt < 3 then offerTest s { o with attempt := o.attempt + 1, place := .keptBack }
        else loopOffGivenUp s t.status
      | _, _ => s
  | _, _ => s

/-! ## Starting a test (R137, R138) -/

/-- Steps 1 to 6 of R137: each claim granted, or the reason of the first step that fails. -/
def startChecks (s : State) (r : TestRec) : State × Option TestReason :=
  if needsLink r ∧ s.site.phase ≠ .staging then (s, some .phase)
  else if r.kind = .loopFar ∧ s.link.state ≠ .up then (s, some .link)
  else
    let g := if FeederLine.f1 ∈ r.params.lines then timingMark s .gnss r.number else (s, true)
    if !g.2 then (g.1, some .source)
    else
      let a := if r.kind = .pulse ∨ FeederLine.f2 ∈ r.params.lines then timingMark g.1 .aux r.number else (g.1, true)
      if !a.2 then (a.1, some .source)
      else
        let l := if needsLink r then linkClaim a.1 r.number else (a.1, none)
        match l.2 with
        | some why => (l.1, some why)
        | none => (if r.kind = .pulse then setDiversion l.1 (some r.number) else l.1, none)

/-- R138: a LOOP_FAR test asks for the borrow and waits for the answer. -/
def deferTest (s : State) (r : TestRec) : State :=
  let s := (s.onCurrent fun r => { r with state := .deferred }).onTests fun t => { t with deferTimer := some 30000 }
  borrowRequest s r.number

/-- The head of the queue is taken into the empty running slot (R137). -/
def takeTest (s : State) : State :=
  match s.tests.current, s.tests.queue with
  | none, r :: l =>
    let r := { r with start := some s.clock.sec }
    let s := syncSummary testOwned (s.onTests fun t => { t with current := some r, queue := l, stage := .measuring })
    let c := startChecks s r
    match c.2 with
    | some why => finalize c.1 .refused (some why)
    | none => if r.kind = .loopFar then deferTest c.1 r else runTest c.1 r
  | _, _ => s

/-! ## Events of other blocks (R138, R143, R150) -/

def ifCurrent (s : State) (n : Nat) (k : TestRec → State) : State :=
  match s.tests.current with
  | none => s
  | some r => if r.number = n then k r else s

def testGranted (s : State) (n : Nat) : State :=
  ifCurrent s n fun r =>
    if r.state = .deferred then runTest (s.onTests fun t => { t with deferTimer := none }) r else s

def testDeferred (s : State) (n : Nat) : State :=
  ifCurrent s n fun r =>
    if r.state = .deferred then
      noticeBoth s .test ["DEFERRED"] [kv "n" (.nat r.number), kv "amount" (.nat (borrowAmount s.share.borrow))]
    else s

def testRevoked (s : State) (n : Nat) : State :=
  ifCurrent s n fun r => if r.kind = .loopFar then abortTest s .capacity else s

/-- A DEFERRED test ends: the timer stops and the borrow is withdrawn. -/
def endDeferred (s : State) (st : TestState) (why : TestReason) : State :=
  finalize (borrowEnd (s.onTests fun t => { t with deferTimer := none })) st (some why)

/-- A link-state event: the link is not UP. -/
def testLinkState (s : State) (st : LinkState) : State :=
  match s.tests.current with
  | none => s
  | some r =>
    if st = .up ∨ r.kind ≠ .loopFar then s
    else if r.state = .deferred then endDeferred s .refused .link
    else abortTest s .link

/-- R138. -/
def deferExpired (s : State) : State :=
  match s.tests.current, s.tests.deferTimer with
  | some r, some _ => if r.state = .deferred then endDeferred s .refused .capacity else s
  | _, _ => s

/-- R139: MAST_MOVING asserts. -/
def testMast (s : State) : State :=
  match s.tests.current with
  | none => s
  | some r => if s.link.claim = some r.number then abortTest s .mast else s

/-- R150. DESIGN CHOICE (log 3): the queued tests of MAIN are made final, with their records and END notices, before a
DEFERRED current one. -/
def testAutonomous (s : State) : State :=
  let gone := s.tests.queue.filter fun r => r.owner == .main
  let s := s.onTests fun t => { t with queue := t.queue.filter fun r => r.owner != .main }
  let s := gone.foldl (fun s r => fileRecord s { r with state := .aborted, reason := some .quiet }) s
  match s.tests.current with
  | none => s
  | some r =>
    if r.owner ≠ .main then s
    else if r.state = .deferred then endDeferred s .aborted .quiet
    else abortTest s .quiet

/-! ## FEEDER (R158 to R160) -/

def loadedValue (reload : Nat) : Nat := 4095 - reload

/-- R158, step 3. DESIGN CHOICE (log 32): the first reading of the comparators in CHARGE is no part of this step. State
holds no comparator level; a line whose comparator reports the threshold at that reading becomes TRIPPED with 0 ticks by
the row COMPARATOR_TRIP of 0 ticks, sent after this one, and the last of those rows brings the verdict where every line
reports. -/
def dischargeExpired (s : State) : State :=
  match s.tests.current, s.tests.feeder.timer with
  | some r, some _ =>
    match r.params with
    | .feeder l _ _ reload =>
      s.onTests fun t =>
        { t with feeder := { t.feeder with
            phase := .charge, timer := none, divider := 0, ahead := 0
            lines := l.foldl (fun v i =>
              v.put i { counter := loadedValue reload, state := some .counting }) t.feeder.lines } }
    | _ => s
  | _, _ => s

/-- The counters of the COUNTING lines advance; they stop short of the tick that would pass 4095. -/
def FeederCount.advance (c : FeederCount) (ticks : Nat) : FeederCount :=
  if c.state = some .counting then { c with counter := min 4095 (c.counter + ticks) } else c

/-- Whether some of these ticks would take a COUNTING line past 4095 (R159). -/
def FeederCount.passes (c : FeederCount) (ticks : Nat) : Bool :=
  c.state == some .counting && decide (4095 < c.counter + ticks)

/-- R160. -/
def classOf (g : FeederRec) : LineState → LineClass
  | .overflow | .counting => .short
  | .tripped n =>
    if n < g.openLimit then .opened
    else if g.lo ≤ n ∧ n ≤ g.hi then .present
    else .outOfWindow

def matchesRecord (e : ExpectClass) (c : LineClass) : Bool :=
  match e with
  | .present => c == .present
  | .opened => c == .opened
  | .any => c != .short

def feederResults (cfg : Settings) (u : FeederUnit) (l : List FeederLine) : List LineResult :=
  l.map fun i =>
    let st := ((u.lines.get i).state).getD .overflow
    { line := i, outcome := st, cls := classOf (cfg.feeders.get i) st, expect := (cfg.feeders.get i).expect }

/-- The end of a FEEDER measurement, when no selected line is COUNTING. -/
def feederEnd (s : State) : State :=
  match s.tests.current with
  | none => s
  | some r =>
    if r.params.lines.any fun i => (s.tests.feeder.lines.get i).state == some .counting then s
    else
      let res := feederResults s.cfg s.tests.feeder r.params.lines
      let ok := res.all fun x => matchesRecord x.expect x.cls
      endMeasurement s (if ok then .pass else .fail) (if ok then none else some .limit) (.feeder res)

/-- An event of one COUNTING line, the others having advanced by the same ticks, which the command gives. -/
def feederEvent (s : State) (i : FeederLine) (ticks : Nat) (f : Nat → FeederCount → FeederCount) : State :=
  match s.tests.current with
  | none => s
  | some r =>
    match r.params with
    | .feeder _ _ _ reload =>
      if s.tests.feeder.phase ≠ .charge ∨ (s.tests.feeder.lines.get i).state ≠ some .counting then s
      else
        feederEnd (s.onTests fun t =>
          let v := t.feeder.lines.map fun c => c.advance ticks
          { t with feeder := { t.feeder with ahead := t.feeder.ahead + ticks
                                             lines := v.put i (f (loadedValue reload) (v.get i)) } })
    | _ => s

/-- R159. -/
def comparatorTrip (s : State) (i : FeederLine) (ticks : Nat) : State :=
  feederEvent s i ticks fun loaded c => { c with state := some (.tripped (c.counter - loaded)) }

/-- R159: a line overflows after so many more ticks, which the others have counted too. -/
def overflowAfter (s : State) (i : FeederLine) (ticks : Nat) : State :=
  feederEvent s i ticks fun _ _ => { counter := 4095, state := some .overflow }

/-- R159: the tick that would pass 4095. -/
def counterOverflow (s : State) (i : FeederLine) : State :=
  overflowAfter s i (4096 - (s.tests.feeder.lines.get i).counter)

/-! ## LOOP_NEAR and LOOP_FAR (R163, R164) -/

def loopByte (k : TestKind) : Byte := if k = .loopNear then 0x4E else 0x46

/-- The content of the test frame with a sequence number (R163). -/
def frameContent (k : TestKind) (length seq : Nat) : List Byte :=
  loopByte k :: BitVec.ofNat 8 (seq / 256) :: BitVec.ofNat 8 seq
    :: (List.range length).map fun i => BitVec.ofNat 8 (seq + i)

/-- A frame as it stands on the service-channel link: a start byte, the count of the content bytes in two bytes, most
significant first, the content, and an end byte (R163). -/
def frameWire (content : List Byte) : List Byte :=
  0x7E :: BitVec.ofNat 8 (content.length / 256) :: BitVec.ofNat 8 content.length :: (content ++ [0x7E])

def loopParams : TestParams → Option (Nat × Nat × Nat)
  | .loopNear a b c | .loopFar a b c => some (a, b, c)
  | _ => none

/-- What SCH_TX sends: the frame of the next sequence number, from the start of the tester or the settling of the frame
before it until its sending ends, and nothing otherwise (R163, R164). DESIGN CHOICE (log 35): nothing more of a frame is
sent once an abort has stopped the tester. -/
def schTx (s : State) : List Byte :=
  match s.tests.current, s.tests.tester.outstanding with
  | some r, none =>
    match loopParams r.params with
    | some (length, _, _) =>
      if s.tests.tester.running then frameWire (frameContent r.kind length s.tests.tester.next) else []
    | none => []
  | _, _ => []

/-- R164, step 1 to 3: a frame's sending has ended. DESIGN CHOICE (log 35): a frame whose sending an abort has cut off is
counted nowhere. -/
def frameSent (s : State) : State :=
  s.onTests fun t =>
    if t.tester.running ∧ t.tester.outstanding = none then
      { t with tester := { t.tester with sent := t.tester.sent + 1, outstanding := some t.tester.next
                                         timer := some 50 } }
    else t

/-- R165, R166: the verdict when the tester stops after the last frame. -/
def loopEnd (s : State) (allowed : Nat) : State :=
  let k := s.tests.tester
  let ok := decide (k.errored + k.lost ≤ allowed)
  endMeasurement s (if ok then .pass else .fail) (if ok then none else some .limit)
    (.loop s.tests.loopOnStatus k.sent k.ok k.errored k.lost k.stray)

/-- The outstanding frame has been settled: the next is sent, or the measurement ends. -/
def frameSettled (s : State) (count allowed : Nat) (f : Tester → Tester) : State :=
  let s := s.onTests fun t =>
    { t with tester := { f t.tester with outstanding := none, timer := none, next := t.tester.next + 1 } }
  if count ≤ s.tests.tester.sent then loopEnd s allowed else s

/-- Whether received content carries the loop byte and the sequence number of a frame. -/
def isReturnOf (k : TestKind) (seq : Nat) : List Byte → Bool
  | b :: h :: l :: _ => b == loopByte k && h.toNat * 256 + l.toNat == seq
  | _ => false

/-- R164: a frame received. -/
def frameReceived (s : State) (content : List Byte) : State :=
  match s.tests.current with
  | none => s
  | some r =>
    match loopParams r.params with
    | none => s
    | some (length, count, allowed) =>
      if !s.tests.tester.running then s
      else
        match s.tests.tester.outstanding with
        | some q =>
          if isReturnOf r.kind q content then
            frameSettled s count allowed fun k =>
              if content = frameContent r.kind length q then { k with ok := k.ok + 1 }
              else { k with errored := k.errored + 1 }
          else s.onTests fun t => { t with tester := { t.tester with stray := t.tester.stray + 1 } }
        | none => s.onTests fun t => { t with tester := { t.tester with stray := t.tester.stray + 1 } }

/-- R164: the return timer expires. -/
def returnExpired (s : State) : State :=
  match s.tests.current, s.tests.tester.timer with
  | some r, some _ =>
    match loopParams r.params with
    | none => s
    | some (_, count, allowed) => frameSettled s count allowed fun k => { k with lost := k.lost + 1 }
  | _, _ => s

/-! ## PULSE (R169, R170) -/

def isLeading (p : PulsePolarity) (d : EdgeDir) : Bool :=
  match p, d with
  | .activeHigh, .rise => true
  | .activeLow, .fall => true
  | _, _ => false

/-- The ns from one reading of site time to a later one (R169). DESIGN CHOICE (log 37): the seconds are subtracted
modulo 2^32, so that a pulse across their wrap has the width of any other. -/
def nsBetween (a b : SiteTime) : Int := ((b.sec - a.sec).toNat * 1000000000 : Nat) + (b.ns : Int) - a.ns

/-- The mean width, rounded down to a multiple of 10 ns, over the pulses measured. -/
def meanWidth (m : PulseMeasure) : Option Int := if m.count = 0 then none else some (m.sum / m.count / 10 * 10)

def pulseResults (m : PulseMeasure) : TestResults :=
  .pulse m.count (meanWidth m) (if m.count = 0 then none else some m.largest)

/-- R170, the pulse count reached. -/
def pulseVerdict (m : PulseMeasure) (widthTol offset : Nat) : Bool :=
  match meanWidth m with
  | none => false
  | some w => decide ((w - (m.width * 1000000 : Nat)).natAbs ≤ widthTol * 1000000) && decide (m.largest ≤ offset)

/-- R169. -/
def PulseMeasure.edge (m : PulseMeasure) (d : EdgeDir) (t : SiteTime) : PulseMeasure :=
  let m := { m with watch := some 2000 }
  match isLeading m.polarity d, m.lead with
  | true, _ => { m with lead := some (t, offsetOf t) }
  | false, none => m
  | false, some (t0, x) =>
    { m with lead := none, count := m.count + 1, sum := m.sum + nsBetween t0 t, largest := max m.largest x.natAbs }

/-- A test edge event. -/
def testEdge (s : State) (d : EdgeDir) (t : SiteTime) : State :=
  match s.tests.current, s.tests.pulse with
  | some r, some m =>
    match r.params with
    | .pulse count widthTol offset =>
      let m := m.edge d t
      let s := s.onTests fun k => { k with pulse := some m }
      if count ≤ m.count then
        let ok := pulseVerdict m widthTol offset
        endMeasurement s (if ok then .pass else .fail) (if ok then none else some .limit) (pulseResults m)
      else s
    | _ => s
  | _, _ => s

/-- R170: the edge watch expires. -/
def edgeWatchExpired (s : State) : State :=
  match s.tests.pulse with
  | some m => if m.watch.isSome then endMeasurement s .fail (some .noPulse) (pulseResults m) else s
  | none => s

/-! ## Requests of the test sequencer -/

/-- Which fields of TEST ADD each kind takes (chapter 08); true when a field given does not belong. -/
def foreignField (k : TestKind) (a : TestArgs) : Bool :=
  let feeder := a.lines.isSome || a.clock.isSome || a.discharge.isSome || a.reload.isSome
  let loop := a.length.isSome || a.allowed.isSome
  let pulse := a.widthTol.isSome || a.offset.isSome
  let probe := a.addr.isSome || a.reg.isSome || a.read.isSome || a.expect.isSome || a.mask.isSome
  match k with
  | .feeder => loop || a.count.isSome || pulse || probe
  | .loopNear | .loopFar => feeder || pulse || probe
  | .pulse => feeder || loop || probe
  | .probe => feeder || loop || a.count.isSome || pulse

/-- R156, R157. -/
def feederParams (a : TestArgs) : Option TestParams :=
  match a.lines.bind namesOf with
  | none => none
  | some l =>
    if l.isEmpty || !inRange 0 7 a.clock || !inRange 1 15 a.discharge || !inRange 0 4095 a.reload then none
    else some (.feeder (asSet allLines l) (natOr 4 a.clock) (natOr 5 a.discharge) (natOr 2047 a.reload))

/-- R162. -/
def loopTestParams (a : TestArgs) : Option (Nat × Nat × Nat) :=
  if inRange 64 1024 a.length && inRange 1 65535 a.count && inRange 0 65535 a.allowed then
    some (natOr 256 a.length, natOr 1000 a.count, natOr 0 a.allowed)
  else none

/-- R168. -/
def pulseParams (a : TestArgs) : Option TestParams :=
  if inRange 2 60 a.count && inRange 1 100 a.widthTol && inRange 10 100000 a.offset then
    some (.pulse (natOr 5 a.count) (natOr 1 a.widthTol) (natOr 1000 a.offset))
  else none

/-- R171. -/
def probeParams (a : TestArgs) : Option TestParams :=
  let reg := a.reg.getD []
  let n := natOr 1 a.read
  match a.addr, a.expect with
  | some addr, some e =>
    let m := a.mask.getD (List.replicate n 0xFF)
    if inRange 0 127 (some addr) && inRange 1 8 a.read && decide (reg.length ≤ 4) && decide (e.length = n)
        && decide (m.length = n) then
      some (.probe addr.toNat reg n e m)
    else none
  | _, _ => none

def testParams (k : TestKind) (a : TestArgs) : Option TestParams :=
  if foreignField k a then none
  else
    match k with
    | .feeder => feederParams a
    | .loopNear => (loopTestParams a).map fun x => .loopNear x.1 x.2.1 x.2.2
    | .loopFar => (loopTestParams a).map fun x => .loopFar x.1 x.2.1 x.2.2
    | .pulse => pulseParams a
    | .probe => probeParams a

def heldNumbers (t : Tests) : List Nat :=
  t.queue.map (·.number) ++ t.current.toList.map (·.number) ++ t.log.map (·.number)

/-- R136: the first free number upwards from the last assigned. -/
def freeNumber (held : List Nat) : Nat → Nat → Nat
  | 0, n => n
  | fuel + 1, n =>
    let m := if 999 ≤ n then 1 else n + 1
    if m ∈ held then freeNumber held fuel m else m

/-- The three places hold at most 33 records. -/
def newNumber (t : Tests) : Nat := freeNumber (heldNumbers t) 34 t.lastNumber

/-- R135. -/
def handleTestAdd (s : State) (p : Port) (k : Option (Named TestKind)) (a : TestArgs) : State × Reply :=
  match nameOf k with
  | none => (s, .no .noRange)
  | some k =>
    match testParams k a with
    | none => (s, .no .noRange)
    | some x =>
      if 8 ≤ s.tests.queue.length then (s, .no .noFull)
      else
        let n := newNumber s.tests
        let r : TestRec :=
          { number := n, kind := k, owner := p, params := x, state := .queued, pending := none, reason := none
            loopOffFailed := false, results := none, start := none, finish := none }
        ((s.onTests fun t => { t with queue := t.queue ++ [r], lastNumber := n }).push .takeTest,
         .ok [kv "n" (.nat n)] [])

def verdictWord : Verdict → String
  | .pass => "PASS"
  | .fail => "FAIL"
  | .aborted => "ABORTED"

def pendingPairs (o : Option (Verdict × Option TestReason)) : List Pair :=
  [kv "pending" (.optWord (o.map fun x => verdictWord x.1)), kv "reason" (reasonVal (o.bind (·.2)))]

def testNumber (n : Option Int) : Option Nat :=
  match n with
  | none => none
  | some i => if 1 ≤ i ∧ i ≤ 999 then some i.toNat else none

def mayCancel (s : State) (p : Port) (r : TestRec) : Bool := r.owner == p || atSite s p

def cancelReply (st : TestState) (o : Option (Verdict × Option TestReason)) : Reply :=
  .ok (kv "state" (.word st.word) :: pendingPairs o) []

/-- R149 on the current test. -/
def cancelCurrent (s : State) (r : TestRec) : State × Reply :=
  if r.state = .deferred then (endDeferred s .cancelled .cancel, cancelReply .cancelled none)
  else
    let t := abortTest s .cancel
    (t, cancelReply .running (t.tests.current.bind (·.pending)))

/-- R149 on a QUEUED test. -/
def cancelQueued (s : State) (r : TestRec) : State × Reply :=
  let t := s.onTests fun k => { k with queue := k.queue.filter fun x => x.number != r.number }
  (fileRecord t { r with state := .cancelled, reason := some .cancel }, cancelReply .cancelled none)

/-- R149. -/
def handleTestCancel (s : State) (p : Port) (n : Option Int) : State × Reply :=
  match testNumber n with
  | none => (s, .no .noRange)
  | some n =>
    match s.tests.current.filter fun r => r.number == n with
    | some r => if mayCancel s p r then cancelCurrent s r else (s, .no .noOwned)
    | none =>
      match s.tests.queue.find? fun r => r.number == n with
      | some r => if mayCancel s p r then cancelQueued s r else (s, .no .noOwned)
      | none => (s, .no .noState)

def testHead (r : TestRec) : List Pair :=
  [kv "n" (.nat r.number), kv "kind" (.word (TestKind.word r.kind)), kv "owner" (.word (Port.word r.owner)),
   kv "state" (.word r.state.word)]

def paramPairs : TestParams → List Pair
  | .feeder l c d r =>
    [kv "lines" (.words (l.map FeederLine.word)), kv "clock" (.nat c), kv "discharge" (.nat d), kv "reload" (.nat r)]
  | .loopNear l c a | .loopFar l c a => [kv "length" (.nat l), kv "count" (.nat c), kv "allowed" (.nat a)]
  | .pulse c w o => [kv "count" (.nat c), kv "width_tol" (.nat w), kv "offset" (.nat o)]
  | .probe a g r e m =>
    [kv "addr" (.nat a), kv "reg" (.bytes g), kv "read" (.nat r), kv "expect" (.bytes e), kv "mask" (.bytes m)]

def secVal (o : Option (BitVec 32)) : Val := .optNat (o.map (·.toNat))

/-- The claims that the current test holds (R154). DESIGN CHOICE (log 6): LINK, GNSS, AUX, DIVERSION and BORROW, and an
empty list where it holds none; a source mark goes by the name of its source. -/
def claimWords (s : State) (n : Nat) : List String :=
  (if s.link.claim = some n then ["LINK"] else [])
    ++ (allSources.filter fun i => (s.timing.sources.get i).mark == some n).map Source.word
    ++ (if s.clock.divert = some n then ["DIVERSION"] else [])
    ++ (if borrowTest s.share.borrow = some n then ["BORROW"] else [])

def currentPairsOf (s : State) (r : TestRec) : List Pair :=
  [kv "start" (secVal r.start)] ++ pendingPairs r.pending
    ++ [kv "defer" (.optNat s.tests.deferTimer),
        kv "txn" (.optWord (s.tests.outstanding.map (·.purpose.word))),
        kv "attempt" (.optNat (s.tests.outstanding.map (·.attempt))),
        kv "claims" (.words (claimWords s r.number))]

/-- The tester's state, with the outstanding frame by its sequence number or none (R164), and its five counts (R167). -/
def testerPairs (r : TestRec) (k : Tester) : List Pair :=
  if (r.kind = .loopNear ∨ r.kind = .loopFar) ∧ r.state = .running then
    [kv "tester" (.word (if k.running then "RUNNING" else "STOPPED")), kv "outstanding" (.optNat k.outstanding),
     kv "sent" (.nat k.sent), kv "ok" (.nat k.ok), kv "errored" (.nat k.errored), kv "lost" (.nat k.lost),
     kv "stray" (.nat k.stray)]
  else []

/-- R154. DESIGN CHOICE (log 6): without n, an empty running slot gives no record, and no NONE in its place. -/
def handleTestRead (s : State) (n : Option Int) : State × Reply :=
  let t := s.tests
  match n with
  | none =>
    (s, .ok [kv "free" (.nat (8 - t.queue.length))]
      (t.current.toList.map (fun r => testHead r ++ currentPairsOf s r) ++ t.queue.map testHead))
  | some _ =>
    match testNumber n with
    | none => (s, .no .noRange)
    | some i =>
      match t.current.filter fun r => r.number == i with
      | some r => (s, .ok (testHead r ++ currentPairsOf s r ++ paramPairs r.params ++ testerPairs r t.tester) [])
      | none =>
        match t.queue.find? fun r => r.number == i with
        | some r => (s, .ok (testHead r ++ paramPairs r.params) [])
        | none => (s, .no .noState)

def lineOutcome : LineState → Val
  | .tripped n => .nat n
  | .counting | .overflow => .word "OVERFLOW"

/-- The results of a record of kind `k`. Those of LOOP_NEAR alone hold a LOOPON status (R165, R166). -/
def resultRecords (k : TestKind) : Option TestResults → List Pair × List (List Pair)
  | none => ([kv "results" .absent], [])
  | some (.feeder l) =>
    ([], l.map fun x =>
      [kv "f" (.word (FeederLine.word x.line)), kv "ticks" (lineOutcome x.outcome), kv "class" (.word x.cls.word),
       kv "expect" (.word (ExpectClass.word x.expect))])
  | some (.loop st a b c d e) =>
    ((if k = .loopNear then [kv "loopon" (statusVal st)] else [])
      ++ [kv "sent" (.nat a), kv "ok" (.nat b), kv "errored" (.nat c), kv "lost" (.nat d), kv "stray" (.nat e)], [])
  | some (.pulse n mean largest) =>
    ([kv "measured" (.nat n), kv "mean" (.optInt mean), kv "largest" (.optNat largest)], [])
  | some (.probe st w d m) =>
    ([kv "status" (.word st.word), kv "written" (.nat w), kv "bytes" (.nat d.length), kv "data" (.bytes d),
      kv "mismatch" (.optNat m)], [])

/-- R155. DESIGN CHOICE (log 11): an object word that is no number is an n not held in the log, NO STATE. -/
def handleResultRead (s : State) (n : Option Int) : State × Reply :=
  let l := s.tests.log
  match n with
  | none => (s, .ok [kv "held" (.nat l.length)] (l.map fun r => testHead r ++ [kv "reason" (reasonVal r.reason)]))
  | some i =>
    match l.find? fun r => (r.number : Int) == i with
    | none => (s, .no .noState)
    | some r =>
      let x := resultRecords r.kind r.results
      (s, .ok (testHead r ++ [kv "reason" (reasonVal r.reason), kv "cleanup" (cleanupMark r),
                              kv "start" (secVal r.start), kv "end" (secVal r.finish)]
            ++ paramPairs r.params ++ x.1) x.2)

/-- An entry of the acceptance record (R153). DESIGN CHOICE (log 6): PASS or FAIL and its test number are one value, a
list of the two. -/
def entryVal : Entry → Val
  | .absent => .absent
  | .pass n => .words ["PASS", String.ofList (decText n)]
  | .fail n => .words ["FAIL", String.ofList (decText n)]

def isPass : Entry → Bool
  | .pass _ => true
  | _ => false

/-- Whether every kind of the mask holds PASS (R153). -/
def maskMet (s : State) : Bool := s.cfg.acceptMask.all fun k => isPass (s.tests.acceptance.get k)

def maskVal (l : List TestKind) : Val := .words (l.map TestKind.word)

/-- R153. -/
def handleAcceptSet (s : State) (mask : Option (List (Named TestKind))) : State × Reply :=
  match mask.bind namesOf with
  | none => (s, .no .noRange)
  | some l =>
    let m := asSet allKinds l
    (s.settings fun cfg => { cfg with acceptMask := m }, .ok [kv "mask" (maskVal m)] [])

/-- R153. -/
def handleAcceptRead (s : State) : State × Reply :=
  let a := s.tests.acceptance
  (s, .ok [kv "feeder" (entryVal a.feeder), kv "loop_near" (entryVal a.loopNear),
           kv "loop_far" (entryVal a.loopFar), kv "pulse" (entryVal a.pulse), kv "probe" (entryVal a.probe),
           kv "mask" (maskVal s.cfg.acceptMask), kv "met" (.onOff (maskMet s))] [])

def FeederRec.with (g : FeederRec) (a : FeederArgs) : FeederRec :=
  { expect := nameOr g.expect a.expect, lo := natOr g.lo a.lo, hi := natOr g.hi a.hi
    openLimit := natOr g.openLimit a.openLimit }

def feederArgsOk (a : FeederArgs) : Bool :=
  (a.expect.isSome || a.lo.isSome || a.hi.isSome || a.openLimit.isSome) && nameOk a.expect && inRange 0 4095 a.lo
    && inRange 0 4095 a.hi && inRange 0 4095 a.openLimit

def feederPairs (cfg : Settings) (i : FeederLine) : List Pair :=
  let g := cfg.feeders.get i
  [kv "f" (.word (FeederLine.word i)), kv "expect" (.word (ExpectClass.word g.expect)), kv "lo" (.nat g.lo),
   kv "hi" (.nat g.hi), kv "open" (.nat g.openLimit)]

/-- R156. -/
def handleFeederSet (s : State) (f : Option (Named FeederLine)) (a : FeederArgs) : State × Reply :=
  match nameOf f with
  | none => (s, .no .noRange)
  | some i =>
    let g := (s.cfg.feeders.get i).with a
    if !feederArgsOk a || decide (g.hi < g.lo) then (s, .no .noRange)
    else
      let t := s.settings fun cfg => { cfg with feeders := cfg.feeders.put i g }
      (t, .ok (feederPairs t.cfg i) [])

/-- R156. -/
def handleFeederRead (s : State) : Option (Named FeederLine) → State × Reply
  | none => (s, .ok [] (allLines.map (feederPairs s.cfg)))
  | some .other => (s, .no .noRange)
  | some (.known i) => (s, .ok (feederPairs s.cfg i) [])

end Sys2Proof.Machine
end

