-- ==== Sys2Proof/Machine/Site.lean ====
section
/-! DEFINITION. The site supervisor (chapter 09): phases, the quiet watch, the discrete inputs and the site
requests. -/

namespace Sys2Proof.Machine

def State.onSite (s : State) (f : Site → Site) : State := { s with site := f s.site }

/-! ## Phases (R177, R178, R180, R181) -/

/-- A change of the site phase: an entry into AUTONOMOUS goes to the test sequencer, the change to the share engine
as a reshare event; then the PHASE notice and the summary's phase. -/
def changePhase (s : State) (new : SitePhase) (forced : Bool) (cause : String) : State :=
  let old := s.site.phase
  let s := s.onSite fun x => { x with phase := new, forced := forced }
  let s := if new = .autonomous then testAutonomous s else s
  let s := shareInput s fun h => { h with phase := new }
  let s := noticeBoth s .site ["PHASE"]
    [kv "phase" (.word new.word), kv "former" (.word old.word), kv "cause" (.word cause),
     kv "forced" (.mark forced)]
  syncSummary siteOwned s

/-! ## The quiet watch (R179) -/

def mainQuiet (s : State) : Bool := s.cfg.quiet != 0 && decide (s.cfg.quiet * 1000 ≤ s.site.quietMs)

def quietSeconds (s : State) : Nat := s.site.quietMs / 1000

/-- The half point of the quiet period in s. -/
def halfPoint (s : State) : Nat := s.cfg.quiet / 2

def halfDue (s : State) : Bool :=
  decide (2 ≤ s.cfg.quiet) && decide (halfPoint s * 1000 ≤ s.site.quietMs) && !s.site.halfSent

def expiryDue (s : State) : Bool := mainQuiet s && !s.site.expired

/-- Point 1 of R179. -/
def quietHalf (s : State) : State :=
  if halfDue s then
    noticeBoth (s.onSite fun x => { x with halfSent := true }) .site ["QUIET", "HALF"]
      [kv "count" (.nat (quietSeconds s)), kv "period" (.nat s.cfg.quiet)]
  else s

/-- Point 2 of R179; in LIVE, entry into AUTONOMOUS (R180). -/
def quietExpire (s : State) : State :=
  if expiryDue s then
    let live := decide (s.site.phase = .live)
    let t := noticeBoth (s.onSite fun x => { x with expired := true }) .site ["QUIET", "EXPIRED"]
      [kv "count" (.nat (quietSeconds s)),
       kv "phase" (.word (if live then SitePhase.autonomous else s.site.phase).word)]
    if live then changePhase t .autonomous s.site.forced "QUIET" else t
  else s

def quietCheck (s : State) : State := quietExpire (quietHalf s)

/-- The count stands at or above a point of `n` seconds. -/
def raiseQuiet (s : State) (n : Nat) : State := s.onSite fun x => { x with quietMs := max x.quietMs (n * 1000) }

/-- The count reaches the half point. -/
def quietHalfReached (s : State) : State := if s.cfg.quiet < 2 then s else quietHalf (raiseQuiet s (halfPoint s))

/-- The count reaches the period. -/
def quietPeriodReached (s : State) : State := if s.cfg.quiet = 0 then s else quietCheck (raiseQuiet s s.cfg.quiet)

/-- A line event of the main port (R179, R181). -/
def lineEvent (s : State) : State :=
  let s := s.onSite fun x => { x with quietMs := 0, halfSent := false, expired := false }
  if s.site.phase = .autonomous then changePhase s .live s.site.forced "RETURN" else s

/-! ## Discrete inputs (R174) -/

/-- R197: a fall of a port's level to OPEN. -/
def dropAccess (s : State) (p : Port) : State := s.onPort p fun x => { x with access := .opened }

/-- SVC_CONNECT deasserts: the service port falls to OPEN, its alignment is released, its bus hold expires. -/
def serviceGone (s : State) : State :=
  holdDrop (releaseAlign (dropAccess s .service) .service "DISCONNECT") .service .disconnect

def State.setInput (s : State) (i : InputPin) (x : Input) : State :=
  s.onSite fun y => { y with inputs := y.inputs.put i x }

/-- A filtered change of an input other than RESET_N is taken: the level, then its parties. -/
def takeChange (s : State) (i : InputPin) (level : Bool) : State :=
  if (s.site.inputs.get i).filtered = level then s
  else
    let s := s.setInput i { pin := level, filtered := level, change := none }
    match i with
    | .resetN => s
    | .mastMoving => if level then testMast (levelMast s true) else levelMast s false
    | .oduLock => linkLock s level
    | .svcConnect => if level then s else serviceGone s

/-! ## Requests of the site supervisor -/

/-- R177. -/
def handleGoLive (s : State) (p : Port) (force : Bool) : State × Reply :=
  let claimed : Bool := match s.tests.current with
    | none => false
    | some r => s.link.claim == some r.number
  if force && !atSite s p then (s, .no .noLevel)
  else if s.site.phase ≠ .staging then (s, .no .noState)
  else if claimed then (s, .no .noBusy)
  else if s.link.state ≠ .up ∨ s.timing.grade = .oscFail then (s, .no .noState)
  else if !force && !maskMet s then (s, .no .noPhase)
  else
    let new := if mainQuiet s then SitePhase.autonomous else .live
    let cause := if mainQuiet s then "QUIET" else if force then "FORCE" else "GO_LIVE"
    (changePhase s new force cause, .ok [kv "phase" (.word new.word), kv "forced" (.mark force)] [])

/-- R178. -/
def handleStage (s : State) : State × Reply :=
  (if s.site.phase = .staging then s else changePhase s .staging false "STAGE",
   .ok [kv "phase" (.word SitePhase.staging.word)] [])

/-- R182. -/
def handleQuietSet (s : State) (period : Option Int) : State × Reply :=
  if period.isNone || !inRange 0 255 period then (s, .no .noRange)
  else
    let t := quietCheck (s.settings fun cfg => { cfg with quiet := natOr 0 period })
    (t, .ok [kv "period" (.nat t.cfg.quiet), kv "count" (.nat (quietSeconds t))] [])

/-- R183. The lines that go out before the restart are noted when the reply has been offered. -/
def handleRestart (s : State) (p : Port) : State × Reply :=
  if s.site.restart.isSome then (s, .no .noBusy)
  else (s.onSite fun x => { x with restart := some { port := p, lines := 0 } }, .ok [] [])

def filterOk : Option Int → Bool
  | none => false
  | some i => i == 0 || i == 1 || i == 10 || i == 100

def levelWord (b : Bool) : String := if b then "HIGH" else "LOW"

def changePairs (o : Option (Bool × Nat)) : List Pair :=
  [kv "change" (.optWord (o.map fun c => levelWord c.1)), kv "held" (.optNat (o.map (·.2)))]

/-- R176. DESIGN CHOICE (log 6): the reply begins with name=, the input that it is of, and gives a change under test
with its held time, as INPUT READ does. -/
def handleInputSet (s : State) (n : Option (Named InputPin)) (f : Option Int) : State × Reply :=
  match nameOf n with
  | none => (s, .no .noRange)
  | some i =>
    if !filterOk f then (s, .no .noRange)
    else
      let t := s.settings fun cfg => { cfg with filters := cfg.filters.put i (natOr 0 f) }
      let x := t.site.inputs.get i
      (t, .ok ([kv "name" (.word (InputPin.word i)), kv "filter" (.nat (t.cfg.filters.get i)),
                kv "level" (.word (levelWord x.filtered))] ++ changePairs x.change) [])

def inputPairs (s : State) (i : InputPin) : List Pair :=
  let x := s.site.inputs.get i
  [kv "name" (.word (InputPin.word i)), kv "filter" (.nat (s.cfg.filters.get i)),
   kv "level" (.word (levelWord x.filtered)), kv "pin" (.word (levelWord x.pin))] ++ changePairs x.change

/-- R176. -/
def handleInputRead (s : State) : State × Reply := (s, .ok [] (allPins.map (inputPairs s)))

/-- An input's part of a key (log 6). -/
def pinKey : InputPin → String
  | .resetN => "reset_n" | .mastMoving => "mast_moving" | .oduLock => "odu_lock" | .svcConnect => "svc_connect"

/-- R184. -/
def handleSiteRead (s : State) : State × Reply :=
  let x := s.site
  (s, .ok ([kv "phase" (.word x.phase.word), kv "forced" (.mark x.forced), kv "period" (.nat s.cfg.quiet),
            kv "count" (.nat (quietSeconds s)), kv "half" (.mark x.halfSent), kv "expired" (.mark x.expired),
            kv "quiet" (.onOff (mainQuiet s))]
        ++ allPins.flatMap (fun i =>
             [kv ("filter_" ++ pinKey i) (.nat (s.cfg.filters.get i)),
              kv ("level_" ++ pinKey i) (.word (levelWord (x.inputs.get i).filtered))])
        ++ [kv "cause" (.word x.cause.word), kv "restart" (.optWord (x.restart.map fun r => Port.word r.port)),
            kv "blank" (.mark s.store.blank)]) [])

end Sys2Proof.Machine
end

