-- ==== Sys2Proof/Machine/Access.lean ====
section
/-! DEFINITION. The requests that the ports own (chapter 10): access, credentials, check mode, notice mask, summary and
counters. -/

namespace Sys2Proof.Machine

def State.onPortSettings (s : State) (p : Port) (f : PortSettings → PortSettings) : State :=
  s.settings fun cfg => { cfg with ports := cfg.ports.put p (f (cfg.ports.get p)) }

/-! ## Check mode, mask and summary (R192, R193, R195) -/

/-- R192. -/
def handleCheckSet (s : State) (p : Port) (m : Option (Named CheckMode)) : State × Reply :=
  match nameOf m with
  | none => (s, .no .noRange)
  | some m =>
    (s.onPortSettings p fun g => { g with check := m }, .ok [kv "mode" (.word (CheckMode.word m))] [])

/-- R193. -/
def handleNoticeSet (s : State) (p : Port) (l : Option (List (Named NoticeClass))) : State × Reply :=
  match l.bind namesOf with
  | none => (s, .no .noRange)
  | some l =>
    let m := asSet allClasses l
    (s.onPortSettings p fun g => { g with mask := m }, .ok [kv "classes" (.words (m.map NoticeClass.word))] [])

/-- R195, way 1: the flags are cleared when the reply is made. -/
def handleSummary (s : State) (p : Port) : State × Reply :=
  (restartSummaryTimers (s.onPort p fun x => { x with summary := x.summary.cleared }) p,
   .ok (s.port p).summary.pairs [])

/-- A new interval restarts the interval timer or stops it; change mode OFF clears the pending mark (R195). -/
def applySummary (s : State) (p : Port) (interval : Option Nat) (change : Option Bool) : State :=
  let s := match interval with
    | none => s
    | some n =>
      (s.onPortSettings p fun g => { g with interval := n }).onPort p fun x =>
        { x with intervalTimer := secondsTimer n }
  match change with
  | none => s
  | some b =>
    (s.onPortSettings p fun g => { g with change := b }).onPort p fun x =>
      { x with changePending := x.changePending && b }

/-- R195. -/
def handleSummarySet (s : State) (p : Port) (interval : Option Int) (change : Option (Named Bool)) : State × Reply :=
  if (interval.isNone && change.isNone) || !inRange 0 60 interval || !nameOk change then (s, .no .noRange)
  else
    let t := applySummary s p (interval.map Int.toNat) (nameOf change)
    let g := t.cfg.ports.get p
    (t, .ok [kv "interval" (.nat g.interval), kv "change" (.onOff g.change)] [])

/-- R195, way 2. -/
def intervalExpired (s : State) (p : Port) : State :=
  if (s.port p).intervalTimer.isSome then sendSummary s p else s

/-- R195, way 3. -/
def spacingExpired (s : State) (p : Port) : State :=
  if (s.port p).spacingTimer.isSome then
    let t := s.onPort p fun x => { x with spacingTimer := none, changePending := false }
    if (s.port p).changePending then sendSummary t p else t
  else s

/-! ## Unlocking and credentials (R196 to R199) -/

/-- The level that UNLOCK and CRED SET name: none for SITE, the tenant otherwise; no answer when a field fails. -/
def namedLevel (a : CredArgs) : Option (Option (Fin 4)) :=
  match nameOf a.level, a.tenant with
  | some .site, none => some none
  | some .tenant, some t => (indexOf 4 (some t)).map some
  | _, _ => none

/-- A credential of 8 characters in form, or NONE as `some none`; no answer when it fails (R196). -/
def namedCred : Option Cred → Option (Option (List Char))
  | some .absent => some none
  | some (.text k) => if k.length = 8 ∧ k.all credChar then some (some k) else none
  | none => none

def credHeld (cfg : Settings) : Option (Fin 4) → Option (List Char)
  | none => cfg.siteCred
  | some t => (cfg.tenants.get t).cred

/-- R196: whether a credential matches. Without a SITE credential any one matches from the connected service port. -/
def credMatches (s : State) (p : Port) (who : Option (Fin 4)) (k : List Char) : Bool :=
  match credHeld s.cfg who, who with
  | some c, _ => c == k
  | none, none => p == .service && s.site.inputs.svcConnect.filtered
  | none, some _ => false

def levelOf : Option (Fin 4) → AccessLevel
  | none => .site
  | some t => .tenant t

def levelPairs (l : AccessLevel) : List Pair :=
  match l with
  | .opened => [kv "level" (.word "OPEN")]
  | .tenant t => [kv "level" (.word "TENANT"), kv "tenant" (.nat t.val)]
  | .site => [kv "level" (.word "SITE")]

/-- The mismatch of R196. -/
def unlockFailed (s : State) (p : Port) : State × Reply :=
  let n := (s.port p).mismatches + 1
  let s := s.counting fun c => { c with unlockFails := bump c.unlockFails }
  if 3 ≤ n then (s.onPort p fun x => { x with mismatches := 3, lockout := some 30000 }, .no .noWait)
  else (s.onPort p fun x => { x with mismatches := n }, .no .noLevel)

/-- R196. -/
def handleUnlock (s : State) (p : Port) (a : CredArgs) : State × Reply :=
  match namedLevel a, namedCred a.cred with
  | some who, some (some k) =>
    if (s.port p).lockout.isSome then (s, .no .noWait)
    else if credMatches s p who k then
      let fell := atSite s p && who.isSome
      let t := s.onPort p fun x => { x with access := levelOf who, mismatches := 0 }
      (if fell then levelAccessDrop t p else t, .ok (levelPairs (levelOf who)) [])
    else unlockFailed s p
  | _, _ => (s, .no .noRange)

/-- R196: the lockout ends. -/
def lockoutExpired (s : State) (p : Port) : State :=
  if (s.port p).lockout.isSome then s.onPort p fun x => { x with lockout := none, mismatches := 0 } else s

/-- R197, R52. -/
def handleLock (s : State) (p : Port) : State × Reply :=
  (holdDrop (levelAccessDrop (dropAccess s p) p) p .lock, .ok (levelPairs .opened) [])

/-- R198. -/
def handleCredSet (s : State) (a : CredArgs) : State × Reply :=
  match namedLevel a, namedCred a.cred with
  | some who, some k =>
    let t := s.settings fun cfg =>
      match who with
      | none => { cfg with siteCred := k }
      | some t => { cfg with tenants := cfg.tenants.set t { cfg.tenants.get t with cred := k } }
    (t, .ok (levelPairs (levelOf who) ++ [kv "cred" (.word (if k.isSome then "SET" else "NONE"))]) [])
  | _, _ => (s, .no .noRange)

/-- R199: the level monitor takes an access-drop event for a port that no longer meets the ALIGN minimum. -/
def alignMinimumChanged (s : State) : State := levelAccessDrop (levelAccessDrop s .main) .service

/-- R199. -/
def handleAccessSet (s : State) (g : Option (Named Group)) (l : Option (Named MinLevel)) : State × Reply :=
  match nameOf g, nameOf l with
  | some g, some l =>
    let t := s.settings fun cfg => { cfg with minima := cfg.minima.put g l }
    (if g = .align then alignMinimumChanged t else t,
     .ok [kv "group" (.word (Group.word g)), kv "level" (.word (MinLevel.word l))] [])
  | _, _ => (s, .no .noRange)

/-! ## Counters (R200, section 11.3) -/

/-- One counter of a name: plain, of a source, or of a port. -/
inductive Selected where
  | plain (get : Nat)
  | source (v : PerSource Nat)
  | port (v : PerPort Nat)
  deriving DecidableEq, Repr

def Counters.select (c : Counters) : CounterName → Selected
  | .levelClamps => .plain c.levelClamps
  | .rangeSwitches => .plain c.rangeSwitches
  | .linkFades => .plain c.linkFades
  | .linkLosses => .plain c.linkLosses
  | .profileUp => .plain c.profileUp
  | .profileDown => .plain c.profileDown
  | .oduFaults => .plain c.oduFaults
  | .busOk => .plain c.busOk
  | .busNak => .plain c.busNak
  | .busArb => .plain c.busArb
  | .busTimeout => .plain c.busTimeout
  | .busHoldExpired => .plain c.busHoldExpired
  | .oscFails => .plain c.oscFails
  | .jumps => .plain c.jumps
  | .srcEarly => .source c.srcEarly
  | .srcGood => .source c.srcGood
  | .srcBad => .source c.srcBad
  | .srcMissing => .source c.srcMissing
  | .srcIgnored => .source c.srcIgnored
  | .sheds => .plain c.sheds
  | .reshares => .plain c.reshares
  | .testsRun => .plain c.testsRun
  | .testsPassed => .plain c.testsPassed
  | .testsFailed => .plain c.testsFailed
  | .logDrops => .plain c.logDrops
  | .drops => .port c.drops
  | .noticeDrops => .port c.noticeDrops
  | .unlockFails => .plain c.unlockFails

/-- The counter of a name put to what `f` and `g` make of the count of each index. -/
def Counters.clearing (c : Counters) (n : CounterName) (f : Source → Nat → Nat) (g : Port → Nat → Nat) : Counters :=
  let src (v : PerSource Nat) : PerSource Nat :=
    { gnss := f .gnss v.gnss, link := f .link v.link, aux := f .aux v.aux }
  let prt (v : PerPort Nat) : PerPort Nat := { main := g .main v.main, service := g .service v.service }
  match n with
  | .levelClamps => { c with levelClamps := 0 }
  | .rangeSwitches => { c with rangeSwitches := 0 }
  | .linkFades => { c with linkFades := 0 }
  | .linkLosses => { c with linkLosses := 0 }
  | .profileUp => { c with profileUp := 0 }
  | .profileDown => { c with profileDown := 0 }
  | .oduFaults => { c with oduFaults := 0 }
  | .busOk => { c with busOk := 0 }
  | .busNak => { c with busNak := 0 }
  | .busArb => { c with busArb := 0 }
  | .busTimeout => { c with busTimeout := 0 }
  | .busHoldExpired => { c with busHoldExpired := 0 }
  | .oscFails => { c with oscFails := 0 }
  | .jumps => { c with jumps := 0 }
  | .srcEarly => { c with srcEarly := src c.srcEarly }
  | .srcGood => { c with srcGood := src c.srcGood }
  | .srcBad => { c with srcBad := src c.srcBad }
  | .srcMissing => { c with srcMissing := src c.srcMissing }
  | .srcIgnored => { c with srcIgnored := src c.srcIgnored }
  | .sheds => { c with sheds := 0 }
  | .reshares => { c with reshares := 0 }
  | .testsRun => { c with testsRun := 0 }
  | .testsPassed => { c with testsPassed := 0 }
  | .testsFailed => { c with testsFailed := 0 }
  | .logDrops => { c with logDrops := 0 }
  | .drops => { c with drops := prt c.drops }
  | .noticeDrops => { c with noticeDrops := prt c.noticeDrops }
  | .unlockFails => { c with unlockFails := 0 }

/-- An index of a source counter. -/
def sourceIndex : IndexArg → Option Source
  | .num i => (indexOf 3 (some i)).map sourceAt
  | _ => none

def portIndex : IndexArg → Option Port
  | .port p => some p
  | _ => none

def counterReply (n : CounterName) (i : Val) (v : List Pair) : Reply :=
  .ok ([kv "name" (.word (CounterName.word n)), kv "index" i] ++ v) []

/-- COUNT READ (R200). -/
def handleCountRead (s : State) (n : Option (Named CounterName)) (i : Option IndexArg) : State × Reply :=
  match nameOf n with
  | none => (s, .no .noRange)
  | some n =>
    match s.counts.select n, i with
    | .plain v, none => (s, counterReply n .absent [kv "value" (.nat v)])
    | .source v, some x =>
      match sourceIndex x with
      | none => (s, .no .noRange)
      | some j => (s, counterReply n (.nat (Source.index j)) [kv "value" (.nat (v.get j))])
    | .port v, some x =>
      match portIndex x with
      | none => (s, .no .noRange)
      | some p => (s, counterReply n (.word (Port.word p)) [kv "value" (.nat (v.get p))])
    | _, _ => (s, .no .noRange)

def clearedReply (n : CounterName) (i : Val) : Reply := counterReply n i []

/-- COUNT CLEAR (R200). -/
def handleCountClear (s : State) (n : Option (Named CounterName)) (i : Option IndexArg) : State × Reply :=
  match n, i with
  | none, none => (s.counting fun _ => .zero, .ok [kv "name" (.word "ALL")] [])
  | none, some _ => (s, .no .noRange)
  | some .other, _ => (s, .no .noRange)
  | some (.known n), none =>
    (s.counting fun c => c.clearing n (fun _ _ => 0) (fun _ _ => 0), clearedReply n .absent)
  | some (.known n), some x =>
    match s.counts.select n, sourceIndex x, portIndex x with
    | .source _, some j, _ =>
      (s.counting fun c => c.clearing n (fun k v => if k = j then 0 else v) (fun _ v => v),
       clearedReply n (.nat (Source.index j)))
    | .port _, _, some p =>
      (s.counting fun c => c.clearing n (fun _ v => v) (fun k v => if k = p then 0 else v),
       clearedReply n (.word (Port.word p)))
    | _, _, _ => (s, .no .noRange)

end Sys2Proof.Machine
end

