-- ==== Sys2Proof/Machine/Store.lean ====
section
/-! DEFINITION. The settings store (section 11.5): SAVE and its end, LOAD, and STORE READ. -/

namespace Sys2Proof.Machine

def State.onStore (s : State) (f : Store → Store) : State := { s with store := f s.store }

/-! ## Writing the image (R204) -/

/-- R204: the snapshot holds every stored setting as it stands when the request is taken. -/
def handleSave (s : State) (p : Port) (tag : Tag) : State × Reply :=
  if s.store.writing.isSome then (s, .no .noBusy)
  else
    let r := if s.store.image.good then countOn s 1 s.store.image.number else (s, 1)
    (r.1.onStore fun x => { x with writing := some { settings := s.cfg, number := r.2, port := p, tag := tag } }, .go)

/-- R204: the write ends with the image read back; its check agrees or fails. -/
def saveWriteEnd (s : State) (good : Bool) : State :=
  match s.store.writing with
  | none => s
  | some w =>
    let s := s.onStore fun _ =>
      { image := { settings := w.settings, number := w.number, good := good }, blank := !good, writing := none }
    if good then
      noticeOwner s w.port .site ["SAVED"] [kv "tag" (.tag w.tag), kv "number" (.nat w.number)]
    else noticeOwner s w.port .site ["SAVE", "FAILED"] [kv "tag" (.tag w.tag)]

/-- A reset or a loss of supply during WRITING abandons the write: the image is left with a failed check (R203). -/
def Store.abandon (x : Store) : Store :=
  match x.writing with
  | none => x
  | some _ => { x with image := { x.image with good := false }, writing := none }

/-! ## Applying an image (R205) -/

def loadLink (s : State) (img : Settings) : State :=
  let t := s.settings fun cfg => { cfg with link := img.link, profiles := img.profiles, templates := img.templates }
  if img.link.reserve = s.cfg.link.reserve then t
  else shareInput t fun h => { h with reserve := img.link.reserve }

/-- R104, R205: the timing settings, as one SOURCE SET for each source, one TIMING SET and one PULSE SET. DESIGN CHOICE
(log 31): neither rule orders the three SOURCE SETs. They come in the order GNSS, LINK, AUX, each evaluating the
selection at once, so that a source which a later one disables may be selected, and announced, in between. -/
def loadTiming (s : State) (img : Settings) : State :=
  let s := applySource s .gnss img.sources.gnss
  let s := applySource s .link img.sources.link
  let s := applySource s .aux img.sources.aux
  applyPulse (s.settings fun cfg => { cfg with timing := img.timing }) img.pulse img.auxDiv

def loadSite (s : State) (img : Settings) : State :=
  quietCheck (s.settings fun cfg =>
    { cfg with acceptMask := img.acceptMask, feeders := img.feeders, quiet := img.quiet, filters := img.filters })

def loadPort (s : State) (img : Settings) (p : Port) : State :=
  let g := img.ports.get p
  let s := s.onPortSettings p fun x => { x with check := g.check, mask := g.mask }
  applySummary s p (some g.interval) (some g.change)

/-- The minima and the credentials; a raised minimum acts as R199 states. The tenants' credentials came with the
tenant records. -/
def loadAccess (s : State) (img : Settings) : State :=
  alignMinimumChanged (s.settings fun cfg => { cfg with minima := img.minima, siteCred := img.siteCred })

/-- R205: the image is applied as one request per block would apply it. DESIGN CHOICE (log 29): the ALIGN notice of an
alignment that the image's minima end goes by the image's masks and check modes, in force already. DESIGN CHOICE (log 31):
the blocks follow in the order of R205's list. -/
def applyImage (s : State) (img : Settings) : State :=
  let s := s.settings fun cfg => { cfg with level := img.level }
  let s := loadTiming (loadLink s img) img
  let s := loadSite (loadShare s img) img
  loadAccess (loadPort (loadPort s img .main) img .service) img

/-- R205. A current test is DEFERRED or RUNNING. -/
def handleLoad (s : State) : State × Reply :=
  if s.site.phase ≠ .staging then (s, .no .noPhase)
  else if s.store.writing.isSome || s.tests.current.isSome then (s, .no .noBusy)
  else if !s.store.image.good || s.link.state != .off then (s, .no .noState)
  else
    (applyImage s s.store.image.settings, .ok [kv "number" (.nat s.store.image.number)] [])

/-- R206. -/
def handleStoreRead (s : State) : State × Reply :=
  let x := s.store
  (s, .ok ([kv "check" (.word (if x.image.good then "GOOD" else "FAILED")),
            kv "number" (if x.image.good then .nat x.image.number else .absent), kv "blank" (.mark x.blank),
            kv "write" (.word (if x.writing.isSome then "WRITING" else "IDLE"))]
        ++ (match x.writing with
            | none => []
            | some w => [kv "port" (.word (Port.word w.port)), kv "tag" (.tag w.tag)])) [])

end Sys2Proof.Machine
end

