-- ==== Sys2Proof/Machine/Reset.lean ====
section
/-! DEFINITION. The three resets (R173, R175, R183, R186, R203): power-on, pin reset with its hold, RESTART; and the
loss of supply. -/

namespace Sys2Proof.Machine

/-! ## Parts of a reset -/

/-- At the end of a power-on or pin reset each filtered level is its pin's (R173). -/
def Input.settled (x : Input) : Input := { pin := x.pin, filtered := x.pin, change := none }

def settledInputs (v : PerInput Input) : PerInput Input :=
  { resetN := v.resetN.settled, mastMoving := v.mastMoving.settled, oduLock := v.oduLock.settled
    svcConnect := v.svcConnect.settled }

/-- The ports of a reset, with the summary values of the state that it leaves (R186, R194). -/
def resetPorts (s : State) : State :=
  let v := currentVals s
  { s with ports := { main := .atReset s.cfg.ports.main v, service := .atReset s.cfg.ports.service v } }

/-- The blocks that every reset puts into the same state, with the settings in force: level monitor, link supervisor,
bus controller, test sequencer, site supervisor, share engine, ports and counters (R7, R19, R59, R107, R134, R173,
R186, R200). The share engine reads the timing selector as it stands and will deliver its acknowledgement whatever
value it last delivered (R129). DESIGN CHOICE (log 23): the acknowledgement is clear before the reshare that ends the
reset (R107). -/
def resetBlocks (s : State) (cause : ResetCause) : State :=
  let jump := s.timing.jumpReq.isSome
  resetPorts
    { s with
      run := .running
      level := .atReset s.cfg
      link := .atReset s.site.inputs.oduLock.filtered
      bus := .atReset
      share := .atReset s.cfg s.timing.grade jump false (!jump)
      tests := .atReset
      site := .atReset s.site.inputs cause
      counts := .zero
      signals := [] }

/-- What ends every reset: the engine's reshare (R107), the RESET notice (R173), an asserted MAST_MOVING taken as an
assertion (R7), and the auto-start (R19). -/
def endReset (s : State) : State :=
  let s := reshare s s.share none false
  let s := noticeBoth s .site ["RESET"] [kv "cause" (.word s.site.cause.word)]
  let s := if s.site.inputs.mastMoving.filtered then levelMast s true else s
  if s.cfg.link.autostart then linkStart s "AUTOSTART" else s

/-! ## Power-on and pin reset -/

/-- R203: the store reads the image; its check agrees or fails. -/
def readStore (s : State) : State :=
  { s with
    cfg := if s.store.image.good then s.store.image.settings else .factory
    store := { s.store.abandon with blank := !s.store.image.good } }

/-- The end of a power-on or pin reset (R68, R78, R173, R203). -/
def fullReset (s : State) (cause : ResetCause) : State :=
  let s := readStore { s with store := s.store.abandon }
  let s := s.onSite fun x => { x with inputs := settledInputs x.inputs }
  let s := { s with clock := .atReset s.cfg, timing := .atReset s.cfg, rc := { s.rc with ms := 0 } }
  endReset (resetBlocks s cause)

/-- Every block at rest, without supply or held in reset: nothing sends, nothing is driven (R175, R186).
ALIGN_IND is low under either polarity: R175 does not list it (log 8). -/
def quiesce (s : State) (r : Run) : State :=
  { s with
    run := r
    level := .atReset s.cfg
    link := .atReset false
    bus := .atReset
    clock := .atReset s.cfg
    timing := .atReset s.cfg
    share := .atReset s.cfg .oscFail false false false
    tests := .atReset
    site := .atReset s.site.inputs s.site.cause
    ports := { main := .atReset s.cfg.ports.main .atReset, service := .atReset s.cfg.ports.service .atReset }
    store := s.store.abandon
    signals := [] }

def lowReset (x : PerInput Input) : PerInput Input :=
  { x with resetN := { pin := false, filtered := false, change := none } }

/-- A pin reset begins, and the part is held (R175). -/
def pinReset (s : State) : State :=
  quiesce (s.onSite fun x => { x with inputs := lowReset x.inputs }) .held

/-- The pin reset ends: RESET_N was taken high through its filter (R175). -/
def pinResetEnd (s : State) : State :=
  fullReset (s.onSite fun x =>
    { x with inputs := { x.inputs with resetN := { pin := true, filtered := true, change := none } } }) .pin

/-- Supply is applied. With RESET_N low the part is held, with the factory filter time, until the pin reset ends
(R175). -/
def powerOn (s : State) : State :=
  if s.site.inputs.resetN.pin then fullReset s .power
  else pinReset { s with cfg := .factory, rc := { s.rc with ms := 0 } }

/-! ## RESTART (R183, R203) -/

/-- The timing settings stay in force at a RESTART. -/
def keepTiming (old new : Settings) : Settings :=
  { new with sources := old.sources, timing := old.timing, pulse := old.pulse, auxDiv := old.auxDiv }

/-- The settings that a RESTART takes: the image's, the snapshot's while it is being written, or the factory's. -/
def restartSettings (s : State) : Settings :=
  keepTiming s.cfg
    (match s.store.writing with
     | some w => w.settings
     | none => if s.store.image.good then s.store.image.settings else .factory)

/-- STORE_BLANK follows the reading of the image; a write in progress leaves it. -/
def restartBlank (s : State) : Bool := if s.store.writing.isSome then s.store.blank else !s.store.image.good

/-- The site clock's part: the AUX counter becomes 0 and diversion ends (R68). -/
def restartClock (s : State) : State :=
  let s := if s.clock.divert.isSome then setDiversion s none else s
  s.onClock fun k => { k with auxCount := 0 }

/-- R79: every under-test mark is cleared. -/
def restartTiming (s : State) : State :=
  s.onTiming fun t => { t with sources := t.sources.map fun r => { r with mark := none } }

def restartEffect (s : State) : State :=
  let cfg := restartSettings s
  let blank := restartBlank s
  let s := restartTiming (restartClock { s with cfg := cfg, store := { s.store with blank := blank } })
  let s := endReset (resetBlocks s .restart)
  s.push (.linkToTiming s.link.state)

/-- The restart takes place, if one is pending. -/
def restartTakesPlace (s : State) : State := if s.site.restart.isSome then restartEffect s else s

end Sys2Proof.Machine
end

