-- ==== Sys2Proof/Machine/Deliver.lean ====
section
/-! DEFINITION. The deliveries between blocks that the receiving block takes as events of its own, first in, first out
(log 3). -/

namespace Sys2Proof.Machine

/-- The receiving block takes one delivery. -/
def deliver (s : State) : Signal → State
  | .alignStart => linkAlignStart s
  | .alignEnd => linkAlignEnd s
  | .linkToTiming st => timingLink s st
  | .linkToTests st => testLinkState s st
  | .busChoose => choose s
  | .completeLink t => linkCompleted s t
  | .completeTest t => testCompleted s t
  | .slotFreeLink => linkSlotFree s
  | .slotFreeTest => testSlotFree s
  | .borrowGranted n => testGranted s n
  | .borrowDeferred n => testDeferred s n
  | .borrowRevoked n => testRevoked s n
  | .takeTest => takeTest s
  | .cleanup => cleanup s

/-- Takes the deliveries until none is left, or the bound on their number is reached. -/
def settleFor : Nat → State → State
  | 0, s => s
  | n + 1, s =>
    match s.signals with
    | [] => s
    | g :: l => settleFor n (deliver { s with signals := l } g)

/-- The bound: more deliveries than one command can cause (log 3). -/
def deliveryBound : Nat := 1000

def settle (s : State) : State := settleFor deliveryBound s

/-- A command that acts on the running part: without supply, or held in reset, it has no effect (R175). -/
def live (f : State → State) (s : State) : State :=
  if s.run = .running then settle (f s) else s

end Sys2Proof.Machine
end

