-- ==== Sys2Proof/Machine/Request.lean ====
section
/-! DEFINITION. How a port executes a request (R190): the access check, the owning block's answer and the reply; and
the request that each command stands for. -/

namespace Sys2Proof.Machine

/-- What a request needs of its port (R190, section 10.5). -/
inductive Need where
  | group (g : Group)
  | site
  | siteIn (g : Group)
  | nothing
  deriving DecidableEq, Repr

def Need.met (s : State) (p : Port) : Need → Bool
  | .group g => inGroup s p g
  | .site => atSite s p
  | .siteIn g => inGroup s p g && atSite s p
  | .nothing => true

/-- R190: NO LEVEL when the access falls short, NO RANGE for a key that the request does not take (R201), and
otherwise the owning block's answer. -/
def answer (rq : Req) (n : Need) (h : State → State × Reply) (s : State) : State :=
  if !n.met s rq.port then offerReply s rq.port (.tag rq.tag) (.no .noLevel)
  else if rq.extra then offerReply s rq.port (.tag rq.tag) (.no .noRange)
  else offerReply (h s).1 rq.port (.tag rq.tag) (h s).2

/-! ## The requests -/

/-! ### Level monitor (chapter 01) -/

def serveLevelRead (rq : Req) : State → State := answer rq (.group .view) handleLevelRead

def serveLevelHistory (rq : Req) (start n : Option Int) : State → State :=
  answer rq (.group .view) (fun s => handleLevelHistory s start n)

def serveLevelCal (rq : Req) (a : LevelCalArgs) : State → State :=
  answer rq (.group .linkCfg) (fun s => handleLevelCal s a)

def serveAlignStart (rq : Req) (k : Option Int) : State → State :=
  answer rq (.group .align) (fun s => handleAlignStart s rq.port k)

def serveAlignStop (rq : Req) : State → State := answer rq (.group .align) (fun s => handleAlignStop s rq.port)

def serveAlignMark (rq : Req) : State → State := answer rq (.group .align) (fun s => handleAlignMark s rq.port)

def serveAlignRead (rq : Req) : State → State := answer rq (.group .view) handleAlignRead

def serveIndicatorSet (rq : Req) (a : IndicatorArgs) : State → State :=
  answer rq (.group .linkCfg) (fun s => handleIndicatorSet s a)

/-! ### Link supervisor (chapter 02) -/

def serveLinkStart (rq : Req) : State → State := answer rq (.group .linkCfg) handleLinkStart

def serveLinkStop (rq : Req) : State → State := answer rq (.group .linkCfg) handleLinkStop

def serveProfileSet (rq : Req) (p : Option Int) (a : ProfileArgs) : State → State :=
  answer rq (.group .linkCfg) (fun s => handleProfileSet s p a)

def serveProfileRead (rq : Req) (p : Option Int) : State → State :=
  answer rq (.group .view) (fun s => handleProfileRead s p)

def serveTemplateSet (rq : Req) (name : Option (Named TemplateName)) (a : TemplateArgs) : State → State :=
  answer rq (.group .linkCfg) (fun s => handleTemplateSet s name a)

def serveTemplateRead (rq : Req) (name : Option (Named TemplateName)) : State → State :=
  answer rq (.group .view) (fun s => handleTemplateRead s name)

def serveLinkSet (rq : Req) (a : LinkSetArgs) : State → State :=
  answer rq (.group .linkCfg) (fun s => handleLinkSet s a)

def serveLinkRead (rq : Req) : State → State := answer rq (.group .view) handleLinkRead

/-! ### ODU bus controller (chapter 03) -/

def serveBusXfer (rq : Req) (a : XferArgs) : State → State :=
  answer rq (.group .bus) (fun s => handleBusXfer s rq.port rq.tag a)

def serveBusResult (rq : Req) (t : Option Int) : State → State :=
  answer rq (.group .bus) (fun s => handleBusResult s rq.port t)

def serveBusRead (rq : Req) : State → State := answer rq (.group .view) handleBusRead

/-! ### Site clock and timing selector (chapters 04 and 05) -/

def servePulseSet (rq : Req) (a : PulseArgs) : State → State :=
  answer rq (.group .timingCfg) (fun s => handlePulseSet s a)

def serveTimeRead (rq : Req) : State → State := answer rq (.group .view) handleTimeRead

def serveCaptureRead (rq : Req) (i : Option Int) : State → State :=
  answer rq (.group .view) (fun s => handleCaptureRead s i)

def serveSourceSet (rq : Req) (i : Option Int) (a : SourceArgs) : State → State :=
  answer rq (.group .timingCfg) (fun s => handleSourceSet s i a)

def serveTimingSet (rq : Req) (a : TimingArgs) : State → State :=
  answer rq (.group .timingCfg) (fun s => handleTimingSet s a)

def serveSourceRead (rq : Req) (i : Option Int) : State → State :=
  answer rq (.group .view) (fun s => handleSourceRead s i)

def serveTimingRead (rq : Req) : State → State := answer rq (.group .view) handleTimingRead

/-! ### Share engine (chapter 06) -/

def serveTenantSet (rq : Req) (t : Option Int) (a : TenantArgs) : State → State :=
  answer rq (.group .tenantCfg) (fun s => handleTenantSet s t a)

def serveTenantRead (rq : Req) (t : Option Int) : State → State :=
  answer rq (.group .carrier) (fun s => handleTenantRead s rq.port t)

def serveCarrierDefine (rq : Req) (c : Option Int) (a : CarrierArgs) : State → State :=
  answer rq (.group .tenantCfg) (fun s => handleCarrierDefine s c a)

def serveCarrierRequest (rq : Req) (c demand : Option Int) : State → State :=
  answer rq (.group .carrier) (fun s => handleCarrierRequest s rq.port c demand)

def serveCarrierRelease (rq : Req) (c : Option Int) : State → State :=
  answer rq (.group .carrier) (fun s => handleCarrierRelease s rq.port c)

def serveCarrierHold (rq : Req) (c ms : Option Int) : State → State :=
  answer rq (.group .carrier) (fun s => handleCarrierHold s rq.port c ms)

def serveCarrierRead (rq : Req) (c : Option Int) : State → State :=
  answer rq (.group .view) (fun s => handleCarrierRead s c)

def serveShareSet (rq : Req) (borrow restore : Option Int) : State → State :=
  answer rq (.group .tenantCfg) (fun s => handleShareSet s borrow restore)

def serveShareRead (rq : Req) : State → State := answer rq (.group .view) handleShareRead

/-! ### Test sequencer (chapters 07 and 08) -/

def serveTestAdd (rq : Req) (kind : Option (Named TestKind)) (a : TestArgs) : State → State :=
  answer rq (.group .test) (fun s => handleTestAdd s rq.port kind a)

def serveTestCancel (rq : Req) (n : Option Int) : State → State :=
  answer rq (.group .test) (fun s => handleTestCancel s rq.port n)

def serveTestRead (rq : Req) (n : Option Int) : State → State := answer rq (.group .view) (fun s => handleTestRead s n)

def serveResultRead (rq : Req) (n : Option Int) : State → State :=
  answer rq (.group .view) (fun s => handleResultRead s n)

def serveAcceptSet (rq : Req) (mask : Option (List (Named TestKind))) : State → State :=
  answer rq (.group .sitePhase) (fun s => handleAcceptSet s mask)

def serveAcceptRead (rq : Req) : State → State := answer rq (.group .view) handleAcceptRead

def serveFeederSet (rq : Req) (f : Option (Named FeederLine)) (a : FeederArgs) : State → State :=
  answer rq (.group .sitePhase) (fun s => handleFeederSet s f a)

def serveFeederRead (rq : Req) (f : Option (Named FeederLine)) : State → State :=
  answer rq (.group .view) (fun s => handleFeederRead s f)

/-! ### Site supervisor (chapter 09) -/

def serveInputSet (rq : Req) (name : Option (Named InputPin)) (filter : Option Int) : State → State :=
  answer rq (.group .sitePhase) (fun s => handleInputSet s name filter)

def serveInputRead (rq : Req) : State → State := answer rq (.group .view) handleInputRead

def serveGoLive (rq : Req) (force : Bool) : State → State :=
  answer rq (if force then .siteIn .sitePhase else .group .sitePhase) (fun s => handleGoLive s rq.port force)

def serveStage (rq : Req) : State → State := answer rq (.group .sitePhase) handleStage

def serveQuietSet (rq : Req) (period : Option Int) : State → State :=
  answer rq (.group .sitePhase) (fun s => handleQuietSet s period)

def serveSiteRead (rq : Req) : State → State := answer rq (.group .view) handleSiteRead

/-! ### Ports (chapter 10) -/

def serveCheckSet (rq : Req) (mode : Option (Named CheckMode)) : State → State :=
  answer rq (.group .sitePhase) (fun s => handleCheckSet s rq.port mode)

def serveNoticeSet (rq : Req) (classes : Option (List (Named NoticeClass))) : State → State :=
  answer rq (.group .view) (fun s => handleNoticeSet s rq.port classes)

def serveSummary (rq : Req) : State → State := answer rq (.group .view) (fun s => handleSummary s rq.port)

def serveSummarySet (rq : Req) (interval : Option Int) (change : Option (Named Bool)) : State → State :=
  answer rq (.group .view) (fun s => handleSummarySet s rq.port interval change)

def serveUnlock (rq : Req) (a : CredArgs) : State → State := answer rq .nothing (fun s => handleUnlock s rq.port a)

def serveLock (rq : Req) : State → State := answer rq .nothing (fun s => handleLock s rq.port)

def serveCredSet (rq : Req) (a : CredArgs) : State → State := answer rq .site (fun s => handleCredSet s a)

def serveAccessSet (rq : Req) (g : Option (Named Group)) (l : Option (Named MinLevel)) : State → State :=
  answer rq .site (fun s => handleAccessSet s g l)

def serveCountRead (rq : Req) (name : Option (Named CounterName)) (index : Option IndexArg) : State → State :=
  answer rq (.group .view) (fun s => handleCountRead s name index)

def serveCountClear (rq : Req) (name : Option (Named CounterName)) (index : Option IndexArg) : State → State :=
  answer rq .site (fun s => handleCountClear s name index)

/-! ### Settings store (chapter 11) -/

def serveSave (rq : Req) : State → State := answer rq (.group .store) (fun s => handleSave s rq.port rq.tag)

def serveLoad (rq : Req) : State → State := answer rq (.group .store) handleLoad

def serveStoreRead (rq : Req) : State → State := answer rq (.group .store) handleStoreRead
/-- R183: an accepted RESTART takes place when the lines now in the port's queue, its reply the last, have been
sent. -/
def noteRestart (s t : State) (p : Port) : State :=
  if s.site.restart.isNone && t.site.restart.isSome then
    t.onSite fun x => { x with restart := some { port := p, lines := (t.port p).txq.length + (t.port p).waiting.length } }
  else t

def serveRestart (rq : Req) (s : State) : State :=
  noteRestart s (answer rq (.siteIn .sitePhase) (fun s => handleRestart s rq.port) s) rq.port

end Sys2Proof.Machine
end

