-- ==== Sys2Proof/Machine/Ports.lean ====
section
/-! DEFINITION. The ports' lines (section 10.2): assembly, the receive queue, the taking of a line, the sending of the
transmit queue, and the ready outputs. -/

namespace Sys2Proof.Machine

/-! ## Taking a line for execution (R188 to R190) -/

/-- A port takes a line when no reply of its waits and it has no RESTART pending (R183, R188). -/
def canTake (s : State) (p : Port) : Bool :=
  (s.port p).waiting.isEmpty && !(s.site.restart.any fun r => r.port == p)

/-- A well-formed main-port line with a good check is a line event, taken before its request (R181, R189). -/
def portLine (s : State) : Port → State
  | .main => settle (lineEvent s)
  | .service => s

/-- The effect of a request, the events it causes between blocks included. -/
def serve (i : Instr) (s : State) : State :=
  match i with
  | .levelRead rq => serveLevelRead rq s
  | .levelHistory rq start n => serveLevelHistory rq start n s
  | .levelCal rq a => serveLevelCal rq a s
  | .alignStart rq k => serveAlignStart rq k s
  | .alignStop rq => serveAlignStop rq s
  | .alignMark rq => serveAlignMark rq s
  | .alignRead rq => serveAlignRead rq s
  | .indicatorSet rq a => serveIndicatorSet rq a s
  | .linkStart rq => serveLinkStart rq s
  | .linkStop rq => serveLinkStop rq s
  | .profileSet rq p a => serveProfileSet rq p a s
  | .profileRead rq p => serveProfileRead rq p s
  | .templateSet rq name a => serveTemplateSet rq name a s
  | .templateRead rq name => serveTemplateRead rq name s
  | .linkSet rq a => serveLinkSet rq a s
  | .linkRead rq => serveLinkRead rq s
  | .busXfer rq a => serveBusXfer rq a s
  | .busResult rq t => serveBusResult rq t s
  | .busRead rq => serveBusRead rq s
  | .pulseSet rq a => servePulseSet rq a s
  | .timeRead rq => serveTimeRead rq s
  | .captureRead rq i => serveCaptureRead rq i s
  | .sourceSet rq i a => serveSourceSet rq i a s
  | .timingSet rq a => serveTimingSet rq a s
  | .sourceRead rq i => serveSourceRead rq i s
  | .timingRead rq => serveTimingRead rq s
  | .tenantSet rq t a => serveTenantSet rq t a s
  | .tenantRead rq t => serveTenantRead rq t s
  | .carrierDefine rq c a => serveCarrierDefine rq c a s
  | .carrierRequest rq c demand => serveCarrierRequest rq c demand s
  | .carrierRelease rq c => serveCarrierRelease rq c s
  | .carrierHold rq c ms => serveCarrierHold rq c ms s
  | .carrierRead rq c => serveCarrierRead rq c s
  | .shareSet rq borrow restore => serveShareSet rq borrow restore s
  | .shareRead rq => serveShareRead rq s
  | .testAdd rq kind a => serveTestAdd rq kind a s
  | .testCancel rq n => serveTestCancel rq n s
  | .testRead rq n => serveTestRead rq n s
  | .resultRead rq n => serveResultRead rq n s
  | .acceptSet rq mask => serveAcceptSet rq mask s
  | .acceptRead rq => serveAcceptRead rq s
  | .feederSet rq f a => serveFeederSet rq f a s
  | .feederRead rq f => serveFeederRead rq f s
  | .inputSet rq name filter => serveInputSet rq name filter s
  | .inputRead rq => serveInputRead rq s
  | .goLive rq force => serveGoLive rq force s
  | .stage rq => serveStage rq s
  | .quietSet rq period => serveQuietSet rq period s
  | .siteRead rq => serveSiteRead rq s
  | .checkSet rq mode => serveCheckSet rq mode s
  | .noticeSet rq classes => serveNoticeSet rq classes s
  | .summary rq => serveSummary rq s
  | .summarySet rq interval change => serveSummarySet rq interval change s
  | .unlock rq a => serveUnlock rq a s
  | .lock rq => serveLock rq s
  | .credSet rq a => serveCredSet rq a s
  | .accessSet rq g l => serveAccessSet rq g l s
  | .countRead rq name index => serveCountRead rq name index s
  | .countClear rq name index => serveCountClear rq name index s
  | .save rq => serveSave rq s
  | .load rq => serveLoad rq s
  | .storeRead rq => serveStoreRead rq s
  | .restart rq => serveRestart rq s
  | _ => s

/-- R189: the reply to a line that is no request. A line with an unknown verb is well formed. -/
def answerBad (s : State) (p : Port) : NotRequest → State
  | .noTag => offerReply s p .unread (.no .noSyntax)
  | .overlong t => offerReply s p (.tag t) (.no .noSyntax)
  | .badCheck t => offerReply s p (.tag t) (.no .noCheck)
  | .badGrammar t => offerReply s p (.tag t) (.no .noSyntax)
  | .unknownVerb t => offerReply (portLine s p) p (.tag t) (.no .noUnknown)

def runLine (s : State) (p : Port) (x : RxLine) : State :=
  match judgeLine p (s.cfg.ports.get p).check x with
  | .bad why => settle (answerBad s p why)
  | .request i => settle (serve i (portLine s p))

def rxCapacity : Nat := 4

/-- The port takes waiting lines while it can (R188). -/
def drainFor : Nat → Port → State → State
  | 0, _, s => s
  | n + 1, p, s =>
    if canTake s p then
      match (s.port p).rxq with
      | [] => s
      | x :: l => drainFor n p (runLine (s.onPort p fun y => { y with rxq := l }) p x)
    else s

def drain (s : State) (p : Port) : State := drainFor rxCapacity p s

/-- A request as a command of its own: the port takes a line that spells it (log 5). -/
def requestRow (rq : Req) (f : State → State) (s : State) : State :=
  live (fun s => if canTake s rq.port then f (portLine s rq.port) else s) s

/-- A line that is no request, taken for execution. -/
def lineNotRequest (s : State) (p : Port) (why : NotRequest) : State :=
  if canTake s p then answerBad s p why else s

/-! ## Assembly (R187) -/

def lineCapacity : Nat := 120

/-- A carriage return that no line feed follows marks the line. -/
def Assembly.settleCr (a : Assembly) : Assembly := if a.cr then { a with bad := true, cr := false } else a

/-- One character other than a line feed. Once the line is overlong all others are discarded up to the line end. -/
def Assembly.take (a : Assembly) (c : RxChar) : Assembly :=
  if a.overlong then a
  else
    let a := a.settleCr
    match c with
    | .framingError => { a with bad := true }
    | .code b =>
      if b = 0x0D then { a with cr := true }
      else if 0x20 ≤ b.toNat ∧ b.toNat ≤ 0x7E then
        if a.chars.length < lineCapacity then { a with chars := a.chars ++ [Char.ofNat b.toNat] }
        else { a with overlong := true }
      else { a with bad := true }

/-- The line at its line end; a carriage return directly before it is discarded. -/
def Assembly.line (a : Assembly) : RxLine := { chars := a.chars, overlong := a.overlong, bad := a.bad }

def RxLine.isEmpty (x : RxLine) : Bool := x.chars.isEmpty && !x.overlong && !x.bad

/-- R188: a line that finds the receive queue full is discarded. -/
def dropLine (s : State) (p : Port) (x : RxLine) : State :=
  let s := s.counting fun c => { c with drops := c.drops.put p (bump (c.drops.get p)) }
  noticeMasked (setFlag s p .lineDrop) p .port ["DROP"]
    [kv "tag" (match readTag x.chars with | some (t, _) => .tag t | none => .absent)]

/-- R188: a complete line is appended, or discarded. -/
def receiveLine (s : State) (p : Port) (x : RxLine) : State :=
  if (s.port p).rxq.length < rxCapacity then s.onPort p fun y => { y with rxq := y.rxq ++ [x] }
  else dropLine s p x

/-- The characters and the line end: the line goes to the receive queue, and the port takes it when it can. -/
def lineComplete (s : State) (p : Port) (l : List RxChar) : State :=
  let x := (l.foldl Assembly.take (s.port p).assembly).line
  let s := s.onPort p fun y => { y with assembly := .empty }
  if x.isEmpty then s else drain (receiveLine s p x) p

/-! ## Sending (R191) -/

/-- A line of the port that a pending RESTART waits for has been sent (R183). -/
def restartSent (s : State) (p : Port) : State :=
  s.onSite fun x =>
    { x with restart := x.restart.map fun r => if r.port = p then { r with lines := r.lines - 1 } else r }

/-- The head line has been sent: its entry is free for a waiting reply, and the port may take a line. -/
def lineSent (s : State) (p : Port) : State :=
  match (s.port p).txq with
  | [] => s
  | _ :: l => drain (restartSent (s.onPort p fun x => { x with txq := l }.enter) p) p

/-! ## Outputs -/

/-- What a port's serial output sends next: its head line with its line end, and nothing while the queue is empty or
the part is in reset (R186, R191). -/
def serialOut (s : State) (p : Port) : List Char :=
  match s.run, (s.port p).txq with
  | .running, l :: _ => l.wire
  | _, _ => []

/-- READY_M or READY_S: asserted while fewer than 3 lines wait, and not in reset (R186, R188). -/
def ready (s : State) (p : Port) : Bool := s.run == .running && decide ((s.port p).rxq.length < 3)

/-- The level of SITE_PPS (R68, R73): low in reset. -/
def sitePps (s : State) : Bool :=
  s.run == .running && (s.clock.ppsActive != decide (s.clock.active.polarity = .activeLow))

end Sys2Proof.Machine
end

