-- ==== Sys2Proof/Machine/Events.lean ====
section
/-! DEFINITION. The meanings of the events: one definition for each row. An expiry row asserts that its timer has run
out (log 7); an event that finds nothing to act on has no effect. -/

namespace Sys2Proof.Machine

/-- What a command answers. -/
abbrev Result := Host.Outcome State Fault Refusal

/-! ## Resets and supply -/

/-- R173, R203. -/
def execPowerOnReset (s : State) : Result := .next (settle (powerOn s))

/-- R175: only the running part can begin a pin reset. -/
def execPinReset (s : State) : Result := .next (if s.run = .running then pinReset s else s)

/-- R175: only the hold of a pin reset can end. -/
def execPinResetEnd (s : State) : Result := .next (if s.run = .held then settle (pinResetEnd s) else s)

/-- R183. -/
def execRestartTakesPlace (s : State) : Result := .next (live restartTakesPlace s)

/-- R203: the part stops, and a write in progress is abandoned. -/
def execSupplyLoss (s : State) : Result := .next (quiesce s .off)

/-- R174: the pin takes the level. The filter compares it at the next millisecond tick, which puts a change under test
or cancels one. -/
def inputPinChange (s : State) (i : InputPin) (level : Bool) : State :=
  s.setInput i { s.site.inputs.get i with pin := level }

def execInputPinChange (pin : InputPin) (level : Bool) (s : State) : Result := .next (inputPinChange s pin level)

/-! ## Level monitor and discrete inputs -/

/-- R1, R5. DESIGN CHOICE (log 19): the level monitor's own parts take a report before the link supervisor. -/
def sampleEvent (s : State) (raw : Fin 4096) : State :=
  let r := takeSample s raw
  match r.2 with
  | none => r.1
  | some level => linkReport r.1 level

def execSample (raw : Fin 4096) (s : State) : Result := .next (live (fun s => sampleEvent s raw) s)

/-- R12, R139. -/
def execMastMovingChange (level : Bool) (s : State) : Result := .next (live (fun s => takeChange s .mastMoving level) s)

/-- R26. -/
def execOduLockChange (level : Bool) (s : State) : Result := .next (live (fun s => takeChange s .oduLock level) s)

/-- R197. -/
def execSvcConnectDeassert (s : State) : Result := .next (live (fun s => takeChange s .svcConnect false) s)

/-- R174, R197. -/
def execSvcConnectAssert (s : State) : Result := .next (live (fun s => takeChange s .svcConnect true) s)

/-! ## Link supervisor -/

/-- R25. -/
def execFadeTimerExpiry (s : State) : Result := .next (live fadeExpired s)

/-- R28. -/
def execRestoreTimerExpiry (s : State) : Result := .next (live restoreExpired s)

/-- R32. -/
def execUpshiftHoldExpiry (s : State) : Result := .next (live upshiftExpired s)

/-! ## ODU bus controller -/

/-- R53. -/
def execBusFreeStart (s : State) : Result := .next (live busStart s)

/-- R53. -/
def execBusFreeTimeout (s : State) : Result := .next (live busFreeTimeout s)

/-- R54. -/
def execByteStretchTimeout (written : Nat) (data : List Byte) (s : State) : Result :=
  .next (live (fun s => busStretch s written data) s)

/-- R44, R55, R56, R57. -/
def execTransactionComplete (how : BusEnd) (s : State) : Result := .next (live (fun s => busComplete s how) s)

/-- R52. -/
def execHoldDeadlineExpiry (s : State) : Result := .next (live holdDeadline s)

/-! ## Site clock and timing selector -/

/-- R62. -/
def execSecondBoundary (s : State) : Result := .next (live secondBoundary s)

/-- R64. -/
def execStartHoldEnd (s : State) : Result := .next (live startHoldEnd s)

/-- R73. -/
def execPulseWidthEnd (s : State) : Result := .next (live pulseWidthEnd s)

/-- R90. -/
def execSteeringPoint (s : State) : Result := .next (live steeringPoint s)

/-- R66. -/
def execOscCheckWindowEnd (loCycles : Nat) (s : State) : Result := .next (live (fun s => oscWindow s loCycles) s)

/-- R69, R72: a diverted AUX edge of either direction is a test edge, of any other only the rising one counts. DESIGN
CHOICE (log 24): steps that carry site time past 600 000 000 ns with no STEERING_POINT before them take none. -/
def ppsEdge (s : State) (src : Source) (dir : EdgeDir) (steps : Nat) : State :=
  let s := s.onClock fun k => k.advance steps
  if src = .aux ∧ s.clock.divert.isSome then
    testEdge (s.onClock fun k => { k with lastDiverted := some (s.now, dir) }) dir s.now
  else if dir = .rise then risingEdge s src
  else s

def execPpsEdge (src : Source) (dir : EdgeDir) (steps : Nat) (s : State) : Result :=
  .next (live (fun s => ppsEdge s src dir steps) s)

/-- R85. -/
def execMissing (src : Source) (s : State) : Result := .next (live (fun s => timingMissing s src) s)

/-! ## Share engine -/

/-- R125: an expiry acts only on a restore timer that runs. -/
def restoreEnded (s : State) (c : Fin 16) : State :=
  if (s.share.carriers.get c).restore.isSome then endRestore s c else s

def execCarrierRestoreExpiry (c : Fin 16) (s : State) : Result := .next (live (fun s => restoreEnded s c) s)

/-- R115: an expiry acts only on a hold whose timer runs; a hold UNTIL_CANCELLED has none. -/
def holdEnded (s : State) (c : Fin 16) : State :=
  match (s.share.carriers.get c).state, (s.share.carriers.get c).hold with
  | .held, some (.ms _) => endHold s c
  | _, _ => s

def execHoldTimerExpiry (c : Fin 16) (s : State) : Result := .next (live (fun s => holdEnded s c) s)

/-! ## Test sequencer -/

/-- R138. -/
def execDeferTimerExpiry (s : State) : Result := .next (live deferExpired s)

/-- R158. -/
def execDischargeTimerExpiry (s : State) : Result := .next (live dischargeExpired s)

/-- R159. -/
def execComparatorTrip (line : FeederLine) (ticks : Nat) (s : State) : Result :=
  .next (live (fun s => comparatorTrip s line ticks) s)

/-- R159. -/
def execFeederCounterOverflow (line : FeederLine) (s : State) : Result :=
  .next (live (fun s => counterOverflow s line) s)

/-- R164. -/
def execFrameSent (s : State) : Result := .next (live frameSent s)

/-- R164. -/
def execFrameReceived (content : List Byte) (s : State) : Result := .next (live (fun s => frameReceived s content) s)

/-- R164. -/
def execReturnTimerExpiry (s : State) : Result := .next (live returnExpired s)

/-- R170. -/
def execEdgeWatchExpiry (s : State) : Result := .next (live edgeWatchExpired s)

/-! ## Site supervisor -/

/-- R179. -/
def execQuietHalf (s : State) : Result := .next (live quietHalfReached s)

/-- R179. -/
def execQuietExpired (s : State) : Result := .next (live quietPeriodReached s)

/-! ## Ports -/

/-- R187, R188. -/
def execLineComplete (port : Port) (chars : List RxChar) (s : State) : Result :=
  .next (live (fun s => lineComplete s port chars) s)

/-- R189, R190. -/
def execLineNotRequest (port : Port) (why : NotRequest) (s : State) : Result :=
  .next (live (fun s => lineNotRequest s port why) s)

/-- R191. -/
def execTransmitLineSent (port : Port) (s : State) : Result := .next (live (fun s => lineSent s port) s)

/-- R196. -/
def execLockoutTimerExpiry (port : Port) (s : State) : Result := .next (live (fun s => lockoutExpired s port) s)

/-- R195. -/
def execIntervalTimerExpiry (port : Port) (s : State) : Result := .next (live (fun s => intervalExpired s port) s)

/-- R195. -/
def execSpacingTimerExpiry (port : Port) (s : State) : Result := .next (live (fun s => spacingExpired s port) s)

/-! ## Settings store -/

/-- R204. -/
def execSaveWriteEnd (good : Bool) (s : State) : Result := .next (live (fun s => saveWriteEnd s good) s)

end Sys2Proof.Machine
end

