-- ==== Sys2Proof/Machine/Requests.lean ====
section
/-! DEFINITION. The meanings of the requests: one definition for each row, in the order of the table. Each is the taking
of a line that spells the request (log 5), by a port that can take one. -/

namespace Sys2Proof.Machine

def execLevelRead (rq : Req) (s : State) : Result := .next (requestRow rq (serveLevelRead rq) s)

def execLevelHistory (rq : Req) (start n : Option Int) (s : State) : Result :=
  .next (requestRow rq (serveLevelHistory rq start n) s)

def execLevelCal (rq : Req) (a : LevelCalArgs) (s : State) : Result := .next (requestRow rq (serveLevelCal rq a) s)

def execAlignStart (rq : Req) (k : Option Int) (s : State) : Result := .next (requestRow rq (serveAlignStart rq k) s)

def execAlignStop (rq : Req) (s : State) : Result := .next (requestRow rq (serveAlignStop rq) s)

def execAlignMark (rq : Req) (s : State) : Result := .next (requestRow rq (serveAlignMark rq) s)

def execAlignRead (rq : Req) (s : State) : Result := .next (requestRow rq (serveAlignRead rq) s)

def execIndicatorSet (rq : Req) (a : IndicatorArgs) (s : State) : Result :=
  .next (requestRow rq (serveIndicatorSet rq a) s)

def execLinkStart (rq : Req) (s : State) : Result := .next (requestRow rq (serveLinkStart rq) s)

def execLinkStop (rq : Req) (s : State) : Result := .next (requestRow rq (serveLinkStop rq) s)

def execProfileSet (rq : Req) (p : Option Int) (a : ProfileArgs) (s : State) : Result :=
  .next (requestRow rq (serveProfileSet rq p a) s)

def execProfileRead (rq : Req) (p : Option Int) (s : State) : Result := .next (requestRow rq (serveProfileRead rq p) s)

def execTemplateSet (rq : Req) (name : Option (Named TemplateName)) (a : TemplateArgs) (s : State) : Result :=
  .next (requestRow rq (serveTemplateSet rq name a) s)

def execTemplateRead (rq : Req) (name : Option (Named TemplateName)) (s : State) : Result :=
  .next (requestRow rq (serveTemplateRead rq name) s)

def execLinkSet (rq : Req) (a : LinkSetArgs) (s : State) : Result := .next (requestRow rq (serveLinkSet rq a) s)

def execLinkRead (rq : Req) (s : State) : Result := .next (requestRow rq (serveLinkRead rq) s)

def execBusXfer (rq : Req) (a : XferArgs) (s : State) : Result := .next (requestRow rq (serveBusXfer rq a) s)

def execBusResult (rq : Req) (t : Option Int) (s : State) : Result := .next (requestRow rq (serveBusResult rq t) s)

def execBusRead (rq : Req) (s : State) : Result := .next (requestRow rq (serveBusRead rq) s)

def execPulseSet (rq : Req) (a : PulseArgs) (s : State) : Result := .next (requestRow rq (servePulseSet rq a) s)

def execTimeRead (rq : Req) (s : State) : Result := .next (requestRow rq (serveTimeRead rq) s)

def execCaptureRead (rq : Req) (i : Option Int) (s : State) : Result := .next (requestRow rq (serveCaptureRead rq i) s)

def execSourceSet (rq : Req) (i : Option Int) (a : SourceArgs) (s : State) : Result :=
  .next (requestRow rq (serveSourceSet rq i a) s)

def execTimingSet (rq : Req) (a : TimingArgs) (s : State) : Result := .next (requestRow rq (serveTimingSet rq a) s)

def execSourceRead (rq : Req) (i : Option Int) (s : State) : Result := .next (requestRow rq (serveSourceRead rq i) s)

def execTimingRead (rq : Req) (s : State) : Result := .next (requestRow rq (serveTimingRead rq) s)

def execTenantSet (rq : Req) (t : Option Int) (a : TenantArgs) (s : State) : Result :=
  .next (requestRow rq (serveTenantSet rq t a) s)

def execTenantRead (rq : Req) (t : Option Int) (s : State) : Result := .next (requestRow rq (serveTenantRead rq t) s)

def execCarrierDefine (rq : Req) (c : Option Int) (a : CarrierArgs) (s : State) : Result :=
  .next (requestRow rq (serveCarrierDefine rq c a) s)

def execCarrierRequest (rq : Req) (c demand : Option Int) (s : State) : Result :=
  .next (requestRow rq (serveCarrierRequest rq c demand) s)

def execCarrierRelease (rq : Req) (c : Option Int) (s : State) : Result :=
  .next (requestRow rq (serveCarrierRelease rq c) s)

def execCarrierHold (rq : Req) (c ms : Option Int) (s : State) : Result :=
  .next (requestRow rq (serveCarrierHold rq c ms) s)

def execCarrierRead (rq : Req) (c : Option Int) (s : State) : Result := .next (requestRow rq (serveCarrierRead rq c) s)

def execShareSet (rq : Req) (borrow restore : Option Int) (s : State) : Result :=
  .next (requestRow rq (serveShareSet rq borrow restore) s)

def execShareRead (rq : Req) (s : State) : Result := .next (requestRow rq (serveShareRead rq) s)

def execTestAdd (rq : Req) (kind : Option (Named TestKind)) (a : TestArgs) (s : State) : Result :=
  .next (requestRow rq (serveTestAdd rq kind a) s)

def execTestCancel (rq : Req) (n : Option Int) (s : State) : Result := .next (requestRow rq (serveTestCancel rq n) s)

def execTestRead (rq : Req) (n : Option Int) (s : State) : Result := .next (requestRow rq (serveTestRead rq n) s)

def execResultRead (rq : Req) (n : Option Int) (s : State) : Result := .next (requestRow rq (serveResultRead rq n) s)

def execAcceptSet (rq : Req) (mask : Option (List (Named TestKind))) (s : State) : Result :=
  .next (requestRow rq (serveAcceptSet rq mask) s)

def execAcceptRead (rq : Req) (s : State) : Result := .next (requestRow rq (serveAcceptRead rq) s)

def execFeederSet (rq : Req) (f : Option (Named FeederLine)) (a : FeederArgs) (s : State) : Result :=
  .next (requestRow rq (serveFeederSet rq f a) s)

def execFeederRead (rq : Req) (f : Option (Named FeederLine)) (s : State) : Result :=
  .next (requestRow rq (serveFeederRead rq f) s)

def execInputSet (rq : Req) (name : Option (Named InputPin)) (filter : Option Int) (s : State) : Result :=
  .next (requestRow rq (serveInputSet rq name filter) s)

def execInputRead (rq : Req) (s : State) : Result := .next (requestRow rq (serveInputRead rq) s)

def execGoLive (rq : Req) (force : Bool) (s : State) : Result := .next (requestRow rq (serveGoLive rq force) s)

def execStage (rq : Req) (s : State) : Result := .next (requestRow rq (serveStage rq) s)

def execQuietSet (rq : Req) (period : Option Int) (s : State) : Result :=
  .next (requestRow rq (serveQuietSet rq period) s)

def execRestart (rq : Req) (s : State) : Result := .next (requestRow rq (serveRestart rq) s)

def execSiteRead (rq : Req) (s : State) : Result := .next (requestRow rq (serveSiteRead rq) s)

def execCheckSet (rq : Req) (mode : Option (Named CheckMode)) (s : State) : Result :=
  .next (requestRow rq (serveCheckSet rq mode) s)

def execNoticeSet (rq : Req) (classes : Option (List (Named NoticeClass))) (s : State) : Result :=
  .next (requestRow rq (serveNoticeSet rq classes) s)

def execSummary (rq : Req) (s : State) : Result := .next (requestRow rq (serveSummary rq) s)

def execSummarySet (rq : Req) (interval : Option Int) (change : Option (Named Bool)) (s : State) : Result :=
  .next (requestRow rq (serveSummarySet rq interval change) s)

def execUnlock (rq : Req) (a : CredArgs) (s : State) : Result := .next (requestRow rq (serveUnlock rq a) s)

def execLock (rq : Req) (s : State) : Result := .next (requestRow rq (serveLock rq) s)

def execCredSet (rq : Req) (a : CredArgs) (s : State) : Result := .next (requestRow rq (serveCredSet rq a) s)

def execAccessSet (rq : Req) (g : Option (Named Group)) (l : Option (Named MinLevel)) (s : State) : Result :=
  .next (requestRow rq (serveAccessSet rq g l) s)

def execCountRead (rq : Req) (name : Option (Named CounterName)) (index : Option IndexArg) (s : State) : Result :=
  .next (requestRow rq (serveCountRead rq name index) s)

def execCountClear (rq : Req) (name : Option (Named CounterName)) (index : Option IndexArg) (s : State) : Result :=
  .next (requestRow rq (serveCountClear rq name index) s)

def execSave (rq : Req) (s : State) : Result := .next (requestRow rq (serveSave rq) s)

def execLoad (rq : Req) (s : State) : Result := .next (requestRow rq (serveLoad rq) s)

def execStoreRead (rq : Req) (s : State) : Result := .next (requestRow rq (serveStoreRead rq) s)

end Sys2Proof.Machine
end

