-- ==== Sys2Proof/Machine/Dispatch.lean ====
section
/-! DEFINITION. One arm for each command: its meaning. No command is left without one. -/

namespace Sys2Proof.Machine

def exec (i : Instr) (s : State) : Host.Outcome State Fault Refusal :=
  match i with
  | .powerOnReset => Sys2Proof.Machine.execPowerOnReset s
  | .pinReset => Sys2Proof.Machine.execPinReset s
  | .pinResetEnd => Sys2Proof.Machine.execPinResetEnd s
  | .restartTakesPlace => Sys2Proof.Machine.execRestartTakesPlace s
  | .sample raw => Sys2Proof.Machine.execSample raw s
  | .fadeTimerExpiry => Sys2Proof.Machine.execFadeTimerExpiry s
  | .restoreTimerExpiry => Sys2Proof.Machine.execRestoreTimerExpiry s
  | .upshiftHoldExpiry => Sys2Proof.Machine.execUpshiftHoldExpiry s
  | .mastMovingChange level => Sys2Proof.Machine.execMastMovingChange level s
  | .oduLockChange level => Sys2Proof.Machine.execOduLockChange level s
  | .svcConnectDeassert => Sys2Proof.Machine.execSvcConnectDeassert s
  | .svcConnectAssert => Sys2Proof.Machine.execSvcConnectAssert s
  | .busFreeStart => Sys2Proof.Machine.execBusFreeStart s
  | .busFreeTimeout => Sys2Proof.Machine.execBusFreeTimeout s
  | .byteStretchTimeout written data => Sys2Proof.Machine.execByteStretchTimeout written data s
  | .transactionComplete how => Sys2Proof.Machine.execTransactionComplete how s
  | .holdDeadlineExpiry => Sys2Proof.Machine.execHoldDeadlineExpiry s
  | .secondBoundary => Sys2Proof.Machine.execSecondBoundary s
  | .startHoldEnd => Sys2Proof.Machine.execStartHoldEnd s
  | .pulseWidthEnd => Sys2Proof.Machine.execPulseWidthEnd s
  | .steeringPoint => Sys2Proof.Machine.execSteeringPoint s
  | .oscCheckWindowEnd loCycles => Sys2Proof.Machine.execOscCheckWindowEnd loCycles s
  | .ppsEdge src dir steps => Sys2Proof.Machine.execPpsEdge src dir steps s
  | .missing src => Sys2Proof.Machine.execMissing src s
  | .carrierRestoreExpiry c => Sys2Proof.Machine.execCarrierRestoreExpiry c s
  | .holdTimerExpiry c => Sys2Proof.Machine.execHoldTimerExpiry c s
  | .deferTimerExpiry => Sys2Proof.Machine.execDeferTimerExpiry s
  | .dischargeTimerExpiry => Sys2Proof.Machine.execDischargeTimerExpiry s
  | .comparatorTrip line ticks => Sys2Proof.Machine.execComparatorTrip line ticks s
  | .feederCounterOverflow line => Sys2Proof.Machine.execFeederCounterOverflow line s
  | .frameSent => Sys2Proof.Machine.execFrameSent s
  | .frameReceived content => Sys2Proof.Machine.execFrameReceived content s
  | .returnTimerExpiry => Sys2Proof.Machine.execReturnTimerExpiry s
  | .edgeWatchExpiry => Sys2Proof.Machine.execEdgeWatchExpiry s
  | .quietHalf => Sys2Proof.Machine.execQuietHalf s
  | .quietExpired => Sys2Proof.Machine.execQuietExpired s
  | .lineComplete port chars => Sys2Proof.Machine.execLineComplete port chars s
  | .lineNotRequest port why => Sys2Proof.Machine.execLineNotRequest port why s
  | .transmitLineSent port => Sys2Proof.Machine.execTransmitLineSent port s
  | .lockoutTimerExpiry port => Sys2Proof.Machine.execLockoutTimerExpiry port s
  | .intervalTimerExpiry port => Sys2Proof.Machine.execIntervalTimerExpiry port s
  | .spacingTimerExpiry port => Sys2Proof.Machine.execSpacingTimerExpiry port s
  | .saveWriteEnd good => Sys2Proof.Machine.execSaveWriteEnd good s
  | .levelRead rq => Sys2Proof.Machine.execLevelRead rq s
  | .levelHistory rq start n => Sys2Proof.Machine.execLevelHistory rq start n s
  | .levelCal rq a => Sys2Proof.Machine.execLevelCal rq a s
  | .alignStart rq interval => Sys2Proof.Machine.execAlignStart rq interval s
  | .alignStop rq => Sys2Proof.Machine.execAlignStop rq s
  | .alignMark rq => Sys2Proof.Machine.execAlignMark rq s
  | .alignRead rq => Sys2Proof.Machine.execAlignRead rq s
  | .indicatorSet rq a => Sys2Proof.Machine.execIndicatorSet rq a s
  | .linkStart rq => Sys2Proof.Machine.execLinkStart rq s
  | .linkStop rq => Sys2Proof.Machine.execLinkStop rq s
  | .profileSet rq p a => Sys2Proof.Machine.execProfileSet rq p a s
  | .profileRead rq p => Sys2Proof.Machine.execProfileRead rq p s
  | .templateSet rq name a => Sys2Proof.Machine.execTemplateSet rq name a s
  | .templateRead rq name => Sys2Proof.Machine.execTemplateRead rq name s
  | .linkSet rq a => Sys2Proof.Machine.execLinkSet rq a s
  | .linkRead rq => Sys2Proof.Machine.execLinkRead rq s
  | .busXfer rq a => Sys2Proof.Machine.execBusXfer rq a s
  | .busResult rq t => Sys2Proof.Machine.execBusResult rq t s
  | .busRead rq => Sys2Proof.Machine.execBusRead rq s
  | .pulseSet rq a => Sys2Proof.Machine.execPulseSet rq a s
  | .timeRead rq => Sys2Proof.Machine.execTimeRead rq s
  | .captureRead rq k => Sys2Proof.Machine.execCaptureRead rq k s
  | .sourceSet rq k a => Sys2Proof.Machine.execSourceSet rq k a s
  | .timingSet rq a => Sys2Proof.Machine.execTimingSet rq a s
  | .sourceRead rq k => Sys2Proof.Machine.execSourceRead rq k s
  | .timingRead rq => Sys2Proof.Machine.execTimingRead rq s
  | .tenantSet rq t a => Sys2Proof.Machine.execTenantSet rq t a s
  | .tenantRead rq t => Sys2Proof.Machine.execTenantRead rq t s
  | .carrierDefine rq c a => Sys2Proof.Machine.execCarrierDefine rq c a s
  | .carrierRequest rq c demand => Sys2Proof.Machine.execCarrierRequest rq c demand s
  | .carrierRelease rq c => Sys2Proof.Machine.execCarrierRelease rq c s
  | .carrierHold rq c ms => Sys2Proof.Machine.execCarrierHold rq c ms s
  | .carrierRead rq c => Sys2Proof.Machine.execCarrierRead rq c s
  | .shareSet rq borrow restore => Sys2Proof.Machine.execShareSet rq borrow restore s
  | .shareRead rq => Sys2Proof.Machine.execShareRead rq s
  | .testAdd rq kind a => Sys2Proof.Machine.execTestAdd rq kind a s
  | .testCancel rq n => Sys2Proof.Machine.execTestCancel rq n s
  | .testRead rq n => Sys2Proof.Machine.execTestRead rq n s
  | .resultRead rq n => Sys2Proof.Machine.execResultRead rq n s
  | .acceptSet rq mask => Sys2Proof.Machine.execAcceptSet rq mask s
  | .acceptRead rq => Sys2Proof.Machine.execAcceptRead rq s
  | .feederSet rq f a => Sys2Proof.Machine.execFeederSet rq f a s
  | .feederRead rq f => Sys2Proof.Machine.execFeederRead rq f s
  | .inputSet rq name filter => Sys2Proof.Machine.execInputSet rq name filter s
  | .inputRead rq => Sys2Proof.Machine.execInputRead rq s
  | .goLive rq force => Sys2Proof.Machine.execGoLive rq force s
  | .stage rq => Sys2Proof.Machine.execStage rq s
  | .quietSet rq period => Sys2Proof.Machine.execQuietSet rq period s
  | .restart rq => Sys2Proof.Machine.execRestart rq s
  | .siteRead rq => Sys2Proof.Machine.execSiteRead rq s
  | .checkSet rq mode => Sys2Proof.Machine.execCheckSet rq mode s
  | .noticeSet rq classes => Sys2Proof.Machine.execNoticeSet rq classes s
  | .summary rq => Sys2Proof.Machine.execSummary rq s
  | .summarySet rq interval change => Sys2Proof.Machine.execSummarySet rq interval change s
  | .unlock rq a => Sys2Proof.Machine.execUnlock rq a s
  | .lock rq => Sys2Proof.Machine.execLock rq s
  | .credSet rq a => Sys2Proof.Machine.execCredSet rq a s
  | .accessSet rq group level => Sys2Proof.Machine.execAccessSet rq group level s
  | .countRead rq name index => Sys2Proof.Machine.execCountRead rq name index s
  | .countClear rq name index => Sys2Proof.Machine.execCountClear rq name index s
  | .save rq => Sys2Proof.Machine.execSave rq s
  | .load rq => Sys2Proof.Machine.execLoad rq s
  | .storeRead rq => Sys2Proof.Machine.execStoreRead rq s
  | .inputPinChange pin level => Sys2Proof.Machine.execInputPinChange pin level s
  | .supplyLoss => Sys2Proof.Machine.execSupplyLoss s

end Sys2Proof.Machine
end

