-- ==== Sys2Proof/Machine/Tick.lean ====
section
/-! DEFINITION. One cycle of the RC clock, which is what a step on an empty queue is (log 1): ALIGN_IND, the LO window,
site time, and on a millisecond tick the timers, the input filters and the quiet count. What falls due takes effect in
the cycle, as the command of its row. -/

namespace Sys2Proof.Machine

/-- The event of a row takes place, with the effect of its command. -/
def occur (s : State) (i : Instr) : State :=
  match exec i s with
  | .next t => t
  | .fault _ | .refused _ => s

/-- An event that a state may find due. -/
abbrev Due := State → Option Instr

def dueWhen (c : State → Bool) (i : Instr) : Due := fun s => if c s then some i else none

/-- Events that fall due together, one after the other: one that an earlier one has put off does not take place. -/
def occurDue (l : List Due) (s : State) : State :=
  l.foldl (fun t d => match d t with | some i => occur t i | none => t) s

def State.onRc (s : State) (f : RcClock → RcClock) : State := { s with rc := f s.rc }

/-! ## ALIGN_IND and site time -/

/-- R17: one cycle of the density accumulator. -/
def Level.cycle (v : Level) : Level :=
  if 1024 ≤ v.acc + v.density then { v with acc := v.acc + v.density - 1024, pin := true }
  else { v with acc := v.acc + v.density, pin := false }

/-- LO cycles in the RC cycle that runs (log 2). -/
def loCycles (s : State) : Nat := Config.loCyclesInRcCycle s.rc.cycles

/-- The time by which commands are still ahead once an RC cycle with `lo` LO cycles has run. -/
def Clock.lead (k : Clock) (lo : Nat) : Nat := k.ahead - (if k.onRc then unitsPerCycle else 10 * lo * unitsPerStep)

/-- The clock over one RC cycle, less the part of it that commands have already let pass, and whether a second boundary
falls due. On the RC timebase the boundary takes the last cycle itself; on the LO it takes the last step before the
wrap, and the rest of the cycle is owed. -/
def Clock.cycle (k : Clock) (lo : Nat) : Clock × Bool :=
  if k.onRc then
    if unitsPerCycle ≤ k.ahead then (k, false)
    else if 32767 ≤ k.rcCycle then (k, true) else (k.stepRc 1, false)
  else
    let n := 10 * lo - k.ahead / unitsPerStep
    let b := k.stepsToWrap
    if n < b then (k.stepLo n, false) else ({ k.stepLo (b - 1) with owed := n - b }, true)

def steeringNs : Nat := 600000000

/-- Whether site time has come to the steering point between two readings of one second. -/
def steers (before after : Nat) : Bool := decide (before < steeringNs) && decide (steeringNs ≤ after)

/-- What site time brings in an RC cycle that leaves the clock at `r.1`, with a second boundary due where `r.2` says so
(R62, R73, R90). -/
def clockDue (k : Clock) (r : Clock × Bool) : List Due :=
  [dueWhen (fun _ => r.1.pulseLeft == some 0) .pulseWidthEnd, dueWhen (fun _ => steers k.ns r.1.ns) .steeringPoint,
   dueWhen (fun _ => r.2) .secondBoundary]

/-- The RC cycle edge that ends the cycle: counting passes to the RC clock if it is to (R63). -/
def clockEdge (s : State) : State :=
  if s.clock.passing then
    let t := settle (passToRc s)
    occurDue [dueWhen (fun _ => steers s.clock.ns t.clock.ns) .steeringPoint] t
  else s

/-- Site time and the LO window over one RC cycle, with the events that fall due (R62, R63, R66, R73, R90). -/
def clockCycle (s : State) : State :=
  let lo := loCycles s
  let k := s.clock
  let r := k.cycle lo
  let s := s.onClock fun _ => { r.1 with windowRc := k.windowRc + 1, windowLo := k.windowLo + lo }
  let s := (occurDue (clockDue k r) s).onClock fun c => { c with ahead := k.lead lo }
  occurDue [dueWhen (fun _ => decide (4096 ≤ k.windowRc + 1)) (.oscCheckWindowEnd (k.windowLo + lo))] (clockEdge s)

/-! ## The sense counters (R158) -/

/-- Cycles of the internal 8 MHz clock in the RC cycle that runs (log 2). -/
def senseCycles (s : State) : Nat := Config.senseCyclesInRcCycle s.rc.cycles

/-- The sense ticks of an RC cycle with `n` cycles of the 8 MHz clock, and what the divider then holds: selector 7 is
the RC clock itself, a selector below it divides by a power of two. -/
def senseTicks (selector divider n : Nat) : Nat × Nat :=
  if selector = 7 then (1, divider) else ((divider + n) / 2 ^ selector, (divider + n) % 2 ^ selector)

/-- The counters over one RC cycle in CHARGE, less the ticks that commands have already given; a counter that would pass
4095 overflows (R158, R159). -/
def senseCycle (s : State) : State :=
  match s.tests.current.map TestRec.params, s.tests.feeder.phase with
  | some (.feeder _ selector _ _), .charge =>
    let u := s.tests.feeder
    let r := senseTicks selector u.divider (senseCycles s)
    let n := r.1 - u.ahead
    let t := s.onTests fun k =>
      { k with feeder := { u with divider := r.2, ahead := u.ahead - r.1, lines := u.lines.map fun c => c.advance n } }
    allLines.foldl (fun t i =>
      if (u.lines.get i).passes n then live (fun t => overflowAfter t i 0) t else t) t
  | _, _ => s

/-! ## The millisecond tick -/

def lower (t : Option Nat) : Option Nat := t.map (· - 1)

/-- A timer that has come to its end. -/
def ended (t : Option Nat) : Bool := t == some 0

def HoldTimer.lower : HoldTimer → HoldTimer
  | .ms n => .ms (n - 1)
  | .untilCancelled => .untilCancelled

def Carrier.lower (c : Carrier) : Carrier :=
  { c with restore := Machine.lower c.restore, hold := c.hold.map HoldTimer.lower }

def PortState.lower (x : PortState) : PortState :=
  { x with lockout := Machine.lower x.lockout, intervalTimer := Machine.lower x.intervalTimer
           spacingTimer := Machine.lower x.spacingTimer }

def SourceRec.lower (r : SourceRec) : SourceRec := { r with watch := Machine.lower r.watch }

def Bus.lower (b : Bus) : Bus :=
  { b with current := b.current.map fun x => { x with ms := x.ms + 1 }
           hold := b.hold.map fun h => { h with left := h.left - 1 } }

def Tests.lower (t : Tests) : Tests :=
  { t with deferTimer := Machine.lower t.deferTimer
           feeder := { t.feeder with timer := Machine.lower t.feeder.timer }
           tester := { t.tester with timer := Machine.lower t.tester.timer }
           pulse := t.pulse.map fun m => { m with watch := Machine.lower m.watch } }

/-- Every device timer counts one ms. -/
def lowerTimers (s : State) : State :=
  { s with
    link := { s.link with fadeTimer := lower s.link.fadeTimer, restoreTimer := lower s.link.restoreTimer
                          upshiftTimer := lower s.link.upshiftTimer }
    bus := s.bus.lower
    timing := { s.timing with sources := s.timing.sources.map SourceRec.lower }
    share := { s.share with carriers := ofCarriers fun c => (s.share.carriers.get c).lower }
    tests := s.tests.lower
    ports := { main := s.ports.main.lower, service := s.ports.service.lower } }

def portDue (p : Port) : List Due :=
  [dueWhen (fun s => ended (s.port p).lockout) (.lockoutTimerExpiry p),
   dueWhen (fun s => ended (s.port p).spacingTimer) (.spacingTimerExpiry p),
   dueWhen (fun s => ended (s.port p).intervalTimer) (.intervalTimerExpiry p)]

def linkDue : List Due :=
  [dueWhen (fun s => ended s.link.fadeTimer) .fadeTimerExpiry,
   dueWhen (fun s => ended s.link.restoreTimer) .restoreTimerExpiry,
   dueWhen (fun s => ended s.link.upshiftTimer) .upshiftHoldExpiry]

def busDue : List Due :=
  [dueWhen (fun s => s.bus.current.any fun x => !x.started && decide (200 ≤ x.ms)) .busFreeTimeout,
   dueWhen (fun s => s.bus.hold.any fun h => h.left == 0) .holdDeadlineExpiry]

def watchDue (i : Source) : Due := dueWhen (fun s => ended (s.timing.sources.get i).watch) (.missing i)

def carrierDue (c : Fin 16) : List Due :=
  [dueWhen (fun s => ended (s.share.carriers.get c).restore) (.carrierRestoreExpiry c),
   dueWhen (fun s => (s.share.carriers.get c).hold == some (.ms 0)) (.holdTimerExpiry c)]

def testsDue : List Due :=
  [dueWhen (fun s => ended s.tests.deferTimer) .deferTimerExpiry,
   dueWhen (fun s => ended s.tests.feeder.timer) .dischargeTimerExpiry,
   dueWhen (fun s => ended s.tests.tester.timer) .returnTimerExpiry,
   dueWhen (fun s => s.tests.pulse.any fun m => ended m.watch) .edgeWatchExpiry]

/-- The expiries of the timers that have come to their end. -/
def timersDue : List Due :=
  linkDue ++ busDue ++ allSources.map watchDue ++ (List.finRange 16).flatMap carrierDue ++ testsDue ++ portDue .main
    ++ portDue .service

/-- One tick of an input's filter (R174): the pin is compared with the filtered level. A pin that differs puts a change
under test with 0 ms, or is one ms more for the change under test; a pin that has returned cancels it. -/
def Input.lower (x : Input) : Input :=
  { x with change :=
      if x.pin = x.filtered then none
      else match x.change with
        | none => some (x.pin, 0)
        | some (_, n) => some (x.pin, n + 1) }

/-- The change under test of an input, once it has been held for the filter time (R174). -/
def changeDue (s : State) (i : InputPin) : Option Bool :=
  match (s.site.inputs.get i).change with
  | some (l, n) => if s.cfg.filters.get i ≤ n then some l else none
  | none => none

def lowerInput (s : State) (i : InputPin) : State := s.setInput i (s.site.inputs.get i).lower

def lowerInputs (s : State) : State :=
  lowerInput (lowerInput (lowerInput (lowerInput s .mastMoving) .oduLock) .svcConnect) .resetN

/-- A change that has been held for the filter time, as the command of its row. -/
def changeRow (i : InputPin) (row : Bool → Instr) : Due := fun s => (changeDue s i).map row

def inputsDue : List Due :=
  [changeRow .mastMoving .mastMovingChange, changeRow .oduLock .oduLockChange,
   changeRow .svcConnect fun l => if l then .svcConnectAssert else .svcConnectDeassert]

def quietDue : List Due := [dueWhen halfDue .quietHalf, dueWhen expiryDue .quietExpired]

def resetDue : Due := changeRow .resetN fun l => if l then .pinResetEnd else .pinReset

/-- What a millisecond tick brings; a reset that falls due comes last. -/
def tickDue : List Due := inputsDue ++ timersDue ++ quietDue ++ [resetDue]

/-- The quiet count stops at 65535 s (R179). -/
def quietTick (s : State) : State := s.onSite fun x => { x with quietMs := min 65535000 (x.quietMs + 1) }

/-- A millisecond of the running part: every timer, filter and count moves, then what is due takes place. -/
def msTick (s : State) : State := occurDue tickDue (quietTick (lowerInputs (lowerTimers s)))

/-- A millisecond of the part held in reset: only the filter of RESET_N runs (R175). -/
def heldTick (s : State) : State := occurDue [resetDue] (lowerInput s .resetN)

/-- The RC accumulator: 1000 a cycle, and a tick at each 32768 (log 1). -/
def rcCycle (s : State) : State × Bool :=
  let a := s.rc.ms + 1000
  if 32768 ≤ a then (s.onRc fun r => { r with ms := a - 32768 }, true) else (s.onRc fun r => { r with ms := a }, false)

def restartDue : Due := dueWhen (fun s => s.site.restart.any fun r => r.lines == 0) .restartTakesPlace

/-- The part over one RC cycle. Without supply nothing runs; held in reset the filter of RESET_N alone does, and
ALIGN_IND keeps its level (log 8). -/
def runCycle (s : State) : State :=
  match s.run with
  | .off => s
  | .held =>
    let r := rcCycle s
    if r.2 then heldTick r.1 else r.1
  | .running =>
    let r := rcCycle (senseCycle (clockCycle (s.onLevel Level.cycle)))
    occurDue [restartDue] (if r.2 then msTick r.1 else r.1)

/-- One RC cycle: the part's, and one more in the number of cycles run while there is supply. -/
def tick (s : State) : State :=
  if s.run = .off then s else (runCycle s).onRc fun r => { r with cycles := s.rc.cycles + 1 }

end Sys2Proof.Machine
end

