-- ==== Sys2Proof/Safety.lean ====
section
/-! DEFINITION. The terms in which claims speak: which commands are requests and what each needs of its port, when a
port executes one, what its answer leaves, and the invariants. -/

namespace Sys2Proof.Machine

/-- The request that a command is, with what section 10.5 and R190 ask of its port. GO LIVE tests FORCE itself. -/
def requestOf : Instr → Option (Req × Need)
  | .levelRead rq => some (rq, .group .view)
  | .levelHistory rq _ _ => some (rq, .group .view)
  | .levelCal rq _ => some (rq, .group .linkCfg)
  | .alignStart rq _ => some (rq, .group .align)
  | .alignStop rq => some (rq, .group .align)
  | .alignMark rq => some (rq, .group .align)
  | .alignRead rq => some (rq, .group .view)
  | .indicatorSet rq _ => some (rq, .group .linkCfg)
  | .linkStart rq => some (rq, .group .linkCfg)
  | .linkStop rq => some (rq, .group .linkCfg)
  | .profileSet rq _ _ => some (rq, .group .linkCfg)
  | .profileRead rq _ => some (rq, .group .view)
  | .templateSet rq _ _ => some (rq, .group .linkCfg)
  | .templateRead rq _ => some (rq, .group .view)
  | .linkSet rq _ => some (rq, .group .linkCfg)
  | .linkRead rq => some (rq, .group .view)
  | .busXfer rq _ => some (rq, .group .bus)
  | .busResult rq _ => some (rq, .group .bus)
  | .busRead rq => some (rq, .group .view)
  | .pulseSet rq _ => some (rq, .group .timingCfg)
  | .timeRead rq => some (rq, .group .view)
  | .captureRead rq _ => some (rq, .group .view)
  | .sourceSet rq _ _ => some (rq, .group .timingCfg)
  | .timingSet rq _ => some (rq, .group .timingCfg)
  | .sourceRead rq _ => some (rq, .group .view)
  | .timingRead rq => some (rq, .group .view)
  | .tenantSet rq _ _ => some (rq, .group .tenantCfg)
  | .tenantRead rq _ => some (rq, .group .carrier)
  | .carrierDefine rq _ _ => some (rq, .group .tenantCfg)
  | .carrierRequest rq _ _ => some (rq, .group .carrier)
  | .carrierRelease rq _ => some (rq, .group .carrier)
  | .carrierHold rq _ _ => some (rq, .group .carrier)
  | .carrierRead rq _ => some (rq, .group .view)
  | .shareSet rq _ _ => some (rq, .group .tenantCfg)
  | .shareRead rq => some (rq, .group .view)
  | .testAdd rq _ _ => some (rq, .group .test)
  | .testCancel rq _ => some (rq, .group .test)
  | .testRead rq _ => some (rq, .group .view)
  | .resultRead rq _ => some (rq, .group .view)
  | .acceptSet rq _ => some (rq, .group .sitePhase)
  | .acceptRead rq => some (rq, .group .view)
  | .feederSet rq _ _ => some (rq, .group .sitePhase)
  | .feederRead rq _ => some (rq, .group .view)
  | .inputSet rq _ _ => some (rq, .group .sitePhase)
  | .inputRead rq => some (rq, .group .view)
  | .goLive rq force => some (rq, if force then .siteIn .sitePhase else .group .sitePhase)
  | .stage rq => some (rq, .group .sitePhase)
  | .quietSet rq _ => some (rq, .group .sitePhase)
  | .restart rq => some (rq, .siteIn .sitePhase)
  | .siteRead rq => some (rq, .group .view)
  | .checkSet rq _ => some (rq, .group .sitePhase)
  | .noticeSet rq _ => some (rq, .group .view)
  | .summary rq => some (rq, .group .view)
  | .summarySet rq _ _ => some (rq, .group .view)
  | .unlock rq _ => some (rq, .nothing)
  | .lock rq => some (rq, .nothing)
  | .credSet rq _ => some (rq, .site)
  | .accessSet rq _ _ => some (rq, .site)
  | .countRead rq _ _ => some (rq, .group .view)
  | .countClear rq _ _ => some (rq, .site)
  | .save rq => some (rq, .group .store)
  | .load rq => some (rq, .group .store)
  | .storeRead rq => some (rq, .group .store)
  | _ => none

/-- The port can take a line that spells the request. -/
def Takes (s : State) (rq : Req) : Prop := s.run = .running ∧ canTake s rq.port = true

/-- The port executes the request: it can take the line, the line holds no key that the request does not take, and,
its line event taken, the port stands at the level that the request needs. -/
def Executes (s : State) (rq : Req) (n : Need) : Prop :=
  Takes s rq ∧ rq.extra = false ∧ n.met (portLine s rq.port) rq.port = true

/-- The reply offered in a state, and the deliveries between blocks that follow. -/
def answered (s : State) (rq : Req) (r : Reply) : State := settle (offerReply s rq.port (.tag rq.tag) r)

/-- A port but for what notices, replies and summaries act on: the lines it assembles and holds, and its access. -/
def SameLine (x y : PortState) : Prop :=
  y.assembly = x.assembly ∧ y.rxq = x.rxq ∧ y.waiting = x.waiting ∧ y.access = x.access ∧ y.mismatches = x.mismatches
    ∧ y.lockout = x.lockout

/-- The settings that a power-on or pin reset takes (R203): the image's when its check agrees, which an abandoned write
leaves failing. -/
def imageAgrees (s : State) : Bool := s.store.writing.isNone && s.store.image.good

/-- The inputs at the end of a pin reset: RESET_N has been taken high. -/
def resetHigh (v : PerInput Input) : PerInput Input :=
  { v with resetN := { pin := true, filtered := true, change := none } }

/-- The state that the end of a power-on or pin reset leaves, before deliveries between blocks. -/
structure AfterFullReset (s t : State) (v : PerInput Input) (cause : ResetCause) : Prop where
  running : t.run = .running
  settings : t.cfg = if imageAgrees s then s.store.image.settings else .factory
  blank : t.store.blank = !imageAgrees s
  image : t.store.writing = none ∧ t.store.image = { s.store.image with good := imageAgrees s }
  site : t.site = .atReset (settledInputs v) cause
  clock : t.clock = { Clock.atReset t.cfg with permitted := false }
  timing : t.timing = .atReset t.cfg
  tests : t.tests = .atReset
  bus : t.cfg.link.autostart = false → t.bus = .atReset
  link : t.cfg.link.autostart = false → t.link = .atReset v.oduLock.pin
  started : t.cfg.link.autostart = true → t.link.state = .acquire ∧ t.link.init.isSome = true
  level : v.mastMoving.pin = false → t.level = .atReset t.cfg
  mast : v.mastMoving.pin = true → t.level.align.map (·.owner) = some .mast
  noPermit : ∀ l, t.share.permits.get l = false
  carriers : ∀ c, (t.share.carriers.get c).state = .idle
  ports : ∀ p, SameLine (.atReset (t.cfg.ports.get p) .atReset) (t.port p)
  oneReshare : t.counts.reshares = 1
  untouched : t.pending = s.pending ∧ t.free = s.free ∧ t.rc = { s.rc with ms := 0 }

/-- R188, R191: no queue of a port holds more lines than it has entries. -/
def QueuesBounded (s : State) : Prop := ∀ p, (s.port p).txq.length ≤ 24 ∧ (s.port p).rxq.length ≤ 4

/-! ## Frames -/

/-- `t` is `u` but for the notices and the summaries sent: the transmit queues, the summary records and their timers,
and the counts of dropped notices. -/
def AfterNotices (u t : State) : Prop :=
  t = { u with ports := t.ports, counts := { u.counts with noticeDrops := t.counts.noticeDrops } }
    ∧ ∀ p, SameLine (u.port p) (t.port p)

/-- `t` is `u` but for what reshares, notices and summaries change, and what they deliver. -/
def AfterReshares (u t : State) : Prop :=
  t = { u with
        share := t.share, clock := { u.clock with permitted := t.clock.permitted }, ports := t.ports
        counts := { u.counts with noticeDrops := t.counts.noticeDrops, reshares := t.counts.reshares
                                  sheds := t.counts.sheds }
        signals := t.signals }
    ∧ (∃ l, t.signals = u.signals ++ l) ∧ ∀ p, SameLine (u.port p) (t.port p)

/-! ## Lines and summaries -/

/-- R189, test 1: the line begins with the tag, of 1 to 4 digits, and a space; `rest` follows. -/
def Tagged (l : List Char) (t : Tag) (rest : List Char) : Prop :=
  ∃ d : List Char, l = d ++ ' ' :: rest ∧ 1 ≤ d.length ∧ d.length ≤ 4 ∧ (∀ c ∈ d, isDigit c = true)
    ∧ t = { value := digitsVal d, width := d.length }

/-- R189, test 3: the check of the line agrees, or it has none and need not have one. -/
def CheckPasses (mode : CheckMode) (l : List Char) : Prop :=
  (∃ body a b x y, l = body ++ ['*', a, b] ∧ hexOf a = some x ∧ hexOf b = some y
    ∧ 16 * x + y = (body.map Char.toNat).sum % 256)
  ∨ mode = .optional ∧ ¬∃ body a b, l = body ++ ['*', a, b]

/-- R189, test 4: what follows the tag of the line, but for the check and its space, is the words `ws`, the verb first,
and the fields `fs`, separated by single spaces, with no key twice and every value in the form of its key. -/
def Grammatical (l rest : List Char) (ws : List (List Char)) (fs : Fields) : Prop :=
  (∃ r, '*' ∉ r ∧ r = [' '].intercalate (ws ++ fs.map fun f => f.1 ++ '=' :: f.2)
    ∧ ((∃ body a b, l = body ++ ['*', a, b] ∧ rest = r ++ [' ', '*', a, b])
      ∨ rest = r ∧ ¬∃ body a b, l = body ++ ['*', a, b]))
  ∧ ws ≠ [] ∧ (∀ w ∈ ws, w ≠ [] ∧ ' ' ∉ w ∧ '=' ∉ w)
  ∧ (∀ f ∈ fs, f.1 ≠ [] ∧ (∀ c ∈ f.1, isSmall c = true ∨ c = '_') ∧ ' ' ∉ f.2 ∧ '=' ∉ f.2)
  ∧ (fs.map (·.1)).Nodup
  ∧ ∀ f ∈ fs, fieldInForm ((formatOf ws formats).map (·.1)) f = true

/-- R191, R195: a PORT notice SUMMARY has been offered to the port in `t`, from `s`. Entering, it clears the flags;
dropped, it is counted and sets NOTICE_DROP, and under change mode ON a flag so set is pending; where the flag was set
already nothing becomes pending (DESIGN CHOICE, log 33). Both timers restart. -/
def SummaryOffered (s t : State) (p : Port) : Prop :=
  let x := s.port p
  let l := noticeLines s p ["PORT", "SUMMARY"] x.summary.pairs
  let timer := secondsTimer (s.cfg.ports.get p).interval
  (x.txq.length + l.length + 3 ≤ 24 →
    t = s.setPort p { x with
      txq := x.txq ++ l, summary := { x.summary with changed := [], events := [] }
      intervalTimer := timer, spacingTimer := some 1000 })
  ∧ (24 < x.txq.length + l.length + 3 →
    t =
      let c := { s with counts := { s.counts with
        noticeDrops := s.counts.noticeDrops.put p (bump (s.counts.noticeDrops.get p)) } }
      c.setPort p { x with
        summary := { x.summary with events := allEvents.filter fun e => e ∈ EventFlag.noticeDrop :: x.summary.events }
        intervalTimer := timer, spacingTimer := some 1000
        changePending := x.changePending
          || (!x.summary.events.contains .noticeDrop && (s.cfg.ports.get p).change) })

/-- R195: a summary change has come to the port in `t`, from `s`. -/
def SummaryChanged (s t : State) (p : Port) : Prop :=
  let x := s.port p
  ((s.cfg.ports.get p).change = false → t = s)
  ∧ ((s.cfg.ports.get p).change = true → x.spacingTimer.isSome → t = s.setPort p { x with changePending := true })
  ∧ ((s.cfg.ports.get p).change = true → x.spacingTimer = none → SummaryOffered s t p)

/-! ## Drops of a port's level -/

/-- R14, R197: the level monitor, and what it delivers, after an access-drop event of the port, whose new level stands in
`v`. A port that owns the alignment record and no longer meets the minimum of ALIGN gives it to MAST while MAST_MOVING
is asserted; otherwise alignment ends. -/
def levelAfterDrop (v : State) (p : Port) : Level × List Signal :=
  match v.level.align with
  | none => (v.level, [])
  | some a =>
    if a.owner = .port p ∧ inGroup v p .align = false then
      if v.site.inputs.mastMoving.filtered = true then
        ({ v.level with align := some { a with owner := .mast, mastFlag := false, toNext := a.interval } }, [])
      else
        ({ v.level with align := none, indicator := 0, density := densityOf v.level.outPolarity 0 }, [.alignEnd])
    else (v.level, [])

/-- R52: the bus controller after a LOCK of the port, whether the port's hold has expired, and what the controller then
delivers. With a transaction of the port in progress the expiry is noted and takes effect at its completion. DESIGN
CHOICE (log 30): a cause that came before, a deadline that passed while it ran among them, stays the cause. -/
def busAfterLock (b : Bus) (p : Port) : Bus × Bool × List Signal :=
  match b.current with
  | some x =>
    if x.txn.requester = .port p then
      let cause := match x.expiry with
        | some c => c
        | none => if (b.hold.any fun h => h.left == 0) = true then .deadline else .lock
      ({ b with current := some { x with expiry := some cause } }, false, [])
    else (b, false, [])
  | none =>
    if b.hold.map (·.port) = some p then ({ b with hold := none }, true, [.busChoose]) else (b, false, [])

/-! ## Ends of transactions and tests -/

/-- The record of the transaction in progress as it ends. -/
def endedTxn (x : InProgress) (st : BusStatus) (written : Nat) (data : List Byte) : Txn :=
  { x.txn with status := some st, written := written, data := data }

/-- The transaction in progress has ended in `t`, from `s`: its record is delivered to its requester, counted under its
status, and the controller chooses again. Of a port's transaction OK with CONT keeps the hold with its first deadline,
or begins one of 100 ms, unless an expiry came while it ran (R51, R52). -/
structure TxnEnded (s t : State) (x : InProgress) (st : BusStatus) (written : Nat) (data : List Byte) : Prop where
  frame : AfterNotices
    { s with
      bus := { s.bus with current := none, hold := t.bus.hold, results := t.bus.results }
      counts := { s.counts with
        busOk := if st = .ok then bump s.counts.busOk else s.counts.busOk
        busNak := if st = .nak then bump s.counts.busNak else s.counts.busNak
        busArb := if st = .arbLost then bump s.counts.busArb else s.counts.busArb
        busTimeout := if st = .timeout then bump s.counts.busTimeout else s.counts.busTimeout
        busHoldExpired := t.counts.busHoldExpired }
      signals := t.signals } t
  toPort : ∀ p, x.txn.requester = .port p →
    t.bus.results.get p =
        (s.bus.results.get p ++ [endedTxn x st written data]).drop ((s.bus.results.get p).length + 1 - 4)
      ∧ (∀ q, q ≠ p → t.bus.results.get q = s.bus.results.get q) ∧ t.signals = s.signals ++ [.busChoose]
      ∧ ((st ≠ .ok ∨ x.txn.cont = false) →
          t.bus.hold = none ∧ t.counts.busHoldExpired = s.counts.busHoldExpired)
      ∧ (st = .ok → x.txn.cont = true → (x.expiry.isSome ∨ s.bus.hold.any fun h => h.left == 0) →
          t.bus.hold = none ∧ t.counts.busHoldExpired = bump s.counts.busHoldExpired)
      ∧ (st = .ok → x.txn.cont = true → x.expiry = none → (s.bus.hold.any fun h => h.left == 0) = false →
          t.bus.hold = some
            { port := p, left := (s.bus.hold.map (·.left)).getD 100
              phase := if x.txn.stop then .closed else if x.txn.read = 0 then .write
                else if x.txn.ackLast then .readAcked else .readNacked }
          ∧ t.counts.busHoldExpired = s.counts.busHoldExpired)
  toLink : x.txn.requester = .link →
    t.signals = s.signals ++ [.completeLink (endedTxn x st written data), .busChoose]
      ∧ t.bus.results = s.bus.results ∧ t.bus.hold = s.bus.hold
      ∧ t.counts.busHoldExpired = s.counts.busHoldExpired
  toTest : x.txn.requester = .test →
    t.signals = s.signals ++ [.completeTest (endedTxn x st written data), .busChoose]
      ∧ t.bus.results = s.bus.results ∧ t.bus.hold = s.bus.hold
      ∧ t.counts.busHoldExpired = s.counts.busHoldExpired

/-! ## The timing selector -/

/-- R98, R99: the bound and the grade that the timing selector's other items give. -/
def BoundAndGrade (t : State) : Prop :=
  (t.timing.state = .freerun → t.timing.bound = none)
  ∧ ((t.timing.state = .locking ∨ t.timing.state = .locked) →
      ∀ i, t.timing.selected = some i →
        t.timing.bound = (t.timing.sources.get i).lastOffset.map fun x => x.natAbs + (t.cfg.sources.get i).allowance)
  ∧ (t.timing.state = .holdover → ∀ e n, t.timing.entryBound = some e → t.timing.holdSecs = some n →
      t.timing.bound = some (e + t.timing.latch.drift * n))
  ∧ t.timing.grade =
      (if t.timing.oscCopy then .oscFail
       else if (t.timing.state = .locked ∨ t.timing.state = .holdover)
          ∧ (t.timing.bound.any fun b => decide (b ≤ t.timing.latch.tdd)) = true then .tddOk
       else .unfit)

/-- R86: a condition that holds an enabled source in CHECK. -/
def HeldInCheck (s : State) (i : Source) : Prop :=
  (s.timing.sources.get i).mark.isSome ∨ (i = .link ∧ s.timing.linkCopy ≠ .up) ∨ s.timing.oscCopy = true

/-- R89: a source that may be selected. -/
def Selectable (t : State) (i : Source) : Prop :=
  (t.timing.sources.get i).state = .qualified ∧ (t.timing.sources.get i).mark = none

/-- R89: between two sources the first is preferred to the second, by the priorities in force since the last boundary. -/
def Before (t : State) (i j : Source) : Prop :=
  t.timing.latch.priority.get i < t.timing.latch.priority.get j
    ∨ t.timing.latch.priority.get i = t.timing.latch.priority.get j ∧ Source.index i < Source.index j

/-- R89: the preferred source of those that may be selected. -/
def Preferred (t : State) (i : Source) : Prop := Selectable t i ∧ ∀ j, j ≠ i → Selectable t j → Before t i j

/-- R89, R93: source `i` has become selected in `t`. -/
def NewlySelected (t : State) (i : Source) : Prop :=
  t.timing.selected = some i ∧ t.timing.state = .locking ∧ t.timing.lockRun = 0 ∧ t.timing.entryBound = none
    ∧ t.timing.holdSecs = none

/-- R102: a jump request present in `s` stands in `t` while the selection does, and a change of the selection cancels
it: its command is withdrawn from the site clock and its request from the share engine. -/
structure JumpFollows (s t : State) : Prop where
  stands : t.timing.selected = s.timing.selected → t.timing.jumpReq = s.timing.jumpReq ∧ t.clock.jump = s.clock.jump
  cancelled : t.timing.selected ≠ s.timing.selected → t.timing.jumpReq = none
    ∧ (s.timing.jumpReq.isSome → t.clock.jump = none ∧ t.share.jump = false)

/-- The record of source `i` has become `r` in `t`, from `s`, by a capture or a MISSING event (R87, R89, R93, R102): a
source that has just become QUALIFIED is selected where none was, and under revertive ON where it is preferred to the
selected one; any other selection whose source stays selectable stays; a selection whose source does not is replaced at
once by the preferred source, or lost to HOLDOVER or FREERUN where none may be selected; bound and grade follow. -/
structure SourceTaken (s t : State) (i : Source) (r : SourceRec) : Prop where
  record : t.timing.sources.get i = r
  others : ∀ j, j ≠ i → ¬HeldInCheck s j → t.timing.sources.get j = s.timing.sources.get j
  selects : s.timing.selected = none → (s.timing.sources.get i).state ≠ .qualified → r.state = .qualified →
    r.mark = none → NewlySelected t i
  keepsNone : s.timing.selected = none → ((s.timing.sources.get i).state = .qualified ∨ r.state ≠ .qualified) →
    t.timing.selected = none ∧ t.timing.state = s.timing.state
  keeps : ∀ j, s.timing.selected = some j → Selectable t j →
    (s.timing.latch.revertive = false ∨ (s.timing.sources.get i).state = .qualified ∨ r.state ≠ .qualified
      ∨ ¬Before t i j) →
    t.timing.selected = some j ∧ t.timing.state = s.timing.state ∧ t.timing.lockRun = s.timing.lockRun
  reverts : ∀ j, s.timing.selected = some j → Selectable t j → s.timing.latch.revertive = true →
    (s.timing.sources.get i).state ≠ .qualified → r.state = .qualified → Before t i j → NewlySelected t i
  replaced : ∀ j k, s.timing.selected = some j → ¬Selectable t j → Preferred t k → NewlySelected t k
  jump : JumpFollows s t
  loses : s.timing.selected = some i → r.state ≠ .qualified → (∀ j, ¬Selectable t j) →
    (s.timing.state = .locked ∨ s.timing.state = .locking) →
    t.timing.selected = none
      ∧ t.timing.state =
          (if (s.timing.state = .locked ∨ s.timing.everLocked = true)
              ∧ (s.timing.bound.any fun b => decide (b ≤ s.timing.latch.holdover)) = true then .holdover
           else .freerun)
  graded : BoundAndGrade t

/-- The result log with a record appended: the oldest of 24 leaves it (R148). -/
def logged (l : List TestRec) (r : TestRec) : List TestRec := (if 24 ≤ l.length then l.drop 1 else l) ++ [r]

/-- A test record as it enters the result log. -/
def final (s : State) (r : TestRec) (st : TestState) (why : Option TestReason) : TestRec :=
  { r with state := st, reason := why, pending := none, finish := some s.clock.sec }

/-- The test `r`, current in `s`, has become final in `t` (R148): its record is the newest of the log, its verdict
stands in the acceptance record and is counted, its claims are released, and the slot is free for the next. -/
structure TestFinal (s t : State) (r : TestRec) (st : TestState) (why : Option TestReason) : Prop where
  slot : t.tests.current = none ∧ t.tests.queue = s.tests.queue ∧ t.tests.deferTimer = none
    ∧ t.tests.outstanding = none ∧ t.tests.stage = .measuring ∧ t.tests.pulse = none ∧ t.tests.loopOnStatus = none
    ∧ t.tests.tester = .stopped
  log : t.tests.log = logged s.tests.log (final s r st why)
  verdict : t.tests.acceptance =
    (match st with
     | .pass => s.tests.acceptance.put r.kind (.pass r.number)
     | .fail => s.tests.acceptance.put r.kind (.fail r.number)
     | _ => s.tests.acceptance)
  counted : t.counts.testsRun = s.counts.testsRun
    ∧ t.counts.testsPassed = (if st = .pass then bump s.counts.testsPassed else s.counts.testsPassed)
    ∧ t.counts.testsFailed = (if st = .fail then bump s.counts.testsFailed else s.counts.testsFailed)
  released : t.link.claim ≠ some r.number ∧ t.clock.divert ≠ some r.number
    ∧ ∀ i, (t.timing.sources.get i).mark ≠ some r.number
  next : .takeTest ∈ t.signals
  rest : t.cfg = s.cfg ∧ t.level = s.level ∧ t.site = s.site ∧ t.store = s.store ∧ t.run = s.run
    ∧ t.pending = s.pending

/-- R144: the measurement of the RUNNING test `r`, current in `s`, stops where it stands, its pending outcome is ABORTED
with the reason, and its cleanup begins. -/
def aborted (s : State) (r : TestRec) (why : TestReason) : State :=
  { s with
    tests := { s.tests with
      current := some { r with pending := some (.aborted, some why) }, pulse := none
      feeder := { s.tests.feeder with phase := .idle, timer := none }
      tester := { s.tests.tester with running := false, outstanding := none, timer := none } }
    signals := s.signals ++ [.cleanup] }

/-- The test holds no link claim, no source mark and no diversion. -/
def NoClaim (s : State) (r : TestRec) : Prop :=
  s.link.claim ≠ some r.number ∧ s.clock.divert ≠ some r.number
    ∧ ∀ i, (s.timing.sources.get i).mark ≠ some r.number

/-- R138, R150: the DEFERRED test `r`, current in `s`, has been made final in `t` with its borrow withdrawn. -/
def DeferredEnded (s t : State) (r : TestRec) (st : TestState) (why : TestReason) : Prop :=
  AfterReshares
      { s with
        tests := { s.tests with
          current := none, deferTimer := none, outstanding := none, stage := .measuring, pulse := none
          tester := .stopped, loopOnStatus := none, log := logged s.tests.log (final s r st (some why)) }
        counts := { s.counts with logDrops := t.counts.logDrops } } t
    ∧ t.share.borrow = .absent ∧ .takeTest ∈ t.signals

/-- R150: the tests as the entry into AUTONOMOUS leaves the queue and the log: the queued tests of MAIN are final as
ABORTED with reason QUIET, in queue order. -/
def mainQueueEnded (s : State) : Tests :=
  { s.tests with
    queue := s.tests.queue.filter fun r => r.owner != .main
    log := (s.tests.queue.filter fun r => r.owner == .main).foldl
      (fun l r => logged l (final s r .aborted (some .quiet))) s.tests.log }

/-- R150: the entry into AUTONOMOUS has ended the tests of MAIN in `t`, from `s`: the queued ones, the DEFERRED one, its
borrow withdrawn, and the RUNNING one, which is aborted. A test of SERVICE, and one with a pending outcome, runs on. That
the queued ones stand before the DEFERRED one in the log is the model's choice (log 3). -/
structure MainTestsEnded (s t : State) : Prop where
  stands : (∀ r, s.tests.current = some r → r.owner = .main → r.state ≠ .deferred ∧ r.pending.isSome) →
    t.tests = mainQueueEnded s
  running : ∀ r, s.tests.current = some r → r.owner = .main → r.state = .running → r.pending = none →
    t.tests = (aborted { s with tests := mainQueueEnded s } r .quiet).tests ∧ .cleanup ∈ t.signals
  deferred : ∀ r, s.tests.current = some r → r.owner = .main → r.state = .deferred →
    t.tests = { mainQueueEnded s with
        current := none, deferTimer := none, outstanding := none, stage := .measuring, pulse := none
        tester := .stopped, loopOnStatus := none
        log := logged (mainQueueEnded s).log (final s r .aborted (some .quiet)) }
      ∧ t.share.borrow = .absent ∧ .takeTest ∈ t.signals
  frame : (∀ r, s.tests.current = some r → r.owner = .main → r.state ≠ .deferred) →
    AfterReshares
      { s with site := t.site, tests := t.tests, counts := { s.counts with logDrops := t.counts.logDrops } } t

/-- R160: the class of a line that ended so, by its record. -/
def classed (g : FeederRec) : LineState → LineClass
  | .counting | .overflow => .short
  | .tripped n =>
    if n < g.openLimit then .opened else if g.lo ≤ n ∧ n ≤ g.hi then .present else .outOfWindow

/-- The measurement of the FEEDER test `r` on the lines `l` has ended in `t`, from `s` (R159, R160): the unit is IDLE,
each line is classed by its record as it stands, and the verdict is PASS where every line matches. -/
def FeederJudged (s t : State) (r : TestRec) (l : List FeederLine) : Prop :=
  ∃ o : FeederLine → LineState,
    let g := fun j => s.cfg.feeders.get j
    let k := fun j => classed (g j) (o j)
    (∀ j ∈ l, (t.tests.feeder.lines.get j).state = some (o j)) ∧ t.tests.feeder.phase = .idle
    ∧ t.tests.feeder.opened = s.tests.feeder.opened ∧ t.signals = s.signals ++ [.cleanup]
    ∧ ∃ v, t.tests.current = some
        { r with pending := some v
                 results := some (.feeder (l.map fun j =>
                   { line := j, outcome := o j, cls := k j, expect := (g j).expect })) }
      ∧ ((∀ j ∈ l, match (g j).expect with
            | .present => k j = .present
            | .opened => k j = .opened
            | .any => k j ≠ .short) → v = (.pass, none))
      ∧ ((∃ j ∈ l, match (g j).expect with
            | .present => k j ≠ .present
            | .opened => k j ≠ .opened
            | .any => k j = .short) → v = (.fail, some .limit))

/-- The current test of kind `k`, RUNNING with no verdict yet. -/
def Measuring (s : State) (r : TestRec) (k : TestKind) : Prop :=
  s.tests.current = some r ∧ r.kind = k ∧ r.state = .running ∧ r.pending = none

/-! ## Invariants -/

/-- R89: the selected timing source is QUALIFIED and not under test. -/
def SelectionQualified (s : State) : Prop := ∀ i, s.timing.selected = some i → Selectable s i

/-- R36: the base capacity that the link supervisor holds is the one that its state and its profiles give. -/
def BaseAgrees (s : State) : Prop := s.link.base = baseOf s.cfg s.link

/-- R199, R197: a port that owns the alignment record meets the minimum in force of the ALIGN group. -/
def AlignOwnersEntitled (s : State) : Prop :=
  ∀ p a, s.level.align = some a → a.owner = .port p → inGroup s p .align = true

/-- A carrier that may transmit. -/
def OnAir (s : State) (c : Fin 16) : Prop :=
  (s.share.carriers.get c).state = .active ∨ (s.share.carriers.get c).state = .throttled

/-- R130: a permit line is asserted exactly while a defined carrier assigned to it is ACTIVE or THROTTLED. -/
def PermitsAgree (s : State) : Prop :=
  ∀ l, s.share.permits.get l = true ↔
    ∃ c d, s.cfg.carriers.get c = some d ∧ d.permit = some l ∧ OnAir s c

/-- The carrier takes part in admission unless it is blocked (R119). -/
def Requesting (s : State) (c : Fin 16) : Prop := (s.share.carriers.get c).state = .waiting ∨ OnAir s c

/-! ## Admission and growth -/

/-- A sum over the carriers of which `p` holds. -/
def sumOver (p : Fin 16 → Bool) (f : Fin 16 → Nat) : Nat :=
  ((List.finRange 16).map fun c => if p c then f c else 0).sum

def minimum (s : State) (c : Fin 16) : Nat := ((s.cfg.carriers.get c).map (·.min)).getD 0

def ofTenant (s : State) (k : Fin 4) (c : Fin 16) : Bool := (s.cfg.carriers.get c).map (·.tenant) == some k

/-- R119: the defined carrier takes part in the admission of a reshare of `s`. -/
def Eligible (s : State) (c : Fin 16) (d : CarrierDef) : Prop :=
  s.cfg.carriers.get c = some d ∧ Requesting s c ∧ s.share.phase ≠ .staging
    ∧ ¬(s.share.grade = .oscFail ∨ d.duplex = .tdd ∧ (s.share.grade ≠ .tddOk ∨ s.share.jump = true))
    ∧ (s.share.carriers.get c).restore = none

/-- R119: `x` stands before `c` in the eligible order, by priority class and then by request order. Carriers of one class
with one request order, which no run gives, stand by index. -/
def precedes (s : State) (x c : Fin 16) : Bool :=
  let cls (y : Fin 16) : Nat := ((s.cfg.carriers.get y).map (·.cls)).getD 0
  let order (y : Fin 16) : Nat := ((s.share.carriers.get y).order).getD 0
  decide (cls x < cls c ∨ cls x = cls c ∧ (order x < order c ∨ order x = order c ∧ x < c))

/-- R120, R121: in the admission for `pool` the floor pass admits the carriers `floor` and the ceiling pass the carriers
`ceil`. Each pass tests the eligible carriers in their order, and a carrier not admitted stops no other. -/
structure Passes (s : State) (pool : Nat) (floor ceil : Fin 16 → Bool) : Prop where
  floorPass : ∀ c, floor c = true ↔ ∃ d, Eligible s c d
    ∧ sumOver (fun x => floor x && precedes s x c && ofTenant s d.tenant x) (minimum s) + d.min
        ≤ (s.cfg.tenants.get d.tenant).floor
    ∧ sumOver (fun x => floor x && precedes s x c) (minimum s) + d.min ≤ pool
  ceilPass : ∀ c, ceil c = true ↔ floor c = false ∧ ∃ d, Eligible s c d
    ∧ sumOver (fun x => (floor x || ceil x && precedes s x c) && ofTenant s d.tenant x) (minimum s) + d.min
        ≤ (s.cfg.tenants.get d.tenant).ceiling
    ∧ sumOver (fun x => floor x || ceil x && precedes s x c) (minimum s) + d.min ≤ pool

/-- R122: what the minima of the carriers `admitted` leave of `pool` grows their tenants by `extra`. In each round every
tenant with an unmet amount receives its part of the remainder by weight, rounded down, and at most its unmet amount;
after the last round that gives anything the tenants take turns by index, and each with an unmet amount receives 1 CU
while any is left. `x` and `u` are the remainder and the unmet amounts after so many rounds and turns. -/
def Grows (s : State) (pool : Nat) (admitted : Fin 16 → Bool) (extra : Fin 4 → Nat) : Prop :=
  ∃ (x : Nat → Nat) (u : Nat → Fin 4 → Nat) (rounds turns : Nat),
    let mine (k : Fin 4) (c : Fin 16) : Bool := admitted c && ofTenant s k c
    let weight (i : Nat) (k : Fin 4) : Nat := if u i k = 0 then 0 else (s.cfg.tenants.get k).weight
    let share (i : Nat) (k : Fin 4) : Nat := min (x i * weight i k / tenantSum (weight i)) (u i k)
    let gift (j : Nat) (k : Fin 4) : Nat := if k.val = j % 4 ∧ x (rounds + j) ≠ 0 ∧ u (rounds + j) k ≠ 0 then 1 else 0
    let gives (i : Nat) (f : Fin 4 → Nat) : Prop := x (i + 1) = x i - tenantSum f ∧ ∀ k, u (i + 1) k = u i k - f k
    x 0 = pool - sumOver admitted (minimum s)
    ∧ (∀ k, u 0 k = min (sumOver (mine k) fun c => (s.share.carriers.get c).demand - minimum s c)
        ((s.cfg.tenants.get k).ceiling - sumOver (mine k) (minimum s)))
    ∧ (∀ i, i < rounds → 0 < tenantSum (share i) ∧ gives i (share i))
    ∧ tenantSum (share rounds) = 0
    ∧ (∀ j, j < turns → gives (rounds + j) (gift j))
    ∧ (x (rounds + turns) = 0 ∨ ∀ k, u (rounds + turns) k = 0)
    ∧ ∀ k, extra k = u 0 k - u (rounds + turns) k

/-- What the pool is shared among: every carrier's grant and a held borrow. -/
def givenOut (s : State) : Nat :=
  ((List.finRange 16).map fun c => (s.share.carriers.get c).grant).sum
    + (match s.share.borrow with | .held n _ => n | .waiting _ _ | .absent => 0)

/-- The share engine's records: a carrier on the air is granted between its minimum and its demand and any other
nothing, one outside IDLE demands its minimum at least, one that is not defined is IDLE, and the grants with the test
borrow stay within the base less the reserve (section 6.1, R118, R123). -/
structure SharesSound (s : State) : Prop where
  onAir : ∀ c d, s.cfg.carriers.get c = some d → OnAir s c →
    d.min ≤ (s.share.carriers.get c).grant ∧ (s.share.carriers.get c).grant ≤ (s.share.carriers.get c).demand
  offAir : ∀ c, ¬OnAir s c → (s.share.carriers.get c).grant = 0
  demand : ∀ c d, s.cfg.carriers.get c = some d → (s.share.carriers.get c).state ≠ .idle →
    d.min ≤ (s.share.carriers.get c).demand
  undefined : ∀ c, s.cfg.carriers.get c = none → s.share.carriers.get c = .idle
  pool : givenOut s ≤ s.share.base - s.share.reserve

/-- R110: no two carriers that settings define are assigned the same permit line. -/
def LinesApart (cfg : Settings) : Prop :=
  ∀ x y dx dy l, x ≠ y → cfg.carriers.get x = some dx → cfg.carriers.get y = some dy → dx.permit = some l →
    dy.permit ≠ some l

/-- R110 for the settings in force and for those that a LOAD or a reset may take: the image's and the snapshot's. -/
def LinesApartIn (s : State) : Prop :=
  LinesApart s.cfg ∧ LinesApart s.store.image.settings
    ∧ ∀ w, s.store.writing = some w → LinesApart w.settings

end Sys2Proof.Machine
end

