-- ==== Sys2Proof/Certificates/Slice0/Obligations.lean ====
section
/-! DEFINITION. The statements about the part for the provers. A statement about a request speaks of the state `u` that
the line event of its line leaves (R181, R189); the deliveries between blocks that follow a command are `settle`. -/

open Sys2Proof Sys2Proof.Machine

/-! ## The machine -/

/-- A step takes the command at the front of the queue. -/
def Obligations.StepTakesFrontCommand : Prop :=
  ∀ (s : State) (c : Instr) (l : List Instr), s.pending = c :: l → step s = exec c { s with pending := l }

/-- With no command waiting a step is one cycle of the RC clock (the model's choice, log 1), which counts the cycle.
Held in reset only the filter of RESET_N runs, while the count that makes the ms tick goes on (the model's choice, log
15), and ALIGN_IND's accumulator does not run (the model's choice, log 8). A cycle of the running part moves ALIGN_IND's
accumulator, the LO window and site time, on the LO by 100 ns for each LO cycle (a free value, log 2) and on the RC
clock to the reading of the next cycle, less the time that commands have already let pass (the model's choice, log 1).
The end of a pulse, the steering point and the second boundary that fall due in it take place, in the model's order
(log 1), then the RC cycle edge, and after 4096 cycles the end of the LO window. A millisecond tick takes 1 ms from
every timer that runs, gives each filter and the quiet count its ms, and then the rows that are due take place: each of
them in turn (`tickDue`, in the model's order, log 1), or none where none is due. -/
def Obligations.EmptyQueueRunsOneClockCycle : Prop :=
  ∀ s : State,
    let lo := Config.loCyclesInRcCycle s.rc.cycles
    let k := s.clock
    let rcTurns (ms : Nat) : RcClock := { ms := ms, cycles := s.rc.cycles + 1 }
    let passed (u : Nat) : PerSource CaptureRec :=
      k.captures.map fun r => if r.last.isSome then { r with elapsed := r.elapsed + u } else r
    let onRc := k.oscBad && !k.passing
    let window : Clock := { k with windowRc := k.windowRc + 1, windowLo := k.windowLo + lo }
    let steps (m : Nat) : Clock :=
      { window with
        ns := k.ns + (10 * m - k.startHold.getD 0), captures := passed (m * 327680), ahead := k.ahead + m * 327680
        startHold := k.startHold.bind fun h => if 10 * m < h then some (h - 10 * m) else none
        pulseLeft := k.pulseLeft.map (· - m * 327680) }
    let n := 10 * lo - k.ahead / 327680
    let toWrap := (k.startHold.getD 0 + (1000000000 - k.ns)) / 10
    let wraps : Bool :=
      if onRc then decide (k.ahead < 1000000000) && decide (32767 ≤ k.rcCycle) else decide (toWrap ≤ n)
    let moved : Clock :=
      if onRc then
        (if 1000000000 ≤ k.ahead ∨ 32767 ≤ k.rcCycle then window
         else { window with
            rcCycle := k.rcCycle + 1, ns := (k.rcCycle + 1) * 1000000000 / 32768 / 10 * 10
            captures := passed 1000000000, ahead := k.ahead + 1000000000
            pulseLeft := k.pulseLeft.map (· - 1000000000) })
      else if wraps then { steps (toWrap - 1) with owed := n - toWrap }
      else steps n
    let due : List Instr :=
      (if moved.pulseLeft = some 0 then [.pulseWidthEnd] else [])
        ++ (if k.ns < 600000000 ∧ 600000000 ≤ moved.ns then [.steeringPoint] else [])
        ++ (if wraps = true then [.secondBoundary] else [])
    let ahead := k.ahead - (if onRc then 1000000000 else lo * 3276800)
    let nothingDue := k.ns ≤ 999999990 ∧ k.passing = false ∧ due = []
    let indicated : Level :=
      if 1024 ≤ s.level.acc + s.level.density then
        { s.level with acc := s.level.acc + s.level.density - 1024, pin := true }
      else { s.level with acc := s.level.acc + s.level.density, pin := false }
    let less (t : Option Nat) : Option Nat := t.map (· - 1)
    let filtered (x : Input) : Input :=
      { x with change := if x.pin = x.filtered then none
                 else some (x.pin, match x.change with | none => 0 | some (_, n) => n + 1) }
    let portLess (x : PortState) : PortState :=
      { x with lockout := less x.lockout, intervalTimer := less x.intervalTimer, spacingTimer := less x.spacingTimer }
    let ticked : State := { s with
      link := { s.link with fadeTimer := less s.link.fadeTimer, restoreTimer := less s.link.restoreTimer
                            upshiftTimer := less s.link.upshiftTimer }
      bus := { s.bus with current := s.bus.current.map fun x => { x with ms := x.ms + 1 }
                          hold := s.bus.hold.map fun h => { h with left := h.left - 1 } }
      timing := { s.timing with sources := s.timing.sources.map fun r => { r with watch := less r.watch } }
      share := { s.share with carriers := Vector.ofFn fun c =>
        let r := s.share.carriers.get c
        { r with restore := less r.restore
                 hold := r.hold.map fun h => match h with | .ms n => .ms (n - 1) | .untilCancelled => .untilCancelled } }
      tests := { s.tests with
        deferTimer := less s.tests.deferTimer
        feeder := { s.tests.feeder with timer := less s.tests.feeder.timer }
        tester := { s.tests.tester with timer := less s.tests.tester.timer }
        pulse := s.tests.pulse.map fun m => { m with watch := less m.watch } }
      site := { s.site with
        inputs := { resetN := filtered s.site.inputs.resetN, mastMoving := filtered s.site.inputs.mastMoving
                    oduLock := filtered s.site.inputs.oduLock, svcConnect := filtered s.site.inputs.svcConnect }
        quietMs := min 65535000 (s.site.quietMs + 1) }
      ports := { main := portLess s.ports.main, service := portLess s.ports.service } }
    (s.pending = [] → step s = .next (tick s)) ∧ (s.run ≠ .off → (tick s).rc.cycles = s.rc.cycles + 1)
    ∧ (s.run = .off → tick s = s)
    ∧ (s.run = .held → s.rc.ms < 31768 → tick s = { s with rc := rcTurns (s.rc.ms + 1000) })
    ∧ (s.run = .held → 31768 ≤ s.rc.ms →
        (∀ n, (filtered s.site.inputs.resetN).change = some (true, n) → n < s.cfg.filters.resetN) →
        tick s = { s with
          rc := rcTurns (s.rc.ms + 1000 - 32768)
          site := { s.site with inputs := { s.site.inputs with resetN := filtered s.site.inputs.resetN } } })
    ∧ (s.run = .running → nothingDue → k.windowRc < 4095 → s.tests.feeder.phase ≠ .charge → s.site.restart = none →
        s.rc.ms < 31768 →
        tick s = { s with
          level := indicated, clock := { moved with ahead := ahead }, rc := rcTurns (s.rc.ms + 1000) })
    ∧ (s.run = .running → nothingDue → k.windowRc < 4095 → s.tests.feeder.phase ≠ .charge → s.site.restart = none →
        31768 ≤ s.rc.ms →
        let t : State := { s with
          level := indicated, clock := { moved with ahead := ahead }, rc := { s.rc with ms := s.rc.ms + 1000 - 32768 } }
        tick s = (occurDue [restartDue] (msTick t)).onRc fun r => { r with cycles := s.rc.cycles + 1 })
    ∧ (k.ns ≤ 999999990 →
        let t := due.foldl occur { s with clock := moved }
        let edge := clockEdge { t with clock := { t.clock with ahead := ahead } }
        clockCycle s = if k.windowRc < 4095 then edge else occur edge (.oscCheckWindowEnd (k.windowLo + lo)))
    ∧ msTick s = occurDue tickDue ticked ∧ ((∀ d ∈ tickDue, d ticked = none) → msTick s = ticked)

/-- No step of the part ends in a fault or a refusal. -/
def Obligations.EveryStepAnswersNext : Prop := ∀ s : State, ∃ t, step s = .next t

/-- What a power-on reset with a failed image check leaves: the values that the chapters state for reset. -/
def Obligations.ResetValues : Prop :=
  let s := State.reset
  s.link.state = .off ∧ s.link.base = 0 ∧ s.link.confirmed = none ∧ s.link.pending = none ∧ s.link.guard = none
    ∧ s.level.range = .coarse ∧ s.level.window = [] ∧ s.level.history = [] ∧ s.level.align = none
    ∧ s.bus.current = none ∧ s.bus.hold = none ∧ s.bus.fifo = []
    ∧ s.clock.sec = 0 ∧ s.clock.ns = 0 ∧ s.clock.oscBad = true ∧ s.clock.goodRun = 0 ∧ s.clock.steer = none
    ∧ s.timing.selected = none ∧ s.timing.state = .freerun ∧ s.timing.bound = none ∧ s.timing.grade = .oscFail
    ∧ s.share.borrow = .absent ∧ s.share.orders = 0 ∧ (∀ l, s.share.permits.get l = false)
    ∧ s.tests = .atReset ∧ s.site.phase = .staging ∧ s.site.forced = false ∧ s.site.cause = .power
    ∧ (∀ p, (s.port p).access = .opened ∧ (s.port p).mismatches = 0 ∧ (s.port p).rxq = [])
    ∧ s.store.blank = true ∧ s.store.writing = none ∧ s.cfg = .factory ∧ s.counts.reshares = 1

/-- The reset state has every invariant that a step keeps: bounded queues, permit lines that follow the carriers and
stand apart, sound shares, the base capacity of its link state, no selected timing source that is not QUALIFIED or is
under test, and no owner of an alignment record below the level it needs. -/
def Obligations.ResetSatisfiesInvariants : Prop :=
  QueuesBounded State.reset ∧ PermitsAgree State.reset ∧ LinesApartIn State.reset ∧ SharesSound State.reset
    ∧ BaseAgrees State.reset ∧ SelectionQualified State.reset ∧ AlignOwnersEntitled State.reset

/-- Every step keeps the transmit queues within 24 lines and the receive queues within 4. -/
def Obligations.StepKeepsQueuesBounded : Prop :=
  ∀ s t : State, QueuesBounded s → step s = .next t → QueuesBounded t

/-- Every step keeps each permit line asserted exactly while a carrier assigned to it is ACTIVE or THROTTLED. -/
def Obligations.StepKeepsPermitsAgree : Prop :=
  ∀ s t : State, PermitsAgree s → step s = .next t → PermitsAgree t

/-! ## Resets and supply -/

/-- A power-on reset with RESET_N high; with RESET_N low the part is held until the pin reset ends, which is the model's
choice (log 15): no rule states that case for a power-on. -/
def Obligations.PowerOnResets : Prop :=
  ∀ s : State,
    (s.site.inputs.resetN.pin = true →
      ∃ t, exec .powerOnReset s = .next (settle t) ∧ AfterFullReset s t s.site.inputs .power)
    ∧ (s.site.inputs.resetN.pin = false →
      ∃ t, exec .powerOnReset s = .next t ∧ t.run = .held ∧ t.site.inputs.resetN.filtered = false
        ∧ (∀ l, t.share.permits.get l = false) ∧ t.store.image.good = imageAgrees s)

/-- The end of a pin reset. -/
def Obligations.PinResetEndResets : Prop :=
  ∀ s : State, s.run = .held →
    ∃ t, exec .pinResetEnd s = .next (settle t) ∧ AfterFullReset s t (resetHigh s.site.inputs) .pin

/-- A pin reset holds the part: permits deasserted, SITE_PPS low, service switches closed, no port ready, and a write in
progress abandoned. -/
def Obligations.PinResetHoldsPart : Prop :=
  ∀ s : State, s.run = .running →
    ∃ t, exec .pinReset s = .next t ∧ t.run = .held ∧ (∀ l, t.share.permits.get l = false) ∧ sitePps t = false
      ∧ (∀ i, t.tests.feeder.opened.get i = false) ∧ (∀ p, ready t p = false) ∧ t.store.writing = none
      ∧ t.store.image.good = imageAgrees s ∧ t.store.image.settings = s.store.image.settings
      ∧ t.site.inputs.resetN.filtered = false ∧ t.cfg = s.cfg ∧ t.pending = s.pending

/-- A loss of supply stops the part and abandons a write in progress, whose image is left with a failed check. That
without supply no command but a power-on reset starts it, and that its permit lines stand deasserted, is the model's
choice (logs 7 and 15). -/
def Obligations.SupplyLossStopsPart : Prop :=
  ∀ s : State, ∃ t, exec .supplyLoss s = .next t ∧ t.run = .off ∧ t.store.writing = none
    ∧ t.store.image.good = imageAgrees s ∧ t.store.image.settings = s.store.image.settings
    ∧ (∀ l, t.share.permits.get l = false) ∧ (∀ c, c ≠ .powerOnReset → ∃ u, exec c t = .next u ∧ u.run = .off)

/-- A pending RESTART keeps the site clock, but that diversion ends and the AUX counter becomes 0 (its jump-permitted
copy is the one that the share engine delivers), the timing settings and the selector's standing, and resets the level
monitor, the link supervisor, the bus controller, the share engine, the test sequencer, the site supervisor and the
ports. An asserted MAST_MOVING begins alignment anew under MAST, and autostart starts the link. That a RESTART during a
write takes the snapshot's settings is the model's choice (log 15). -/
def Obligations.RestartKeepsTiming : Prop :=
  ∀ s : State, s.run = .running → s.site.restart.isSome →
    ∃ t, exec .restartTakesPlace s = .next (settle t)
      ∧ (let cleared : CaptureRec := { last := none, interval := none, coarse := false, elapsed := 0 }
         t.clock = { s.clock with
            auxCount := 0, divert := none, permitted := s.timing.jumpReq.isSome
            captures := if s.clock.divert.isSome then s.clock.captures.put .aux cleared else s.clock.captures
            lastDiverted := if s.clock.divert.isSome then none else s.clock.lastDiverted })
      ∧ t.timing = { s.timing with sources := s.timing.sources.map fun r => { r with mark := none } }
      ∧ t.cfg = restartSettings s
      ∧ t.cfg.timing = s.cfg.timing ∧ t.cfg.sources = s.cfg.sources ∧ t.cfg.pulse = s.cfg.pulse
      ∧ t.cfg.auxDiv = s.cfg.auxDiv ∧ t.store.writing = s.store.writing ∧ t.store.image = s.store.image
      ∧ t.tests = .atReset ∧ t.site = .atReset s.site.inputs .restart
      ∧ (s.site.inputs.mastMoving.filtered = false → t.level = .atReset t.cfg)
      ∧ (s.site.inputs.mastMoving.filtered = true → t.level.align.map (·.owner) = some .mast)
      ∧ (t.cfg.link.autostart = false → t.link = .atReset s.site.inputs.oduLock.filtered ∧ t.bus = .atReset)
      ∧ (t.cfg.link.autostart = true → t.link.state = .acquire ∧ t.link.init.isSome)
      ∧ (∀ c, t.share.carriers.get c = .idle) ∧ t.share.borrow = .absent ∧ t.share.orders = 0
      ∧ t.share.phase = .staging ∧ t.share.base = 0 ∧ t.share.reserve = t.cfg.link.reserve
      ∧ (∀ l, t.share.permits.get l = false)
      ∧ t.counts = { Counters.zero with reshares := 1, noticeDrops := t.counts.noticeDrops }
      ∧ (∀ p, (t.port p).access = .opened ∧ (t.port p).rxq = [] ∧ (t.port p).waiting = [])

/-! ## The level monitor -/

/-- A sample is calibrated, clamped and placed in the window. In AUTO mode it selects the range of the next one: FINE
from COARSE below XOVER, COARSE from FINE at 4032 and above. Every tenth one forms the smoothed level, a report. The
report enters the history, updates the alignment record and its peak, and sets the indicator; then the link supervisor
takes it (the order is the model's choice, log 19). In UP it enters FADE below LOW, and at or above LOW it downshifts,
or starts, keeps or stops the upshift hold; in FADE it returns to UP at HIGH; in ACQUIRE and LOST it stops the restore
timer below HIGH, or starts it; in any other state the link changes nothing. -/
def Obligations.SampleCalibrates : Prop :=
  ∀ (s : State) (raw : Fin 4096), s.run = .running →
    let g := s.cfg.level
    let r : RangeName := match g.mode with | .auto => s.level.range | .forceCoarse => .coarse | .forceFine => .fine
    let k : Cal := match r with | .coarse => g.coarse | .fine => g.fine
    let exact : Int := (raw.val * k.scale / 2 ^ (8 + k.shift) : Nat) + k.offset
    let v := max (-1200) (min 0 exact)
    let w := keepLast 10 (s.level.window ++ [v])
    let next : RangeName :=
      if g.mode = .auto then
        (if r = .coarse then (if raw.val < g.xover then .fine else .coarse)
         else if 4032 ≤ raw.val then .coarse else .fine)
      else r
    let taken : Level := { s.level with
      last := some { raw := raw, range := r, value := v }, window := w, samples := s.level.samples + 1, range := next }
    let counts := { s.counts with
      rangeSwitches := if s.level.range = next then s.counts.rangeSwitches else bump s.counts.rangeSwitches
      levelClamps := if exact = v then s.counts.levelClamps else bump s.counts.levelClamps }
    let level := w.sum / 10
    let now : SiteTime := { sec := s.clock.sec, ns := s.clock.ns }
    let align := s.level.align.map fun a =>
      { a with current := some level, reports := if a.reports < 65535 then a.reports + 1 else a.reports
               peak := match a.peak with
                 | none => some (level, now)
                 | some (p, at') => if p < level then some (level, now) else some (p, at')
               toNext := if a.toNext ≤ 1 then a.interval else a.toNext - 1 }
    let indicator : Nat := match s.level.align with
      | none => 0
      | some _ => (min 1023 (max 0 ((level - g.floor) * 1023 / (g.span : Int)))).toNat
    let reported : State :=
      { s with
        level := { taken with
          smoothed := some level, history := keepLast 32 (s.level.history ++ [level]), align := align
          indicator := indicator, outPolarity := g.polarity
          density := match g.polarity with | .normal => indicator | .inverted => 1023 - indicator }
        counts := counts }
    let h := s.cfg.link
    let target := currentTarget s.link
    let down : Prop := target ≠ 0 ∧ level < (s.cfg.profiles.get target).down
    ∃ t, exec (.sample raw) s = .next (settle t)
      ∧ ((s.level.samples + 1) % 10 ≠ 0 → AfterNotices { s with level := taken, counts := counts } t)
      ∧ ((s.level.samples + 1) % 10 = 0 →
        (s.link.state = .off ∨ s.link.state = .align ∨ s.link.state = .test → AfterNotices reported t)
        ∧ (s.link.state = .up → t.link.base = baseOf s.cfg t.link)
        ∧ (s.link.state = .up → level < h.low →
            AfterReshares
              { reported with
                link := { s.link with
                  state := .fade, fadeTimer := some (h.fade * 250), upshiftTimer := none, base := t.link.base
                  pending := if target = 0 then s.link.pending else some 0 }
                bus := { s.bus with
                  profileSlot := if target = 0 then s.bus.profileSlot else some (profileWrite s.cfg 0 false) }
                counts := { counts with linkFades := bump counts.linkFades } } t)
        ∧ (s.link.state = .up → h.low ≤ level → down →
            ∃ q, AfterReshares
              { reported with
                link := { s.link with upshiftTimer := none, pending := some q, base := t.link.base }
                bus := { s.bus with profileSlot := some (profileWrite s.cfg q false) } } t
              ∧ (q = 0 ∨ q < target ∧ (s.cfg.profiles.get q).enabled = true ∧ (s.cfg.profiles.get q).down ≤ level)
              ∧ ∀ p, 0 < p → p < target → (s.cfg.profiles.get p).enabled = true →
                  (s.cfg.profiles.get p).down ≤ level → p ≤ q)
        ∧ (s.link.state = .up → h.low ≤ level → ¬down →
            AfterReshares
              { reported with
                link := { s.link with
                  base := t.link.base
                  upshiftTimer := match s.link.pending, upCandidate s.cfg s.link with
                    | none, some q =>
                      if (s.cfg.profiles.get q).up ≤ level then some (s.link.upshiftTimer.getD (h.upshift * 1000))
                      else none
                    | _, _ => none } } t)
        ∧ (s.link.state = .fade → h.high ≤ level →
            AfterReshares
              { reported with link := { s.link with state := .up, fadeTimer := none, base := t.link.base } } t
            ∧ t.link.base = baseOf s.cfg t.link)
        ∧ (s.link.state = .fade → level < h.high → AfterNotices reported t)
        ∧ (s.link.state = .acquire ∨ s.link.state = .lost →
            (level < h.high → AfterNotices
              { reported with
                link := { s.link with restoreTimer := none, restoreDue := false, unbroken := false } } t)
            ∧ (h.high ≤ level → s.link.lockLevel = true → s.link.restoreTimer = none → confirmationWaits s = false →
                AfterNotices
                  { reported with link := { s.link with restoreTimer := some (h.restore * 1000) } } t)
            ∧ (h.high ≤ level →
                (s.link.lockLevel = false ∨ s.link.restoreTimer.isSome ∨ confirmationWaits s = true) →
                AfterNotices reported t)))

/-- LEVEL READ and LEVEL HISTORY: the replies, the refusal of a position or a number out of range, and of a port
below the VIEW group's minimum. The keys of the replies are the model's choice (log 6). -/
def Obligations.LevelReadsReply : Prop :=
  ∀ (s : State) (rq : Req) (start n : Option Int), Takes s rq → rq.extra = false →
    let u := portLine s rq.port
    let v := u.level
    (inGroup u rq.port .view = true → exec (.levelRead rq) s = .next (answered u rq (.ok
      [kv "level" (.optInt v.smoothed), kv "range" (.word v.range.word), kv "mode" (.word u.cfg.level.mode.word),
       kv "raw" (.optNat (v.last.map (·.raw))), kv "taken" (.optWord (v.last.map (·.range.word))),
       kv "value" (.optInt (v.last.map (·.value)))] [])))
    ∧ (inGroup u rq.port .view = true → inRange 0 31 start = true → inRange 1 12 n = true →
        exec (.levelHistory rq start n) s = .next (answered u rq (.ok
          [kv "held" (.nat v.history.length), kv "from" (.nat (natOr 0 start)),
           kv "levels" (.ints ((v.history.drop (natOr 0 start)).take (natOr 12 n)))] [])))
    ∧ (inGroup u rq.port .view = true → inRange 0 31 start = false ∨ inRange 1 12 n = false →
        exec (.levelHistory rq start n) s = .next (answered u rq (.no .noRange)))
    ∧ (inGroup u rq.port .view = false →
        exec (.levelRead rq) s = .next (answered u rq (.no .noLevel))
        ∧ exec (.levelHistory rq start n) s = .next (answered u rq (.no .noLevel)))

/-- LEVEL CAL in its two forms sets the fields it carries, and INDICATOR SET those of the indicator. -/
def Obligations.LevelSettingsSet : Prop :=
  ∀ (s : State) (rq : Req), Executes s rq (.group .linkCfg) →
    let u := portLine s rq.port
    (∀ (a : LevelCalArgs) (r : RangeName), a.range = some (.known r) → calFields a = true → rangeFields a = false →
      calFieldsOk a = true →
      let old := Cal.of u.cfg.level r
      let new : Cal :=
        { scale := natOr old.scale a.scale, shift := natOr old.shift a.shift, offset := intOr old.offset a.offset }
      ∃ l, exec (.levelCal rq a) s = .next (answered (u.settings fun cfg =>
        { cfg with level := putCal cfg.level r new }) rq (.ok l [])))
    ∧ (∀ a : LevelCalArgs, a.range = none → calFields a = false → rangeFields a = true →
      inRange 0 4095 a.xover = true → nameOk a.mode = true →
      ∃ l, exec (.levelCal rq a) s = .next (answered (u.settings fun cfg =>
        { cfg with level := { cfg.level with xover := natOr cfg.level.xover a.xover
                                             mode := nameOr cfg.level.mode a.mode } }) rq (.ok l [])))
    ∧ (∀ a : IndicatorArgs, (a.floor.isSome || a.span.isSome || a.polarity.isSome) = true →
      inRange (-1200) 0 a.floor = true → inRange 10 600 a.span = true → nameOk a.polarity = true →
      ∃ l, exec (.indicatorSet rq a) s = .next (answered (u.settings fun cfg =>
        { cfg with level := { cfg.level with
            floor := intOr cfg.level.floor a.floor, span := natOr cfg.level.span a.span
            polarity := nameOr cfg.level.polarity a.polarity } }) rq (.ok l [])))

/-- ALIGN START in STAGING with no record creates one for the port; it takes over a record held by MAST, with the MAST
flag set; on the port's own record it sets the interval it carries; on the other port's it is refused. The owner's ALIGN
MARK resets its peak; the owner's ALIGN STOP removes the record, or with the MAST flag gives it to MAST. The polarity
under which the indicator rests at the beginning and at the end is the one of the last report (DEDUCED, log 10). -/
def Obligations.AlignmentRequests : Prop :=
  ∀ (s : State) (rq : Req) (k : Option Int), Executes s rq (.group .align) →
    let u := portLine s rq.port
    (inRange 1 50 k = true → u.site.phase = .staging →
      (u.level.align = none →
        ∃ t r, exec (.alignStart rq k) s = .next (answered t rq (.ok r [])) ∧
          AfterNotices
            { u with
              level := { u.level with
                align := some { owner := .port rq.port, mastFlag := false, start := u.now, current := none, peak := none
                                reports := 0, interval := natOr 2 k, toNext := natOr 2 k }
                indicator := 0, density := densityOf u.level.outPolarity 0 }
              signals := u.signals ++ [.alignStart] } t)
      ∧ (∀ a, u.level.align = some a → a.owner = .mast →
        ∃ t r, exec (.alignStart rq k) s = .next (answered t rq (.ok r [])) ∧
          AfterNotices
            { u with level := { u.level with align := some { a with
                owner := .port rq.port, mastFlag := true, interval := natOr a.interval k
                toNext := natOr a.interval k } } } t)
      ∧ (∀ a, u.level.align = some a → a.owner = .port rq.port →
        ∃ r, exec (.alignStart rq k) s = .next (answered
          { u with level := { u.level with align := some { a with
              interval := natOr a.interval k, toNext := natOr a.toNext k } } } rq (.ok r [])))
      ∧ (∀ a p, u.level.align = some a → a.owner = .port p → p ≠ rq.port →
        exec (.alignStart rq k) s = .next (answered u rq (.no .noOwned))))
    ∧ (inRange 1 50 k = true → u.site.phase ≠ .staging →
        exec (.alignStart rq k) s = .next (answered u rq (.no .noPhase)))
    ∧ (∀ a, u.level.align = some a → a.owner = .port rq.port →
      (∃ r, exec (.alignMark rq) s = .next (answered
        { u with level := { u.level with align := some { a with
            peak := a.current.map fun x => (x, u.now), reports := 0 } } } rq (.ok r [])))
      ∧ (a.mastFlag = false → ∃ t r, exec (.alignStop rq) s = .next (answered t rq (.ok r [])) ∧
        AfterNotices
          { u with level := { u.level with align := none, indicator := 0, density := densityOf u.level.outPolarity 0 }
                   signals := u.signals ++ [.alignEnd] } t)
      ∧ (a.mastFlag = true → ∃ t r, exec (.alignStop rq) s = .next (answered t rq (.ok r [])) ∧
        AfterNotices
          { u with level := { u.level with align := some { a with
              owner := .mast, mastFlag := false, toNext := a.interval } } } t))

/-! ## The link supervisor -/

/-- LINK START from OFF brings the link to ACQUIRE, or to ALIGN under alignment, and begins the init sequence with the
LOOPOFF write; LINK STOP returns it to OFF with its profiles and base cleared, and is refused while a test holds it. -/
def Obligations.LinkStartsAndStops : Prop :=
  ∀ (s : State) (rq : Req), Executes s rq (.group .linkCfg) →
    let u := portLine s rq.port
    (u.link.state = .off →
      ∃ t r, exec (.linkStart rq) s = .next (answered t rq (.ok r []))
        ∧ AfterReshares
            { u with
              link := { u.link with
                state := if u.link.alignInd then .align else .acquire, restoreTimer := none, init := t.link.init
                base := 0 }
              bus := { u.bus with internalSlot := t.bus.internalSlot, noteLink := t.bus.noteLink } } t
        ∧ t.link.init.isSome = true
        ∧ (u.link.discardInit = false → u.bus.internalSlot = none →
            t.link.init = some
              { second := false, attempt := 1, place := .offered
                formed := some (u.cfg.templates.loopOff.addr, u.cfg.templates.loopOff.bytes) }
            ∧ t.bus.internalSlot = some (linkTxn .init none 1 false u.cfg.templates.loopOff.addr
                u.cfg.templates.loopOff.bytes)))
    ∧ (u.link.state ≠ .off → u.link.state ≠ .test →
      ∃ t r, exec (.linkStop rq) s = .next (answered t rq (.ok r []))
        ∧ AfterReshares
            { u with
              link := { u.link with
                state := .off, base := 0, confirmed := none, pending := none, guard := none, fadeTimer := none
                restoreTimer := none, upshiftTimer := none, restoreDue := false, unbroken := false, init := none
                discardInit := t.link.discardInit, discardProfile := profileInProgress u }
              bus := { u.bus with
                profileSlot := none, internalSlot := t.bus.internalSlot, noteLink := t.bus.noteLink
                noteTest := t.bus.noteTest } } t)
    ∧ (u.link.state = .test → exec (.linkStop rq) s = .next (answered u rq (.no .noBusy)))

/-- PROFILE SET, TEMPLATE SET and LINK SET change what they carry and nothing else; LINK SET, where it changes the
reserve, also gives it to the share engine as a reshare event. That a reserve equal to the one in force is no change is
the model's choice (log 20). -/
def Obligations.LinkSettingsSet : Prop :=
  ∀ (s : State) (rq : Req), Executes s rq (.group .linkCfg) →
    let u := portLine s rq.port
    (∀ (p : Fin 8) (a : ProfileArgs), (u.link.state = .off ∨ u.link.state = .acquire ∨ u.link.state = .align) →
      profileArgsOk p a = true →
      let old := u.cfg.profiles.get p
      let new : Profile :=
        { enabled := a.enabled.getD old.enabled, cap := natOr old.cap a.cap, up := a.up.getD old.up
          down := a.down.getD old.down, code := (a.code.map fun i => BitVec.ofNat 8 i.toNat).getD old.code }
      tableOk (u.cfg.profiles.set p new) = true →
      ∃ l, exec (.profileSet rq (some p.val) a) s = .next (answered
        { u with cfg := { u.cfg with profiles := u.cfg.profiles.set p new } } rq (.ok l [])))
    ∧ (∀ (n : TemplateName) (a : TemplateArgs), u.link.state = .off →
      let old := u.cfg.templates.get n
      let new : Template :=
        { addr := natOr old.addr a.addr, bytes := a.bytes.getD old.bytes, pos := natOr old.pos a.pos }
      templateOk n a new = true →
      ∃ l, exec (.templateSet rq (some (.known n)) a) s = .next (answered
        { u with cfg := { u.cfg with templates := u.cfg.templates.put n new } } rq (.ok l [])))
    ∧ (∀ a : LinkSetArgs, linkArgsOk a = true →
      let old := u.cfg.link
      let new : LinkSettings :=
        { high := a.high.getD old.high, low := a.low.getD old.low, fade := natOr old.fade a.fade
          restore := natOr old.restore a.restore, upshift := natOr old.upshift a.upshift
          reserve := natOr old.reserve a.reserve, autostart := nameOr old.autostart a.autostart }
      new.low < new.high →
      (u.link.state = .off ∨ u.link.state = .acquire ∨ u.link.state = .align
        ∨ a.high = none ∧ a.low = none ∧ a.fade = none) →
      let v : State := { u with cfg := { u.cfg with link := new } }
      (new.reserve = old.reserve → ∃ l, exec (.linkSet rq a) s = .next (answered v rq (.ok l [])))
      ∧ (new.reserve ≠ old.reserve → ∃ t l, exec (.linkSet rq a) s = .next (answered t rq (.ok l []))
          ∧ AfterReshares v t ∧ t.share.reserve = new.reserve ∧ t.counts.reshares = bump u.counts.reshares))

/-- The fade timer's expiry in FADE: LOST with base 0, counted in LINK_LOSSES. -/
def Obligations.FadeTimerEndsInLost : Prop :=
  ∀ s : State, s.run = .running → s.link.state = .fade → s.link.fadeTimer.isSome →
    ∃ t, exec .fadeTimerExpiry s = .next (settle t)
      ∧ AfterReshares
          { s with
            link := { s.link with
              state := .lost, fadeTimer := none, restoreTimer := none, upshiftTimer := none, base := 0 }
            counts := { s.counts with linkLosses := bump s.counts.linkLosses } } t
      ∧ t.share.base = (if s.link.base = 0 then s.share.base else 0)

/-- The restore timer's expiry issues the confirmation write to profile 0, or sets restore due while the init sequence
runs; the upshift hold's expiry in UP with no write pending issues the candidate's profile write. The completion of a
write of the init sequence hands the same write back for up to 3 attempts, goes on to the second write, or ends the
sequence, which a restore due then follows with the confirmation write. The completion of a confirmation write brings
the link UP, or restarts the restore timer; of any other profile write it confirms the target, hands the same write back
for up to 3 attempts, gives it up, or leaves it to the newer write in the slot. -/
def Obligations.LinkTimersIssueWrites : Prop :=
  (∀ s : State, s.run = .running →
    (s.link.restoreTimer.isSome → s.link.init = none →
      ∃ t, exec .restoreTimerExpiry s = .next (settle t)
        ∧ AfterReshares
            { s with
              link := { s.link with
                restoreTimer := none, restoreDue := false, unbroken := true, pending := some 0, base := t.link.base }
              bus := { s.bus with profileSlot := some (profileWrite s.cfg 0 true) }
              signals := s.signals ++ [.busChoose] } t
        ∧ t.link.base = baseOf s.cfg t.link)
    ∧ (s.link.restoreTimer.isSome → s.link.init.isSome →
      exec .restoreTimerExpiry s = .next (settle
        { s with link := { s.link with restoreTimer := none, restoreDue := true } }))
    ∧ (∀ q, s.link.state = .up → s.link.pending = none → upCandidate s.cfg s.link = some q →
        s.link.upshiftTimer.isSome →
      ∃ t, exec .upshiftHoldExpiry s = .next (settle t)
        ∧ AfterReshares
            { s with
              link := { s.link with upshiftTimer := none, pending := some q, base := t.link.base }
              bus := { s.bus with profileSlot := some (profileWrite s.cfg q false) }
              signals := s.signals ++ [.busChoose] } t
        ∧ t.link.base = baseOf s.cfg t.link))
  ∧ (∀ (s : State) (x : Txn) (w : InitWrite), x.purpose = some .init → s.link.discardInit = false →
      s.link.init = some w → s.bus.internalSlot = none →
    let t := deliver s (.completeLink x)
    let failed := x.status ≠ some .ok
    let handed := fun (v : InitWrite) (f : Nat × List Byte) =>
      AfterReshares
        { s with
          link := { s.link with init := some { v with place := .offered, formed := some f }, base := t.link.base }
          bus := { s.bus with internalSlot := some (linkTxn .init none v.attempt false f.1 f.2) }
          counts := { s.counts with oduFaults := t.counts.oduFaults } } t
    (failed → w.attempt < 3 → ∀ f, w.formed = some f →
      handed { w with attempt := w.attempt + 1 } f ∧ t.counts.oduFaults = s.counts.oduFaults)
    ∧ (w.second = false → (failed → 3 ≤ w.attempt) →
      handed { second := true, attempt := 1, place := .offered, formed := none }
        (s.cfg.templates.profile.addr, profileBytes s.cfg 0)
      ∧ t.counts.oduFaults = (if x.status = some .ok then s.counts.oduFaults else bump s.counts.oduFaults))
    ∧ (w.second = true → (failed → 3 ≤ w.attempt) →
      AfterReshares
        { s with
          link := { s.link with
            init := none, base := t.link.base, unbroken := s.link.unbroken || s.link.restoreDue, restoreDue := false
            pending := if s.link.restoreDue then some 0 else s.link.pending }
          bus := { s.bus with
            profileSlot := if s.link.restoreDue then some (profileWrite s.cfg 0 true) else s.bus.profileSlot }
          counts := { s.counts with oduFaults := t.counts.oduFaults } } t
      ∧ t.counts.oduFaults = (if x.status = some .ok then s.counts.oduFaults else bump s.counts.oduFaults)))
  ∧ (∀ (s : State) (x : Txn) (p : Fin 8), x.purpose = some .profile → s.link.discardProfile = false →
      x.target = some p →
    let t := deliver s (.completeLink x)
    let waiting : Option (Fin 8) := s.bus.profileSlot.bind (·.target)
    let again : Txn := { x with attempt := x.attempt + 1, status := none, written := 0, data := [] }
    let restoring : Prop := s.link.state = .acquire ∨ s.link.state = .lost
    let counted (q : Fin 8) : Counters := { s.counts with
      profileUp := if s.link.confirmed.any (· < q) then bump s.counts.profileUp else s.counts.profileUp
      profileDown := if s.link.confirmed.any (q < ·) then bump s.counts.profileDown else s.counts.profileDown }
    t.link.base = baseOf s.cfg t.link
    ∧ (x.confirm = true → x.status = some .ok → s.link.unbroken = true → restoring →
      AfterReshares
        { s with
          link := { s.link with
            state := .up, confirmed := some 0, guard := none, pending := none, restoreTimer := none
            restoreDue := false, unbroken := false, base := t.link.base }
          counts := counted 0 } t)
    ∧ (x.confirm = true → x.status ≠ some .ok →
      AfterReshares
        { s with
          link := { s.link with
            pending := waiting, base := t.link.base
            restoreTimer := if s.link.state = .acquire ∨ s.link.state = .lost then some (s.cfg.link.restore * 1000)
              else s.link.restoreTimer } } t)
    ∧ (∀ q, x.status = some .ok →
        (x.confirm = false ∧ q = p ∨ x.confirm = true ∧ q = 0 ∧ (s.link.unbroken = true → ¬restoring)) →
      AfterReshares
        { s with
          link := { s.link with confirmed := some q, guard := none, pending := waiting, base := t.link.base }
          counts := counted q } t)
    ∧ (x.confirm = false → x.status ≠ some .ok → s.bus.profileSlot.isSome →
      AfterReshares { s with link := { s.link with base := t.link.base } } t)
    ∧ (x.confirm = false → x.status ≠ some .ok → s.bus.profileSlot = none → x.attempt < 3 →
      AfterReshares
        { s with
          link := { s.link with base := t.link.base }
          bus := { s.bus with profileSlot := some again } } t)
    ∧ (x.confirm = false → x.status ≠ some .ok → s.bus.profileSlot = none → 3 ≤ x.attempt →
      AfterReshares
        { s with
          link := { s.link with
            pending := none, base := t.link.base
            guard := if s.link.confirmed.any (p < ·) then some p else none }
          counts := { s.counts with oduFaults := bump s.counts.oduFaults } } t))

/-- The base capacity: the least capacity among the confirmed, the pending and the guard profile while the link is UP or
FADE with a confirmed profile, and 0 otherwise. Every step keeps the base at that value, and every step leaves the
selected timing source, where there is one, QUALIFIED and not under test. -/
def Obligations.BaseIsLeastCapacity : Prop :=
  (∀ (cfg : Settings) (k : Link),
    (k.state ≠ .up → k.state ≠ .fade → baseOf cfg k = 0) ∧ (k.confirmed = none → baseOf cfg k = 0)
    ∧ (∀ c, (k.state = .up ∨ k.state = .fade) → k.confirmed = some c →
        baseOf cfg k ≤ (cfg.profiles.get c).cap
        ∧ (∀ p, k.pending = some p → baseOf cfg k ≤ (cfg.profiles.get p).cap)
        ∧ (∀ g, k.guard = some g → baseOf cfg k ≤ (cfg.profiles.get g).cap)
        ∧ (baseOf cfg k = (cfg.profiles.get c).cap
            ∨ (∃ p, k.pending = some p ∧ baseOf cfg k = (cfg.profiles.get p).cap)
            ∨ ∃ g, k.guard = some g ∧ baseOf cfg k = (cfg.profiles.get g).cap)))
  ∧ (∀ s t : State, BaseAgrees s → step s = .next t → BaseAgrees t)
  ∧ ∀ s t : State, SelectionQualified s → step s = .next t → SelectionQualified t

/-! ## The discrete inputs -/

/-- Filtered changes of MAST_MOVING, ODU_LOCK and SVC_CONNECT, and what the blocks that take them do. Such a row sets
the pin and cancels a change under test (the model's choice, log 7), and the polarity under which the indicator rests as
alignment begins and ends is the one of the last report (DEDUCED, log 10). -/
def Obligations.InputChangesTaken : Prop :=
  ∀ s : State, s.run = .running →
    let set := fun i level => s.setInput i { pin := level, filtered := level, change := none }
    let rest : Level := { s.level with indicator := 0, density := densityOf s.level.outPolarity 0 }
    let begun : AlignRec :=
      { owner := .mast, mastFlag := false, start := s.now, current := none, peak := none, reports := 0, interval := 2
        toNext := 2 }
    (s.site.inputs.mastMoving.filtered = false →
      ∃ t, exec (.mastMovingChange true) s = .next (settle t)
        ∧ AfterNotices { set .mastMoving true with level := t.level, tests := t.tests, signals := t.signals } t
        ∧ (s.level.align = none → t.level = { rest with align := some begun })
        ∧ (∀ a p, s.level.align = some a → a.owner = .port p →
            t.level = { s.level with align := some { a with mastFlag := true } })
        ∧ (s.tests.current = none →
            t.tests = s.tests ∧ t.signals = s.signals ++ (if s.level.align = none then [.alignStart] else []))
        ∧ (∀ r, s.tests.current = some r → s.link.claim = some r.number → r.state = .running → r.pending = none →
            t.tests.current = some { r with pending := some (.aborted, some .mast) })
        ∧ (∀ r, s.tests.current = some r → s.link.claim ≠ some r.number → t.tests = s.tests))
    ∧ (s.site.inputs.mastMoving.filtered = true →
      (s.level.align.map (·.owner) = some .mast →
        ∃ t, exec (.mastMovingChange false) s = .next (settle t)
          ∧ AfterNotices
              { set .mastMoving false with level := { rest with align := none }
                                           signals := s.signals ++ [.alignEnd] } t)
      ∧ (∀ a p, s.level.align = some a → a.owner = .port p →
          exec (.mastMovingChange false) s = .next (settle
            { set .mastMoving false with level := { s.level with align := some { a with mastFlag := false } } }))
      ∧ (s.level.align = none → exec (.mastMovingChange false) s = .next (settle (set .mastMoving false))))
    ∧ (∀ level, s.site.inputs.oduLock.filtered = !level →
      let carries := s.link.state = .up ∨ s.link.state = .fade
      let restoring := s.link.state = .acquire ∨ s.link.state = .lost
      (level = true ∨ ¬carries ∧ ¬restoring →
        exec (.oduLockChange level) s = .next (settle
          { set .oduLock level with link := { s.link with lockLevel := level } }))
      ∧ (level = false → restoring →
        exec (.oduLockChange level) s = .next (settle
          { set .oduLock level with link := { s.link with
              lockLevel := false, restoreTimer := none, restoreDue := false, unbroken := false } }))
      ∧ (level = false → carries →
        ∃ t, exec (.oduLockChange level) s = .next (settle t)
          ∧ AfterReshares
              { set .oduLock level with
                link := { s.link with
                  lockLevel := false, state := .lost, fadeTimer := none, upshiftTimer := none, restoreTimer := none
                  base := 0 }
                counts := { s.counts with linkLosses := bump s.counts.linkLosses } } t))
    ∧ (s.site.inputs.svcConnect.filtered = true →
      ∃ t, exec .svcConnectDeassert s = .next (settle t)
        ∧ t = { set .svcConnect false with
                level := t.level, bus := t.bus, ports := t.ports
                counts := { s.counts with noticeDrops := t.counts.noticeDrops
                                          busHoldExpired := t.counts.busHoldExpired }
                signals := t.signals }
        ∧ SameLine (s.port .main) (t.port .main)
        ∧ SameLine { s.port .service with access := .opened } (t.port .service)
        ∧ (s.level.align.map (·.owner) ≠ some (.port .service) → t.level = s.level)
        ∧ (∀ a, s.level.align = some a → a.owner = .port .service → t.level =
            (if s.site.inputs.mastMoving.filtered = true then
              { s.level with align := some { a with owner := .mast, mastFlag := false, toNext := a.interval } }
             else { rest with align := none }))
        ∧ (s.bus.current = none → t.bus = { s.bus with
            hold := if s.bus.hold.map (·.port) = some .service then none else s.bus.hold }))
    ∧ (s.site.inputs.svcConnect.filtered = false → exec .svcConnectAssert s = .next (settle (set .svcConnect true)))

/-- A raw level reaches the filter at the millisecond tick: the pin's change itself takes the level and nothing else. At
the tick a pin that differs from the filtered level puts a change under test with 0 ms, or adds 1 ms to the change under
test, and a pin that has returned cancels it; the change is taken at the tick at which its held time is at or above the
filter time, with a filter time of 0 at the tick that first sees it. -/
def Obligations.PinLevelsGoUnderTest : Prop :=
  ∀ (s : State) (i : InputPin),
    let x := s.site.inputs.get i
    let after (c : Option (Bool × Nat)) : State := s.setInput i { x with change := c }
    (∀ level, exec (.inputPinChange i level) s = .next (s.setInput i { x with pin := level }))
    ∧ (x.pin = x.filtered → lowerInput s i = after none ∧ changeDue (lowerInput s i) i = none)
    ∧ (x.pin ≠ x.filtered → x.change = none →
        lowerInput s i = after (some (x.pin, 0))
        ∧ (changeDue (lowerInput s i) i = if s.cfg.filters.get i = 0 then some x.pin else none))
    ∧ (∀ l n, x.pin ≠ x.filtered → x.change = some (l, n) →
        lowerInput s i = after (some (x.pin, n + 1))
        ∧ (changeDue (lowerInput s i) i = if s.cfg.filters.get i ≤ n + 1 then some x.pin else none))

/-! ## The ODU bus controller -/

/-- BUS XFER that passes its checks enters the FIFO with reply GO; with 4 waiting it is refused with NO FULL; a failed
check is answered REQ_ERROR and changes no state (that this answer is an OK, its cause and its keys are the model's
choice, logs 11 and 6). The controller, when no transaction is in progress, takes with no hold the profile slot, then
the internal slot, then the head of the FIFO, and under a hold the first transaction of the holding port; a continuation
that finds no hold ends CANCELLED. -/
def Obligations.BusXferQueues : Prop :=
  (∀ (s : State) (rq : Req) (a : XferArgs), Executes s rq (.group .bus) →
    let u := portLine s rq.port
    let fl := a.flags.getD [.start, .stop]
    (xferCause a fl = none → u.bus.fifo.length < 4 →
      ∃ x, exec (.busXfer rq a) s = .next (answered
          { u with bus := { u.bus with fifo := u.bus.fifo ++ [x] }, signals := u.signals ++ [.busChoose] } rq .go)
        ∧ x.requester = .port rq.port ∧ x.tag = some rq.tag ∧ some (x.addr : Int) = a.addr ∧ x.write = a.write
        ∧ x.read = natOr 0 a.read ∧ (x.start = true ↔ .start ∈ fl) ∧ (x.stop = true ↔ .stop ∈ fl)
        ∧ (x.ackLast = true ↔ .ackLast ∈ fl) ∧ (x.cont = true ↔ .cont ∈ fl) ∧ x.status = none)
    ∧ (xferCause a fl = none → 4 ≤ u.bus.fifo.length → exec (.busXfer rq a) s = .next (answered u rq (.no .noFull)))
    ∧ (∀ c, xferCause a fl = some c →
      exec (.busXfer rq a) s = .next (answered u rq
        (.ok [kv "status" (.word "REQ_ERROR"), kv "cause" (.word c)] []))))
  ∧ (∀ s : State,
    let t := deliver s .busChoose
    let b := s.bus
    let taken (x : Txn) (started : Bool) : Option InProgress :=
      some { txn := x, ms := 0, started := started, expiry := none }
    let mine (h : Hold) (x : Txn) := x.requester = .port h.port
    let results (x : Txn) (p : Port) : List Txn :=
      (b.results.get p ++ [{ x with status := some .cancelled, written := 0, data := [] }]).drop
        ((b.results.get p).length + 1 - 4)
    (b.current.isSome → t = s)
    ∧ (b.current = none → b.hold = none →
      (∀ x, b.profileSlot = some x → x.start = true →
        t = { s with bus := { b with profileSlot := none, current := taken x false } })
      ∧ (∀ x, b.profileSlot = none → b.internalSlot = some x → x.start = true →
        t = { s with
          bus := { b with internalSlot := none, noteLink := false, noteTest := false, current := taken x false }
          signals := s.signals ++ (if b.noteLink then [.slotFreeLink] else [])
            ++ (if b.noteTest then [.slotFreeTest] else []) })
      ∧ (∀ x l, b.profileSlot = none → b.internalSlot = none → b.fifo = x :: l → x.start = true →
        t = { s with bus := { b with fifo := l, current := taken x false } })
      ∧ (∀ x p, b.profileSlot = none → b.internalSlot = none → b.fifo = [x] → x.start = false →
          x.requester = .port p →
        AfterNotices { s with bus := { b with fifo := [], results := b.results.put p (results x p) } } t)
      ∧ (b.profileSlot = none → b.internalSlot = none → b.fifo = [] → t = s))
    ∧ (∀ h, b.current = none → b.hold = some h →
      ((∀ x ∈ b.fifo, ¬mine h x) → t = s)
      ∧ (∀ x before after, b.fifo = before ++ x :: after → (∀ y ∈ before, ¬mine h y) → mine h x →
        (x.start = true →
          t = { s with bus := { b with
            fifo := before ++ after, current := taken x (decide (h.phase ≠ .closed)) } })
        ∧ (x.start = false →
            (if x.read = 0 then h.phase = .write else h.phase = .readAcked) →
          t = { s with bus := { b with fifo := before ++ after, current := taken x true } }))))

/-- The start condition goes out; the 200 ms and the 20 ms timeouts and the ends OK, NAK and ARB_LOST complete the
transaction in progress with its status, its counter, its bytes, its place among the last 4 results of its port, and the
hold it leaves (`TxnEnded`). That bytes beyond those the transaction asks for are cut, and that an OK whose data is not
exactly the bytes asked for has no effect, are the model's choices (log 7), and so is that the record reaches its
requester before the controller chooses again (log 3). -/
def Obligations.BusTransactionsEnd : Prop :=
  ∀ (s : State) (x : InProgress), s.run = .running → s.bus.current = some x →
    exec .busFreeStart s = .next (settle { s with bus := { s.bus with current := some { x with started := true } } })
    ∧ (x.started = false → ∃ t, exec .busFreeTimeout s = .next (settle t) ∧ TxnEnded s t x .timeout 0 [])
    ∧ (∀ w data, ∃ t, exec (.byteStretchTimeout w data) s = .next (settle t)
        ∧ TxnEnded s t x .timeout (min w x.txn.write.length) (data.take x.txn.read))
    ∧ (∀ data, data.length = x.txn.read → ∃ t, exec (.transactionComplete (.ok data)) s = .next (settle t)
        ∧ TxnEnded s t x .ok x.txn.write.length data)
    ∧ (∀ data, data.length ≠ x.txn.read → exec (.transactionComplete (.ok data)) s = .next (settle s))
    ∧ (∀ w, ∃ t, exec (.transactionComplete (.nak w)) s = .next (settle t)
        ∧ TxnEnded s t x .nak (min w x.txn.write.length) [])
    ∧ (∀ w data, ∃ t, exec (.transactionComplete (.arbLost w data)) s = .next (settle t)
        ∧ TxnEnded s t x .arbLost (min w x.txn.write.length) (data.take x.txn.read))

/-- A hold whose deadline passes with no transaction in progress ends, counted in BUS_HOLD_EXPIRED. -/
def Obligations.BusHoldExpires : Prop :=
  ∀ (s : State) (h : Hold), s.run = .running → s.bus.hold = some h → s.bus.current = none →
    ∃ t, exec .holdDeadlineExpiry s = .next (settle t)
      ∧ AfterNotices
          { s with bus := { s.bus with hold := none }
                   counts := { s.counts with busHoldExpired := bump s.counts.busHoldExpired }
                   signals := s.signals ++ [.busChoose] } t

/-! ## The site clock and the timing selector -/

/-- A second boundary advances the seconds by 1 and takes the correction that is due, a permitted jump or else the held
steer, on the RC timebase none: a positive one begins the nanoseconds, a negative one is followed by a start hold. The
latched pulse settings become active, the squelch is decided by the mode in force and the copies held, and the pulse
starts. The timing selector's settings that wait for a boundary apply, its offsets move by the correction, and in
HOLDOVER one more second is counted, past the limit to FREERUN. The selection is made afresh by the priorities and the
revertive setting then in force: a source that is no longer QUALIFIED or is under test, and under revertive ON any other
too, gives way to the preferred one, and a change of the selection cancels a jump request. That the last jump amount is
absent after an applied jump is the model's choice (log 22), and so is that the row lets the time up to the boundary
pass (log 1). -/
def Obligations.SecondBoundaryAdvances : Prop :=
  ∀ s : State, s.run = .running →
    let k := s.clock
    let p := s.cfg.pulse
    let due : Option Int := if k.permitted = true ∧ k.oscBad = false then k.jump else none
    let c : Int := match due with | some j => j | none => if k.oscBad then 0 else k.steer.getD 0
    let rest : Nat :=
      if k.oscBad = true ∧ k.passing = false then (32768 - k.rcCycle) * 1000000000
      else (k.startHold.getD 0 + (1000000000 - k.ns)) / 10 * 327680
    let squelched : Bool := match p.squelch with
      | .never => k.oscBad
      | .freerun => k.oscBad || k.tstate == .freerun
      | .unfit => k.oscBad || k.grade != .tddOk
    let on := !squelched && p.width != 0
    let moved : Int :=
      if due.isSome then s.timing.lastJump.getD 0 else if s.timing.oscCopy then 0 else s.timing.handed.getD 0
    ∃ t, exec .secondBoundary s = .next (settle t)
      ∧ AfterReshares
          { s with clock := t.clock, timing := t.timing, free := t.free
                   counts := { s.counts with jumps := if due.isSome then bump s.counts.jumps else s.counts.jumps } } t
      ∧ t.clock.sec = k.sec + 1 ∧ t.clock.active = p ∧ t.clock.steer = none ∧ t.clock.oscBad = k.oscBad
      ∧ (due.isSome → t.clock.jump = none)
      ∧ (k.owed = 0 → c ≤ 999999990 →
          t.clock = { k with
            sec := k.sec + 1, ns := c.toNat, rcCycle := 0, steer := none, jump := t.clock.jump
            startHold := if c < 0 then some c.natAbs else none
            active := p, squelched := squelched, ppsActive := on
            pulseLeft := if on && p.width != 1000 then some (p.width * 32768000000) else none
            captures := k.captures.map fun r => if r.last.isSome then { r with elapsed := r.elapsed + rest } else r
            ahead := k.ahead + rest, permitted := t.clock.permitted, tstate := t.timing.state
            grade := t.timing.grade })
      ∧ t.timing.latch = .of s.cfg ∧ t.timing.handed = none
      ∧ (∀ i, let r := s.timing.sources.get i
          t.timing.sources.get i = { r with
            lastOffset := r.lastOffset.map (· + moved), fresh := r.fresh.map (· + moved)
            anchor := r.anchor.map fun a => { min := a.min + moved, max := a.max + moved } })
      ∧ (due.isSome → t.timing.jumpReq = none ∧ t.timing.lastJump = none)
      ∧ (due.isSome → s.timing.jumpReq.isSome → t.timing.lockRun = 0 ∧ t.share.jump = false)
      ∧ (∀ e n, s.timing.state = .holdover → s.timing.selected = none → (∀ i, ¬Selectable s i) →
          s.timing.entryBound = some e → s.timing.holdSecs = some n → n < 2 ^ 32 - 1 →
          let b := e + s.cfg.timing.drift * (n + 1)
          (b ≤ s.cfg.timing.holdover →
            t.timing.state = .holdover ∧ t.timing.holdSecs = some (n + 1) ∧ t.timing.bound = some b)
          ∧ (s.cfg.timing.holdover < b → t.timing.state = .freerun ∧ t.timing.bound = none))
      ∧ (s.timing.state ≠ .holdover → t.timing.selected = s.timing.selected → t.timing.state = s.timing.state)
      ∧ (∀ i, s.timing.selected = none → Preferred t i → NewlySelected t i)
      ∧ (∀ i j, s.timing.selected = some j → ¬Selectable t j → Preferred t i → NewlySelected t i)
      ∧ (∀ i j, s.timing.selected = some j → s.cfg.timing.revertive = true → Preferred t i → i ≠ j →
          NewlySelected t i)
      ∧ (∀ j, s.timing.selected = some j → Selectable t j → (s.cfg.timing.revertive = false ∨ Preferred t j) →
          t.timing.selected = some j)
      ∧ ((∀ i, ¬Selectable t i) → t.timing.selected = none)
      ∧ (due = none → JumpFollows s t)
      ∧ BoundAndGrade t

/-- The end of a start hold, which leaves the nanoseconds where they are, and of a pulse, which lets its width pass: a
start hold takes that time first. That each row lets its time pass, and counts the time that EMPTY steps have not yet
brought, is the model's choice (log 1), and so is that START_HOLD_END with no start hold and PULSE_WIDTH_END with no
pulse have no effect (log 7). Steps past the wrap are lost to site time (the model's choice, log 24). -/
def Obligations.ClockHoldsEnd : Prop :=
  ∀ s : State, s.run = .running →
    let k := s.clock
    let passed (u : Nat) : PerSource CaptureRec :=
      k.captures.map fun r => if r.last.isSome then { r with elapsed := r.elapsed + u } else r
    (∀ h, k.startHold = some h →
      exec .startHoldEnd s = .next (settle
        { s with clock := { k with
            startHold := none, captures := passed (h * 32768), ahead := k.ahead + h * 32768
            pulseLeft := k.pulseLeft.map (· - h * 32768) } }))
    ∧ (k.startHold = none → exec .startHoldEnd s = .next (settle s))
    ∧ (∀ u, k.pulseLeft = some u →
      let n := u / 327680
      let ended : Clock := { k with
        ppsActive := false, pulseLeft := none, captures := passed (n * 327680), ahead := k.ahead + n * 327680 }
      (k.startHold = none → exec .pulseWidthEnd s = .next (settle
        { s with clock := { ended with ns := min (k.ns + 10 * n) 999999990 } }))
      ∧ (∀ h, k.startHold = some h → 10 * n < h → exec .pulseWidthEnd s = .next (settle
        { s with clock := { ended with startHold := some (h - 10 * n) } }))
      ∧ (∀ h, k.startHold = some h → h ≤ 10 * n → exec .pulseWidthEnd s = .next (settle
        { s with clock := { ended with startHold := none, ns := min (k.ns + (10 * n - h)) 999999990 } })))
    ∧ (k.pulseLeft = none → exec .pulseWidthEnd s = .next (settle s))

/-- A steering point uses up every fresh capture. One of the selected source in LOCKED steers against its offset, at
most by the slew rate, and moves the unlock run: at the lock count the state is LOCKING. In LOCKING an offset beyond the
jump limit raises a jump request, a request present takes the new offset, and any other steers and moves the lock run:
at the lock count the state is LOCKED. That the row lets the time up to the steering point pass is the model's choice
(log 1), and so is that a run which the fresh capture resets makes no change, where the lock count was lowered to the
run counted before (log 22). -/
def Obligations.SteeringPointCorrects : Prop :=
  ∀ s : State, s.run = .running →
    let k := s.clock.advance s.clock.stepsToSteering
    let g := s.cfg.timing
    let τ := s.timing
    ∃ t, exec .steeringPoint s = .next (settle t)
      ∧ AfterReshares { s with clock := t.clock, timing := t.timing } t ∧ BoundAndGrade t
      ∧ (let leaves (v : Timing) (steer jump : Option Int) : Prop :=
          t.timing = { v with sources := τ.sources.map fun r => { r with fresh := none }
                              bound := t.timing.bound, grade := t.timing.grade }
          ∧ t.clock = { k with steer := steer, jump := jump, tstate := v.state, grade := t.timing.grade
                               permitted := t.clock.permitted }
        ((τ.state = .freerun ∨ τ.state = .holdover ∨ ∀ i, τ.selected = some i → (τ.sources.get i).fresh = none) →
          leaves τ k.steer k.jump)
        ∧ ∀ i x, τ.selected = some i → (τ.sources.get i).fresh = some x →
          let c : Int := max (-(g.slew : Int)) (min g.slew (-x))
          let locks := if x.natAbs ≤ g.window then min 60 (τ.lockRun + 1) else 0
          let slips := if g.window < x.natAbs then min 60 (τ.unlockRun + 1) else 0
          (τ.state = .locking → τ.jumpReq = none → x.natAbs ≤ g.jump →
            (locks < g.lockcount → leaves { τ with handed := some c, lockRun := locks } (some c) k.jump)
            ∧ (g.lockcount ≤ locks →
              leaves { τ with handed := some c, lockRun := locks, state := .locked, everLocked := true, unlockRun := 0 }
                (some c) k.jump))
          ∧ (τ.state = .locking → τ.jumpReq = none → g.jump < x.natAbs →
            leaves { τ with lockRun := 0, jumpReq := some { amount := -x, source := i }, lastJump := some (-x) }
                k.steer (some (-x)) ∧ t.share.jump = true)
          ∧ (∀ j, τ.state = .locking → τ.jumpReq = some j →
            (j.amount = -x → leaves τ k.steer k.jump)
            ∧ (j.amount ≠ -x →
              leaves { τ with jumpReq := some { amount := -x, source := j.source }, lastJump := some (-x) }
                k.steer (some (-x))))
          ∧ (τ.state = .locked →
            (slips < g.lockcount → leaves { τ with handed := some c, unlockRun := slips } (some c) k.jump)
            ∧ (g.lockcount ≤ slips →
              leaves { τ with handed := some c, unlockRun := slips, state := .locking, lockRun := 0 }
                (some c) k.jump)))

/-- The oscillator check: a bad window on the LO timebase sets OSC_BAD with grade OSC_FAIL and every enabled source in
CHECK, and is counted; counting passes to the RC clock at the next RC cycle edge, at the least cycle whose reading is at
or above the nanoseconds then held. The eighth good window in a row on the RC timebase clears OSC_BAD; any other window
only moves the run. That a count past 65535 stays there is the model's choice (log 25), and so is that the time by which
commands were ahead of the RC cycles is dropped as counting passes to the RC clock (log 1). -/
def Obligations.OscillatorChecked : Prop :=
  (∀ (s : State) (n : Nat), s.run = .running →
    let count := min 65535 (n / 1024)
    let seen : Clock := { s.clock with lastWindow := some count, windowRc := 0, windowLo := 0 }
    (s.clock.oscBad = false → (count < 1000 ∨ 1450 < count) →
      ∃ t, exec (.oscCheckWindowEnd n) s = .next (settle t)
        ∧ t.timing.grade = .oscFail ∧ t.timing.state = .freerun ∧ t.timing.selected = none
        ∧ t.timing.jumpReq = none ∧ t.timing.bound = none
        ∧ (∀ i, (t.timing.sources.get i).state =
            if (s.timing.sources.get i).state = .off then .off else .check)
        ∧ AfterReshares
            { s with clock := { seen with oscBad := true, passing := true, goodRun := 0, startHold := none
                                          ppsActive := false, pulseLeft := none, squelched := true
                                          jump := if s.timing.jumpReq.isSome then none else s.clock.jump
                                          tstate := .freerun, grade := .oscFail }
                     timing := t.timing
                     counts := { s.counts with oscFails := bump s.counts.oscFails } } t)
    ∧ (s.clock.oscBad = true → 1100 ≤ count → count ≤ 1350 → s.clock.goodRun = 7 →
      ∃ t, exec (.oscCheckWindowEnd n) s = .next (settle t) ∧ t.timing.oscCopy = false
        ∧ AfterReshares
            { s with clock := { seen with goodRun := 8, oscBad := false, passing := false, rcCycle := 0
                                          tstate := t.clock.tstate, grade := t.clock.grade }
                     timing := t.timing } t)
    ∧ (s.clock.oscBad = true → 1100 ≤ count → count ≤ 1350 → s.clock.goodRun < 7 →
      exec (.oscCheckWindowEnd n) s = .next (settle { s with clock := { seen with goodRun := s.clock.goodRun + 1 } }))
    ∧ (s.clock.oscBad = true → (count < 1100 ∨ 1350 < count) →
      exec (.oscCheckWindowEnd n) s = .next (settle { s with clock := { seen with goodRun := 0 } }))
    ∧ (s.clock.oscBad = false → 1000 ≤ count → count ≤ 1450 →
      exec (.oscCheckWindowEnd n) s = .next (settle { s with clock := seen })))
  ∧ (∀ s : State, s.clock.passing = true → s.signals = [] →
    let reading (k : Nat) : Nat := k * 1000000000 / 32768 / 10 * 10
    (∀ k, k < 32768 → s.clock.ns ≤ reading k → (∀ j, j < k → reading j < s.clock.ns) →
        (600000000 ≤ s.clock.ns ∨ reading k < 600000000) →
      clockEdge s = { s with clock := { s.clock with passing := false, ahead := 0, rcCycle := k, ns := reading k } })
    ∧ ((∀ j, j < 32768 → reading j < s.clock.ns) →
      passToRc s = boundary { s with clock := { s.clock with passing := false, ahead := 0 } }))
  ∧ ∀ s : State, s.clock.passing = false → clockEdge s = s

/-- A rising edge of an enabled source that passes the prescaler of AUX is captured with its stamp, or counted in
SRC_EARLY when it comes less than 500 ms after the last; one that the prescaler holds back is counted there; a falling
edge, or an edge of a disabled source, is no capture. A diverted edge of AUX is a test edge of either direction: by
phase it is kept as the leading edge, measures a pulse, or is discarded, and the pulse that completes the pulse count
ends the measurement, PASS where the mean width and the largest offset are within their limits and FAIL with reason
LIMIT otherwise. The timing selector ignores a capture of a source held in CHECK or stamped on the RC timebase; any
other moves the record of its source by the rule of the state it finds there, and is counted good or bad. The selection
follows (`SourceTaken`): a source just QUALIFIED is selected where none was, and under revertive ON where it is
preferred to the selected one, a selected one that fails is replaced at once or lost, and a change cancels a jump
request. That a loss is judged by the bound before the capture that causes it is the model's choice (log 13), and so are
the steps that the row lets pass first (logs 1 and 24) and the width of a pulse across the wrap of the seconds, taken
modulo 2^32 s (log 37). -/
def Obligations.EdgesCaptured : Prop :=
  ∀ (s : State) (i : Source) (n : Nat), s.run = .running →
    let k := s.clock.advance n
    let now : SiteTime := { sec := k.sec, ns := k.ns }
    let iv : Option Interval := (k.captures.get i).last.map fun _ => intervalOf (k.captures.get i).elapsed
    let early := (iv.map isEarly).getD false
    let passes := i ≠ .aux ∨ s.clock.divert = none ∧ s.cfg.auxDiv ≤ s.clock.auxCount + 1
    let r := s.timing.sources.get i
    let g := s.cfg.sources.get i
    let x : Int := if k.ns < 500000000 then k.ns else (k.ns : Int) - 1000000000
    let ignored := HeldInCheck s i ∨ s.clock.oscBad = true
    let good := ∃ m, iv = some (.ns m) ∧ 1000000000 - g.tol ≤ m ∧ m ≤ 1000000000 + g.tol
    let bad := iv.isSome ∧ ¬good
    let bumped (v : PerSource Nat) : PerSource Nat := v.put i (bump (v.get i))
    (s.clock.enabled.get i = true → passes → early = false →
      ∃ t, exec (.ppsEdge i .rise n) s = .next (settle t)
        ∧ t.clock.captures.get i = { last := some now, interval := iv, coarse := s.clock.oscBad, elapsed := 0 }
        ∧ (∀ j, j ≠ i → t.clock.captures.get j = k.captures.get j)
        ∧ AfterReshares
            { s with clock := { k with captures := t.clock.captures, auxCount := if i = .aux then 0 else k.auxCount
                                       tstate := t.clock.tstate, grade := t.clock.grade, jump := t.clock.jump }
                     timing := t.timing
                     counts := { s.counts with srcGood := t.counts.srcGood, srcBad := t.counts.srcBad
                                               srcIgnored := t.counts.srcIgnored } } t
        ∧ (r.state = .off → t.timing = s.timing ∧ t.counts.srcIgnored = s.counts.srcIgnored)
        ∧ (r.state ≠ .off → ignored → t.timing = s.timing ∧ t.counts.srcIgnored = bumped s.counts.srcIgnored)
        ∧ ((r.state = .off ∨ ignored ∨ r.state = .check ∨ iv = none) →
            t.counts.srcGood = s.counts.srcGood ∧ t.counts.srcBad = s.counts.srcBad)
        ∧ (r.state ≠ .off → ¬ignored →
            let fresh (f : Option Int) : SourceRec :=
              { r with lastTime := some now, lastOffset := some x, watch := some 1500, fresh := f }
            let kept := fresh r.fresh
            let used := fresh (some x)
            let anchor : Option Anchor := some { min := x, max := x }
            t.counts.srcIgnored = s.counts.srcIgnored
            ∧ (r.state ≠ .check → good →
                t.counts.srcGood = bumped s.counts.srcGood ∧ t.counts.srcBad = s.counts.srcBad)
            ∧ (r.state ≠ .check → bad →
                t.counts.srcGood = s.counts.srcGood ∧ t.counts.srcBad = bumped s.counts.srcBad)
            ∧ (r.state = .check → SourceTaken s t i
                { kept with state := .qualifying, goodRun := 0, anchor := anchor, badRun := 0 })
            ∧ (r.state = .failed → good → SourceTaken s t i
                { used with state := .qualifying, goodRun := 0, anchor := anchor, badRun := 0 })
            ∧ (r.state = .failed → ¬good → SourceTaken s t i kept)
            ∧ (r.state = .qualifying → ¬good → SourceTaken s t i { kept with goodRun := 0, anchor := none })
            ∧ (r.state = .qualifying → good → r.anchor = none →
                SourceTaken s t i { used with goodRun := 0, anchor := anchor })
            ∧ (∀ a, r.state = .qualifying → good → r.anchor = some a →
                let b : Anchor := { min := min a.min x, max := max a.max x }
                let run := min 60 (r.goodRun + 1)
                (run < g.qualify → SourceTaken s t i { used with goodRun := run, anchor := some b })
                ∧ (g.qualify ≤ run → b.max - b.min ≤ g.stability → SourceTaken s t i
                    { used with state := .qualified, goodRun := run, anchor := some b, badRun := 0 })
                ∧ (g.qualify ≤ run → g.stability < b.max - b.min → SourceTaken s t i
                    { used with goodRun := 0, anchor := anchor }))
            ∧ (r.state = .qualified → good → SourceTaken s t i { used with badRun := 0 })
            ∧ (r.state = .qualified → ¬good → r.badRun + 1 < g.fail →
                SourceTaken s t i { kept with badRun := r.badRun + 1 })
            ∧ (r.state = .qualified → ¬good → g.fail ≤ r.badRun + 1 → SourceTaken s t i
                { kept with state := .failed, badRun := 0, goodRun := 0, anchor := none })))
    ∧ (s.clock.enabled.get i = true → passes → early = true →
      exec (.ppsEdge i .rise n) s = .next (settle
        { s with clock := { k with auxCount := if i = .aux then 0 else k.auxCount }
                 counts := { s.counts with srcEarly := bumped s.counts.srcEarly } }))
    ∧ (s.clock.enabled.get i = true → i = .aux → s.clock.divert = none → s.clock.auxCount + 1 < s.cfg.auxDiv →
      exec (.ppsEdge i .rise n) s = .next (settle { s with clock := { k with auxCount := k.auxCount + 1 } }))
    ∧ (s.clock.enabled.get i = false → (i = .aux → s.clock.divert = none) →
      exec (.ppsEdge i .rise n) s = .next (settle { s with clock := k }))
    ∧ ((i = .aux → s.clock.divert = none) → exec (.ppsEdge i .fall n) s = .next (settle { s with clock := k }))
    ∧ (∀ d, i = .aux → s.clock.divert.isSome →
      let edge : State := { s with clock := { k with lastDiverted := some (now, d) } }
      (s.tests.pulse = none → exec (.ppsEdge i d n) s = .next (settle edge))
      ∧ (∀ q m count tol limit, Measuring s q .pulse → q.params = .pulse count tol limit → 1 ≤ count →
          s.tests.pulse = some m →
        let leads := m.polarity = .activeHigh ∧ d = .rise ∨ m.polarity = .activeLow ∧ d = .fall
        let width (a : SiteTime) : Int := ((k.sec - a.sec).toNat * 1000000000 : Nat) + (k.ns : Int) - a.ns
        let taken : PulseMeasure :=
          if leads then { m with watch := some 2000, lead := some (now, x) }
          else match m.lead with
            | none => { m with watch := some 2000 }
            | some (a, y) => { m with watch := some 2000, lead := none, count := m.count + 1, sum := m.sum + width a
                                      largest := max m.largest y.natAbs }
        let mean := taken.sum / taken.count / 10 * 10
        let within := (mean - (taken.width * 1000000 : Nat)).natAbs ≤ tol * 1000000 ∧ taken.largest ≤ limit
        (taken.count < count →
          exec (.ppsEdge i d n) s = .next (settle { edge with tests := { s.tests with pulse := some taken } }))
        ∧ (count ≤ taken.count →
          exec (.ppsEdge i d n) s = .next (settle { edge with
            tests := { s.tests with
              pulse := none, feeder := { s.tests.feeder with phase := .idle, timer := none }
              tester := { s.tests.tester with running := false, outstanding := none, timer := none }
              current := some { q with
                pending := some (if within then (.pass, none) else (.fail, some .limit))
                results := some (.pulse taken.count (some mean) (some taken.largest)) } }
            signals := s.signals ++ [.cleanup] }))))

/-- A MISSING event of a source whose watch runs is counted and restarts the watch with 1000 ms; it breaks the run of a
QUALIFYING source and is a bad pulse of a QUALIFIED one. The selection follows (`SourceTaken`): a selected source that
fails is replaced at once by the preferred one, or lost by the bound just before (log 13), and a change cancels a jump
request. Of a source whose watch is stopped it has no effect (the model's choice, log 7). -/
def Obligations.MissingCounted : Prop :=
  ∀ (s : State) (i : Source), s.run = .running →
    let r := s.timing.sources.get i
    let w : SourceRec := { r with watch := some 1000 }
    let fail := (s.cfg.sources.get i).fail
    (r.watch.isSome →
      ∃ t, exec (.missing i) s = .next (settle t)
        ∧ AfterReshares
            { s with
              timing := t.timing
              clock := { s.clock with tstate := t.clock.tstate, grade := t.clock.grade, jump := t.clock.jump }
              counts := { s.counts with
                srcMissing := s.counts.srcMissing.put i (bump (s.counts.srcMissing.get i)) } } t
        ∧ (¬HeldInCheck s i →
            (r.state = .qualifying → SourceTaken s t i { w with goodRun := 0, anchor := none })
            ∧ (r.state = .qualified → r.badRun + 1 < fail → SourceTaken s t i { w with badRun := r.badRun + 1 })
            ∧ (r.state = .qualified → fail ≤ r.badRun + 1 → SourceTaken s t i
                { w with state := .failed, badRun := 0, goodRun := 0, anchor := none })
            ∧ (r.state ≠ .qualifying → r.state ≠ .qualified → SourceTaken s t i w)))
    ∧ (r.watch = none → exec (.missing i) s = .next (settle s))

/-- PULSE SET latches what it carries and leaves the active settings; a changed prescaler comes into force at once and
clears its counter, but during diversion waits for its end. That one equal to the prescaler in force leaves the counter
is the model's choice (log 15). TIMING SET sets what it carries. -/
def Obligations.TimingSettingsSet : Prop :=
  ∀ (s : State) (rq : Req), Executes s rq (.group .timingCfg) →
    let u := portLine s rq.port
    (∀ a : PulseArgs, pulseArgsOk a = true →
      let div := natOr u.cfg.auxDiv a.auxDiv
      ∃ l, exec (.pulseSet rq a) s = .next (answered
        { u with
          cfg := { u.cfg with
            pulse := { width := natOr u.cfg.pulse.width a.width, polarity := nameOr u.cfg.pulse.polarity a.polarity
                       squelch := nameOr u.cfg.pulse.squelch a.squelch }
            auxDiv := div }
          clock := { u.clock with
            auxCount := if div = u.cfg.auxDiv ∨ u.clock.divert.isSome then u.clock.auxCount else 0 } }
        rq (.ok l [])))
    ∧ (∀ a : TimingArgs, timingArgsOk a = true →
      let g := u.cfg.timing
      ∃ l, exec (.timingSet rq a) s = .next (answered
        { u with cfg := { u.cfg with timing :=
          { jump := natOr g.jump a.jump, slew := natOr g.slew a.slew, window := natOr g.window a.window
            lockcount := natOr g.lockcount a.lockcount, holdover := natOr g.holdover a.holdover
            drift := natOr g.drift a.drift, tdd := natOr g.tdd a.tdd, revertive := nameOr g.revertive a.revertive } } }
        rq (.ok l [])))

/-- SOURCE SET sets what it carries; disabling a source makes it OFF at once, and the clock drops its capture; enabling
one that is OFF makes it CHECK; any other change leaves the records. -/
def Obligations.SourceSettingsSet : Prop :=
  ∀ (s : State) (rq : Req) (i : Fin 3) (a : SourceArgs), Executes s rq (.group .timingCfg) → sourceArgsOk a = true →
    let u := portLine s rq.port
    let i := sourceAt i
    let g := u.cfg.sources.get i
    let was := (u.timing.sources.get i).state
    let new : SourceSettings :=
      { enabled := a.enabled.getD g.enabled, priority := natOr g.priority a.priority, tol := natOr g.tol a.tol
        qualify := natOr g.qualify a.qualify, fail := natOr g.fail a.fail, stability := natOr g.stability a.stability
        allowance := natOr g.allowance a.allowance }
    ∃ t l, exec (.sourceSet rq (some (Source.index i)) a) s = .next (answered t rq (.ok l []))
      ∧ AfterReshares
          { u with
            cfg := { u.cfg with sources := u.cfg.sources.put i new }
            timing := t.timing
            clock := { u.clock with
              enabled := t.clock.enabled, captures := t.clock.captures, auxCount := t.clock.auxCount
              jump := t.clock.jump, tstate := t.clock.tstate, grade := t.clock.grade } } t
      ∧ BoundAndGrade t
      ∧ (new.enabled = false → was ≠ .off →
          (t.timing.sources.get i).state = .off ∧ t.clock.enabled = u.clock.enabled.put i false
          ∧ t.clock.captures = u.clock.captures.put i
              { last := none, interval := none, coarse := false, elapsed := 0 }
          ∧ t.clock.auxCount = (if i = .aux then 0 else u.clock.auxCount) ∧ t.timing.selected ≠ some i)
      ∧ (new.enabled = true → was = .off →
          (t.timing.sources.get i).state = .check ∧ t.clock.enabled = u.clock.enabled.put i true)
      ∧ ((new.enabled = true ↔ was ≠ .off) →
          t.clock.enabled = u.clock.enabled ∧ t.clock.captures = u.clock.captures
          ∧ (¬HeldInCheck u i → t.timing.sources.get i = u.timing.sources.get i))

/-! ## The share engine -/

/-- Every reshare drives each permit line from the tables it leaves (for the lines after a step see
StepKeepsPermitsAgree). Its pool is the base less the reserve, or 0, less a held borrow, and the minima that it admits
lie within it. It grants a carrier on the air between its minimum and its demand and any other carrier nothing, the
grants of one tenant's carriers at most its ceiling, and all grants with the test borrow at most the base less the
reserve; every step keeps the grants and the borrow so (`SharesSound`). -/
def Obligations.ResharePermitsAgree : Prop :=
  (∀ (s : State) (before : Share) (named : Option (Fin 16 × ShareCause)) (fr : Bool),
    let t := reshare s before named fr
    let total (k : Fin 4) : Nat := ((List.finRange 16).map fun c =>
      if (s.cfg.carriers.get c).map (·.tenant) = some k then (t.share.carriers.get c).grant else 0).sum
    let lent : Nat := match t.share.borrow with | .held n _ => n | .waiting _ _ | .absent => 0
    PermitsAgree t
    ∧ t.share.pool = s.share.base - s.share.reserve - lent
    ∧ (t.share.tenants.get 0).admitted + (t.share.tenants.get 1).admitted + (t.share.tenants.get 2).admitted
        + (t.share.tenants.get 3).admitted ≤ t.share.pool
    ∧ (∀ k, (t.share.tenants.get k).granted = total k)
    ∧ (∀ k, (s.cfg.tenants.get k).floor ≤ (s.cfg.tenants.get k).ceiling →
        total k ≤ (s.cfg.tenants.get k).ceiling)
    ∧ ((∀ c d, s.cfg.carriers.get c = some d → (s.share.carriers.get c).state ≠ .idle →
          d.min ≤ (s.share.carriers.get c).demand) →
        (∀ c, s.cfg.carriers.get c = none → s.share.carriers.get c = .idle) → SharesSound t))
  ∧ ∀ s t : State, SharesSound s → step s = .next t → SharesSound t

/-- What a reshare makes of a defined carrier. One that does not request keeps its state with grant 0. A blocked one
becomes WAITING with the first reason that applies: PHASE in STAGING, TIMING with the grade OSC_FAIL and for TDD while
the grade is not TDD_OK or the jump hold acknowledgement is set, which the reshare first brings into line with the jump
request, RESTORE while its restore timer runs. The others are admitted by the floor pass and the ceiling pass over the
eligible order. One admitted is ACTIVE with its whole demand and THROTTLED with less; any other becomes WAITING with the
reason of the ceiling pass, its tenant's ceiling or lack of capacity, and is then shed if it was on the air: its restore
timer starts with the restore hold, unless that is 0. A carrier stays THROTTLED only where the whole pool is given out
or its tenant is at its ceiling. -/
def Obligations.ReshareBlocks : Prop :=
  ∀ (s : State) (before : Share) (named : Option (Fin 16 × ShareCause)) (fr : Bool) (c : Fin 16) (d : CarrierDef),
    s.cfg.carriers.get c = some d →
    let t := reshare s before named fr
    let r := s.share.carriers.get c
    let new := t.share.carriers.get c
    let untimed : Prop := s.share.grade = .oscFail ∨ d.duplex = .tdd ∧ (s.share.grade ≠ .tddOk ∨ s.share.jump = true)
    let waits (why : WaitReason) : Carrier := { r with state := .waiting, reason := some why, grant := 0 }
    let ceiling := (s.cfg.tenants.get d.tenant).ceiling
    t.share.ack = s.share.jump
    ∧ (s.share.phase = .staging → ¬OnAir t c) ∧ (s.share.grade = .oscFail → ¬OnAir t c)
    ∧ (d.duplex = .tdd → s.share.grade ≠ .tddOk → ¬OnAir t c) ∧ (d.duplex = .tdd → s.share.jump = true → ¬OnAir t c)
    ∧ (¬Requesting s c → new = { r with grant := 0 })
    ∧ (Requesting s c → s.share.phase = .staging → new = waits .phase)
    ∧ (Requesting s c → s.share.phase ≠ .staging → untimed → new = waits .timing)
    ∧ (Requesting s c → s.share.phase ≠ .staging → ¬untimed → r.restore.isSome → new = waits .restore)
    ∧ (∃ floor ceil, Passes s (s.share.base - s.share.reserve) floor ceil
      ∧ (∀ x e, s.cfg.carriers.get x = some e → (OnAir t x ↔ floor x = true ∨ ceil x = true))
      ∧ (∀ k, (t.share.tenants.get k).admitted =
          sumOver (fun x => (floor x || ceil x) && ofTenant s k x) (minimum s))
      ∧ (let taken := sumOver (fun x => (floor x || ceil x && precedes s x c) && ofTenant s d.tenant x) (minimum s)
         let why : WaitReason := if taken + d.min ≤ ceiling then .noCapacity else .ceiling
         Eligible s c d → floor c = false → ceil c = false →
          (r.state = .waiting ∨ s.cfg.restoreHold = 0 → new = waits why)
          ∧ (r.state ≠ .waiting → s.cfg.restoreHold ≠ 0 →
              new = { waits .restore with restore := some (s.cfg.restoreHold * 1000) })))
    ∧ (Eligible s c d → OnAir t c → ∃ g, new =
        { r with state := if g = r.demand then .active else .throttled, reason := none, grant := g })
    ∧ ((∀ x e, s.cfg.carriers.get x = some e → Requesting s x → e.min ≤ (s.share.carriers.get x).demand) →
        new.state = .throttled → Requesting s c →
        t.share.pool = (t.share.tenants.get 0).granted + (t.share.tenants.get 1).granted
            + (t.share.tenants.get 2).granted + (t.share.tenants.get 3).granted
          ∨ ceiling ≤ (t.share.tenants.get d.tenant).granted)

/-- A reshare is counted, brings the acknowledgement into line with the jump request, and gives it to the site clock
when it differs from the value last given. The test borrow fits where the full pool holds it and lending it changes no
carrier's admission: it is then granted or kept, and otherwise left waiting or revoked, and the test sequencer is told;
the pool is the full pool less a held borrow, the carriers on the air are those of the full pool, and their grants are
those that the pool so fixed gives: their minima, and the extra of each tenant's growth handed to its carriers in the
eligible order. Nothing outside the engine, its notices and its deliveries changes. -/
def Obligations.ReshareAcknowledgesJump : Prop :=
  ∀ (s : State) (before : Share) (named : Option (Fin 16 × ShareCause)) (fr : Bool),
    let t := reshare s before named fr
    let full := s.share.base - s.share.reserve
    let unlent (base : Nat) : State := reshare { s with share := { s.share with base := base, borrow := .absent } }
      before named fr
    let lent : Nat := match t.share.borrow with | .held n _ => n | .waiting _ _ | .absent => 0
    let fits (n : Nat) : Prop := n ≤ full ∧ ∀ c, OnAir (unlent (s.share.base - n)) c ↔ OnAir (unlent s.share.base) c
    let granted (c : Fin 16) : Bool := (s.cfg.carriers.get c).isSome && (t.share.carriers.get c).state.admitted
    let grant (c : Fin 16) : Nat := (t.share.carriers.get c).grant
    t.share.ack = s.share.jump ∧ t.share.ackSent = s.share.jump
    ∧ t.clock = { s.clock with permitted := if s.share.jump = s.share.ackSent then s.clock.permitted else s.share.jump }
    ∧ t.counts.reshares = bump s.counts.reshares ∧ AfterReshares s t
    ∧ (∀ c, OnAir t c ↔ OnAir (unlent s.share.base) c)
    ∧ t.share.pool = full - lent
    ∧ (∀ c, grant c = ((unlent (s.share.base - lent)).share.carriers.get c).grant)
    ∧ (∃ extra, Grows s t.share.pool granted extra
      ∧ ∀ c d, s.cfg.carriers.get c = some d → granted c = true →
          grant c = d.min + min
            (extra d.tenant - sumOver (fun x => granted x && precedes s x c && ofTenant s d.tenant x)
              (fun x => grant x - minimum s x))
            ((s.share.carriers.get c).demand - d.min))
    ∧ (s.share.borrow = .absent → t.share.borrow = .absent ∧ t.signals = s.signals)
    ∧ (∀ n k, s.share.borrow = .waiting n k → fits n →
        t.share.borrow = .held n k ∧ t.signals = s.signals ++ [.borrowGranted k])
    ∧ (∀ n k, s.share.borrow = .waiting n k → ¬fits n →
        t.share.borrow = .waiting n k ∧ t.signals = s.signals ++ (if fr then [.borrowDeferred k] else []))
    ∧ (∀ n k, s.share.borrow = .held n k → fits n → t.share.borrow = .held n k ∧ t.signals = s.signals)
    ∧ (∀ n k, s.share.borrow = .held n k → ¬fits n →
        t.share.borrow = .absent ∧ t.signals = s.signals ++ [.borrowRevoked k])

/-- The share engine's settings. TENANT SET sets what it carries and ends in one reshare; one that would undefine a
tenant that a defined carrier names is refused with NO STATE. CARRIER DEFINE defines a carrier, with sector 0, FDD,
class 3, minimum 1 and no permit line where it says nothing, or changes what it carries of a defined one, or makes one
undefined; the carrier is IDLE and one reshare follows. That being defined or undefined is no change of state for the
notices of that reshare is the model's choice (log 26). SHARE SET sets what it carries with no reshare. -/
def Obligations.ShareSettingsSet : Prop :=
  ∀ (s : State) (rq : Req), Executes s rq (.group .tenantCfg) →
    let u := portLine s rq.port
    (∀ (k : Fin 4) (a : TenantArgs), tenantArgsOk a = true →
      let named : Prop := ∃ c d, u.cfg.carriers.get c = some d ∧ d.tenant = k
      let old := u.cfg.tenants.get k
      let new : TenantSettings :=
        { defined := a.defined.getD old.defined, floor := natOr old.floor a.floor
          ceiling := natOr old.ceiling a.ceiling, weight := natOr old.weight a.weight, cred := old.cred }
      let v : State := { u with cfg := { u.cfg with tenants := u.cfg.tenants.set k new } }
      (new.floor ≤ new.ceiling → (a.defined = some false → ¬named) →
        ∃ t l, exec (.tenantSet rq (some k.val) a) s = .next (answered t rq (.ok l []))
          ∧ t = reshare v v.share none false ∧ AfterReshares v t ∧ t.counts.reshares = bump u.counts.reshares)
      ∧ (new.floor ≤ new.ceiling → a.defined = some false → named →
        exec (.tenantSet rq (some k.val) a) s = .next (answered u rq (.no .noState))))
    ∧ (let rest : Carrier :=
        { state := .idle, demand := 0, reason := none, grant := 0, order := none, restore := none, hold := none }
      let put (c : Fin 16) (d : Option CarrierDef) : State :=
        { u with cfg := { u.cfg with carriers := u.cfg.carriers.set c d }
                 share := { u.share with carriers := u.share.carriers.set c rest } }
      let defines (c : Fin 16) (a : CarrierArgs) (d : CarrierDef) : Prop :=
        (∀ x e l, x ≠ c → u.cfg.carriers.get x = some e → d.permit = some l → e.permit ≠ some l) →
        (u.cfg.tenants.get d.tenant).defined = true →
        ∃ t l, exec (.carrierDefine rq (some c.val) a) s = .next (answered t rq (.ok l []))
          ∧ t = reshare (put c (some d)) u.share none false ∧ AfterReshares (put c (some d)) t
          ∧ t.counts.reshares = bump u.counts.reshares ∧ t.share.carriers.get c = rest
      (∀ (c : Fin 16) (a : CarrierArgs) (k : Fin 4), u.cfg.carriers.get c = none → a.tenant = some k.val →
        carrierArgsOk a = true → a.defined ≠ some false →
        defines c a
          { tenant := k, sector := natOr 0 a.sector, duplex := nameOr .fdd a.duplex, cls := natOr 3 a.cls
            min := natOr 1 a.min
            permit := match a.permit with | some (.line i) => indexOf 8 (some i) | _ => none })
      ∧ (∀ (c : Fin 16) (a : CarrierArgs) (old : CarrierDef) (k : Fin 4), u.cfg.carriers.get c = some old →
        (u.share.carriers.get c).state = .idle → a.tenant = some k.val ∨ a.tenant = none ∧ k = old.tenant →
        carrierArgsOk a = true → a.defined ≠ some false →
        defines c a
          { tenant := k, sector := natOr old.sector a.sector, duplex := nameOr old.duplex a.duplex
            cls := natOr old.cls a.cls, min := natOr old.min a.min
            permit := match a.permit with
              | none => old.permit
              | some (.line i) => indexOf 8 (some i)
              | some _ => none })
      ∧ (∀ (c : Fin 16) (a : CarrierArgs), u.cfg.carriers.get c ≠ none → (u.share.carriers.get c).state = .idle →
        a = { tenant := none, sector := none, duplex := none, cls := none, min := none, permit := none
              defined := some false } →
        ∃ t l, exec (.carrierDefine rq (some c.val) a) s = .next (answered t rq (.ok l []))
          ∧ t = reshare (put c none) u.share none false ∧ AfterReshares (put c none) t
          ∧ t.counts.reshares = bump u.counts.reshares ∧ t.share.carriers.get c = rest))
    ∧ (∀ b r : Option Int, (b.isSome || r.isSome) = true → inRange 1 16 b = true → inRange 0 120 r = true →
      ∃ l, exec (.shareSet rq b r) s = .next (answered
        { u with cfg := { u.cfg with borrow := natOr u.cfg.borrow b, restoreHold := natOr u.cfg.restoreHold r } }
        rq (.ok l [])))

/-- No two defined carriers share a permit line after a CARRIER DEFINE, if none did before; and every step keeps the
lines apart in the settings in force and in those that the settings store holds. -/
def Obligations.CarrierDefineKeepsLinesApart : Prop :=
  (∀ (s : State) (c : Option Int) (a : CarrierArgs),
    LinesApart s.cfg → LinesApart (handleCarrierDefine s c a).1.cfg)
  ∧ ∀ s t : State, LinesApartIn s → step s = .next t → LinesApartIn t

/-- CARRIER REQUEST and CARRIER HOLD by a port in whose scope the carrier is. A request sets the demand, makes an IDLE
carrier WAITING with a new request order, and leaves the state, the order, the timers and the reason of any other; the
reshare of this event, which names the carrier, then decides. A demand of 0 is taken as CARRIER RELEASE. A hold makes
the carrier HELD with its demand and order kept, or changes its hold, and one of 0 ms ends the hold, each in one
reshare; for a carrier not HELD a hold of 0 ms changes nothing. Orders past 2^32 - 1 are renumbered from 1 with their
relative order kept. The keys of the replies are the model's choice (log 6), and so is that the time of a hold is
tested before the carrier's state (log 11). -/
def Obligations.CarrierRequestsAct : Prop :=
  (∀ (s : State) (rq : Req) (c : Fin 16) (d : CarrierDef), Executes s rq (.group .carrier) →
    let u := portLine s rq.port
    let r := u.share.carriers.get c
    let put (h : Share) (new : Carrier) : State := { u with share := { h with carriers := h.carriers.set c new } }
    let state (x : Carrier) : Pair := kv "state" (.word x.state.word)
    let granted (x : Carrier) : List Pair :=
      [state x, kv "reason" (.optWord (x.reason.map (·.word))), kv "grant" (.nat x.grant)]
    let timed (x : Carrier) : List Pair :=
      [state x, kv "hold" (match x.hold with
        | none => .absent | some (.ms n) => .nat n | some .untilCancelled => .word "UNTIL_CANCELLED")]
    let reshared (i : Instr) (v : State) (why : ShareCause) (l : Carrier → List Pair) : Prop :=
      let t := reshare v u.share (some (c, why)) false
      exec i s = .next (answered t rq (.ok (l (t.share.carriers.get c)) []))
      ∧ AfterReshares v t ∧ t.counts.reshares = bump u.counts.reshares
    inScope u rq.port d.tenant = true → u.cfg.carriers.get c = some d →
    (∀ n : Nat, d.min ≤ n → 1 ≤ n → n ≤ 4000 →
      let i : Instr := .carrierRequest rq (some c.val) (some n)
      let h := if u.share.orders < 2 ^ 32 - 1 then u.share else renumbered u.share
      (r.state = .idle →
        let first : Carrier := { h.carriers.get c with state := .waiting, demand := n, order := some (h.orders + 1) }
        reshared i (put { h with orders := h.orders + 1 } first) .request granted)
      ∧ (r.state ≠ .idle → reshared i (put u.share { r with demand := n }) .request granted)
      ∧ (r.state = .held →
        let t := reshare (put u.share { r with demand := n }) u.share (some (c, .request)) false
        (t.share.carriers.get c).state = .held ∧ (t.share.carriers.get c).hold = r.hold
          ∧ (t.share.carriers.get c).order = r.order))
    ∧ (∀ n : Nat, n ≠ 0 → n < d.min ∨ 4000 < n →
      exec (.carrierRequest rq (some c.val) (some n)) s = .next (answered u rq (.no .noRange)))
    ∧ exec (.carrierRequest rq (some c.val) (some 0)) s = exec (.carrierRelease rq (some c.val)) s
    ∧ (r.state ≠ .idle → ∀ n : Nat, 1 ≤ n → n ≤ 65535 →
      let held : Carrier :=
        { r with state := .held, grant := 0, reason := none, restore := none
                 hold := some (if n = 65535 then .untilCancelled else .ms n) }
      reshared (.carrierHold rq (some c.val) (some n)) (put u.share held) .hold timed
        ∧ (reshare (put u.share held) u.share (some (c, .hold)) false).share.carriers.get c = held)
    ∧ (r.state = .held →
      reshared (.carrierHold rq (some c.val) (some 0))
        (put u.share { r with state := .waiting, hold := none, restore := none }) .holdEnd timed)
    ∧ (r.state ≠ .idle → r.state ≠ .held →
      exec (.carrierHold rq (some c.val) (some 0)) s = .next (answered u rq (.ok (timed r) [])))
    ∧ (r.state = .idle → ∀ n : Nat, n ≤ 65535 →
      exec (.carrierHold rq (some c.val) (some n)) s = .next (answered u rq (.no .noState)))
    ∧ (∀ n : Nat, 65535 < n →
      exec (.carrierHold rq (some c.val) (some n)) s = .next (answered u rq (.no .noRange))))
  ∧ ∀ h : Share,
    let order (x : Fin 16) : Option Nat := (h.carriers.get x).order
    let new (x : Fin 16) : Carrier := (renumbered h).carriers.get x
    (∀ x, new x = { h.carriers.get x with order := (new x).order } ∧ ((new x).order = none ↔ order x = none))
    ∧ (∀ x y a b i j, order x = some a → order y = some b → (new x).order = some i → (new y).order = some j →
        (i < j ↔ a < b) ∧ 1 ≤ i ∧ i ≤ (renumbered h).orders)
    ∧ renumbered h = { h with carriers := (renumbered h).carriers, orders := (renumbered h).orders }

/-- CARRIER RELEASE: an IDLE carrier is answered OK with no change; any other becomes IDLE with everything that the rule
names cleared, in one reshare; an index out of range, a carrier out of scope, an undefined one, a port at OPEN and a
port below the group are refused. The order of the refusals and the key of the reply are the model's choice (logs 11
and 6). -/
def Obligations.CarrierReleaseActs : Prop :=
  ∀ (s : State) (rq : Req) (c : Fin 16), Takes s rq → rq.extra = false →
    let u := portLine s rq.port
    let r := u.share.carriers.get c
    let released : Instr := .carrierRelease rq (some c.val)
    (inGroup u rq.port .carrier = false → exec released s = .next (answered u rq (.no .noLevel)))
    ∧ (inGroup u rq.port .carrier = true → (u.port rq.port).access = .opened →
        exec released s = .next (answered u rq (.no .noLevel)))
    ∧ (∀ k, inGroup u rq.port .carrier = true → (u.port rq.port).access ≠ .opened → indexOf 16 k = none →
        exec (.carrierRelease rq k) s = .next (answered u rq (.no .noRange)))
    ∧ (inGroup u rq.port .carrier = true → (u.port rq.port).access ≠ .opened → u.cfg.carriers.get c = none →
        exec released s = .next (answered u rq (.no .noState)))
    ∧ (∀ d, inGroup u rq.port .carrier = true → u.cfg.carriers.get c = some d → inScope u rq.port d.tenant = false →
        exec released s = .next (answered u rq (.no .noLevel)))
    ∧ (∀ d, inGroup u rq.port .carrier = true → u.cfg.carriers.get c = some d → inScope u rq.port d.tenant = true →
        let reply : Reply := .ok [kv "state" (.word "IDLE")] []
        (r.state = .idle → exec released s = .next (answered u rq reply))
        ∧ (r.state ≠ .idle → ∃ t, exec released s = .next (answered t rq reply)
            ∧ t = reshare { u with share := { u.share with carriers := u.share.carriers.set c .idle } } u.share
                (some (c, .release)) false
            ∧ t.share.carriers.get c =
                { state := .idle, demand := 0, reason := none, grant := 0, order := none, restore := none
                  hold := none }))

/-- The expiry of a carrier's running restore timer stops the timer, and that of a HELD carrier's hold timer makes it
WAITING with its request order kept; each is then one reshare. Of a timer that does not run, a hold until cancelled
among them, an expiry has no effect (the model's choice, log 7). -/
def Obligations.CarrierTimersExpire : Prop :=
  ∀ (s : State) (c : Fin 16), s.run = .running →
    let r := s.share.carriers.get c
    let put (new : Carrier) : State := { s with share := { s.share with carriers := s.share.carriers.set c new } }
    (r.restore.isSome →
      exec (.carrierRestoreExpiry c) s = .next (settle (reshare
        (put { r with restore := none }) s.share (some (c, .restoreEnd)) false)))
    ∧ (r.restore = none → exec (.carrierRestoreExpiry c) s = .next (settle s))
    ∧ (∀ n, r.state = .held → r.hold = some (.ms n) →
      exec (.holdTimerExpiry c) s = .next (settle (reshare
        (put { r with state := .waiting, hold := none, restore := none }) s.share (some (c, .holdEnd)) false)))
    ∧ ((r.state ≠ .held ∨ ∀ n, r.hold ≠ some (.ms n)) → exec (.holdTimerExpiry c) s = .next (settle s))

/-! ## The test sequencer -/

/-- TEST ADD queues a test with the next free number, the first upwards from the last assigned, and lets the sequencer
take it. TEST CANCEL of a queued test makes it final as CANCELLED, of the DEFERRED one withdraws its borrow as well, of
the RUNNING one gives it the verdict ABORTED with reason CANCEL and begins its cleanup, and of one in cleanup changes
nothing. The head of the queue enters the empty slot and is refused by the first start check that fails, or takes its
claims and is RUNNING with its measurement begun, or DEFERRED for the borrow. The key of the reply to TEST ADD is the
model's choice (log 6). -/
def Obligations.TestRequestsAct : Prop :=
  (∀ (s : State) (rq : Req), Executes s rq (.group .test) →
    let u := portLine s rq.port
    (∀ (k : TestKind) (a : TestArgs) (x : TestParams), testParams k a = some x → u.tests.queue.length < 8 →
      let r : TestRec :=
        { number := newNumber u.tests, kind := k, owner := rq.port, params := x, state := .queued, pending := none
          reason := none, loopOffFailed := false, results := none, start := none, finish := none }
      exec (.testAdd rq (some (.known k)) a) s = .next (answered
        { u with tests := { u.tests with queue := u.tests.queue ++ [r], lastNumber := r.number }
                 signals := u.signals ++ [.takeTest] } rq (.ok [kv "n" (.nat r.number)] [])))
    ∧ (u.tests.queue.length < 8 → u.tests.log.length ≤ 24 → u.tests.lastNumber ≤ 999 →
      let held (n : Nat) : Prop :=
        ∃ y, (y ∈ u.tests.queue ∨ u.tests.current = some y ∨ y ∈ u.tests.log) ∧ y.number = n
      ¬held (newNumber u.tests)
      ∧ ∃ j, newNumber u.tests = (u.tests.lastNumber + j) % 999 + 1
        ∧ ∀ i, i < j → held ((u.tests.lastNumber + i) % 999 + 1))
    ∧ (∀ r, 1 ≤ r.number → r.number ≤ 999 → (u.tests.queue.find? fun x => x.number == r.number) = some r →
      u.tests.current.map (·.number) ≠ some r.number → mayCancel u rq.port r = true →
      ∃ t l, exec (.testCancel rq (some r.number)) s = .next (answered t rq (.ok l []))
        ∧ AfterNotices
            { u with
              tests := { u.tests with
                queue := u.tests.queue.filter fun x => x.number != r.number
                log := logged u.tests.log (final u r .cancelled (some .cancel)) }
              counts := { u.counts with logDrops := t.counts.logDrops } } t)
    ∧ (∀ r, 1 ≤ r.number → r.number ≤ 999 → u.tests.current = some r → mayCancel u rq.port r = true →
      (r.state = .deferred →
        ∃ t l, exec (.testCancel rq (some r.number)) s = .next (answered t rq (.ok l []))
          ∧ TestFinal u t r .cancelled (some .cancel) ∧ t.share.borrow = .absent)
      ∧ (r.state = .running → r.pending = none →
        ∃ t l, exec (.testCancel rq (some r.number)) s = .next (answered t rq (.ok l []))
          ∧ t = { u with tests := t.tests, signals := u.signals ++ [.cleanup] }
          ∧ t.tests.current = some { r with pending := some (.aborted, some .cancel) }
          ∧ t.tests.tester.running = false ∧ t.tests.pulse = none ∧ t.tests.feeder.phase = .idle)
      ∧ (r.state = .running → r.pending.isSome →
        ∃ l, exec (.testCancel rq (some r.number)) s = .next (answered u rq (.ok l [])))))
  ∧ ∀ s : State,
    let t := deliver s .takeTest
    (s.tests.current.isSome → t = s) ∧ (s.tests.queue = [] → t = s)
    ∧ ∀ r l, s.tests.current = none → s.tests.queue = r :: l →
      let taken : TestRec := { r with start := some s.clock.sec }
      let v : State := { s with tests := { s.tests with current := some taken, queue := l, stage := .measuring } }
      let refused (why : TestReason) : Prop := TestFinal v t taken .refused (some why)
      let near := r.kind = .loopNear ∨ FeederLine.f0 ∈ r.params.lines
      let gnss := FeederLine.f1 ∈ r.params.lines
      let aux := r.kind = .pulse ∨ FeederLine.f2 ∈ r.params.lines
      let allowed := (near → s.site.phase = .staging) ∧ (r.kind = .loopFar → s.link.state = .up)
      let marked := (gnss → s.timing.selected ≠ some .gnss) ∧ (aux → s.timing.selected ≠ some .aux ∧ ¬gnss)
      let slot (p : Purpose) (addr : Nat) (write : List Byte) (read : Nat) : Prop :=
        s.bus.internalSlot = none →
          t.bus.internalSlot = some
            { requester := .test, tag := none, purpose := some p, target := none, attempt := 1, confirm := false
              addr := addr, write := write, read := read, start := true, stop := true, ackLast := false, cont := false
              status := none, written := 0, data := [] }
          ∧ t.tests.outstanding = some { purpose := p, attempt := 1, place := .offered, settling := false }
      (near → s.site.phase ≠ .staging → refused .phase)
      ∧ ((near → s.site.phase = .staging) → r.kind = .loopFar → s.link.state ≠ .up → refused .link)
      ∧ (allowed → gnss → s.timing.selected = some .gnss → refused .source)
      ∧ (allowed → ¬gnss → aux → s.timing.selected = some .aux → refused .source)
      ∧ (allowed → marked → near → s.link.state = .off → refused .link)
      ∧ (allowed → marked → near → s.link.state ≠ .off → s.site.inputs.mastMoving.filtered = true → refused .mast)
      ∧ (allowed → marked → (near → s.link.state ≠ .off ∧ s.site.inputs.mastMoving.filtered = false) →
        t.tests.queue = l ∧ t.tests.log = s.tests.log
        ∧ (near → t.link.state = .test ∧ t.link.claim = some r.number ∧ t.link.base = 0)
        ∧ (gnss → (t.timing.sources.get .gnss).mark = some r.number)
        ∧ (aux → (t.timing.sources.get .aux).mark = some r.number)
        ∧ (r.kind = .pulse → t.clock.divert = some r.number)
        ∧ (r.kind = .loopFar →
            t.tests.current = some { taken with state := .deferred } ∧ t.tests.deferTimer = some 30000
            ∧ (s.share.borrow = .absent →
                t.share.borrow = .waiting s.cfg.borrow r.number ∨ t.share.borrow = .held s.cfg.borrow r.number))
        ∧ (r.kind ≠ .loopFar →
            t.tests.current = some { taken with state := .running } ∧ t.counts.testsRun = bump s.counts.testsRun
            ∧ (∀ f c d n, r.params = .feeder f c d n →
                t.tests.feeder.phase = .discharge ∧ t.tests.feeder.timer = some d
                ∧ ∀ i, t.tests.feeder.opened.get i = true ↔ i ∈ f)
            ∧ (∀ c w o, r.params = .pulse c w o → t.tests.pulse = some
                { lead := none, count := 0, sum := 0, largest := 0, watch := some 2000, width := s.clock.active.width
                  polarity := s.clock.active.polarity })
            ∧ (∀ a g n e m, r.params = .probe a g n e m → r.kind = .probe → slot .probe a g n)
            ∧ (∀ x y z, r.params = .loopNear x y z → r.kind = .loopNear →
                slot .loopOn s.cfg.templates.loopOn.addr s.cfg.templates.loopOn.bytes 0)))

/-- The defer timer's expiry ends a DEFERRED test, which holds no claim, as REFUSED with reason CAPACITY, and withdraws
its borrow. The edge watch's expiry gives a PULSE test the verdict FAIL with reason NO_PULSE and ends its measurement;
that the partial mean stands among its results is the model's choice (log 14). The completion of a test's bus
transaction is discarded while it is being settled; that of a PROBE judges the read data, that of LOOPON starts the
tester or ends the test with reason BUS, and that of the cleanup's LOOPOFF ends the cleanup, offers the write again, or
after 3 attempts gives it up with an ODU_FAULT. A link-state event other than UP aborts a RUNNING LOOP_FAR test with
reason LINK and refuses a DEFERRED one; a revoked borrow aborts it with reason CAPACITY, and a granted one makes the
DEFERRED test RUNNING; a pending outcome stands, and an answer that carries another number is discarded. A cleanup that
finds a transaction outstanding settles it first: one kept back is dropped, one that waits in the slot is withdrawn, and
for one that has started it waits. The kind's own steps then make a test of any kind but LOOP_NEAR final at once, with
its switches closed and its borrow returned, and offer the LOOPOFF write of a LOOP_NEAR test, which a slot that is not
free keeps back; at a slot-free event a transaction kept back is offered again. That the first position at which a
PROBE's bytes disagree is counted from 0 is the model's choice (log 29), and so is that the tester's counts are cleared
after a verdict too (log 27). -/
def Obligations.TestTimersExpire : Prop :=
  (∀ (s : State) (r : TestRec), s.run = .running →
    (s.tests.current = some r → r.state = .deferred → s.tests.deferTimer.isSome → NoClaim s r →
      ∃ t, exec .deferTimerExpiry s = .next (settle t) ∧ DeferredEnded s t r .refused .capacity)
    ∧ (∀ m, Measuring s r .pulse → s.tests.pulse = some m → m.watch.isSome →
      ∃ t, exec .edgeWatchExpiry s = .next (settle t)
        ∧ t = { s with tests := t.tests, signals := s.signals ++ [.cleanup] } ∧ t.tests.pulse = none
        ∧ t.tests.current = some { r with
            pending := some (.fail, some .noPulse)
            results := some (.pulse m.count
              (if m.count = 0 then none else some (m.sum / m.count / 10 * 10))
              (if m.count = 0 then none else some m.largest)) }))
  ∧ (∀ (s : State) (r : TestRec) (o : Outstanding) (x : Txn), s.tests.current = some r →
      s.tests.outstanding = some o →
    let t := deliver s (.completeTest x)
    let done : Tests := { s.tests with outstanding := none }
    let ended (k : Tests) (v : Verdict) (why : Option TestReason) (res : TestResults) : Prop :=
      t = { s with
        tests := { k with
          current := some { r with pending := some (v, why), results := some res }, pulse := none
          feeder := { s.tests.feeder with phase := .idle, timer := none }
          tester := { s.tests.tester with running := false, outstanding := none, timer := none } }
        signals := s.signals ++ [.cleanup] }
    let loopOff (n : Nat) : Txn :=
      { requester := .test, tag := none, purpose := some .loopOff, target := none, attempt := n, confirm := false
        addr := s.cfg.templates.loopOff.addr, write := s.cfg.templates.loopOff.bytes, read := 0, start := true
        stop := true, ackLast := false, cont := false, status := none, written := 0, data := [] }
    let standing (n : Nat) : Outstanding := { purpose := .loopOff, attempt := n, place := .offered, settling := false }
    let offered (n : Nat) : State :=
      { s with tests := { done with outstanding := some (standing n), stage := .loopOff }
               bus := { s.bus with internalSlot := some (loopOff n) }
               signals := s.signals ++ [.busChoose] }
    (∀ v why, o.settling = true → r.pending = some (v, why) →
      (r.kind = .probe → TestFinal s t r (verdictState v) why)
      ∧ (r.kind = .loopNear → s.bus.internalSlot = none → t = offered 1))
    ∧ (o.settling = false → r.state = .running → r.pending = none →
      (∀ a g n e m, o.purpose = .probe → r.params = .probe a g n e m →
        let agree (i : Nat) : Prop := x.data[i]?.map (· &&& m.getD i 0) = e[i]?.map (· &&& m.getD i 0)
        let res (st : BusStatus) (p : Option Nat) : TestResults := .probe st x.written x.data p
        (x.status = some .ok → x.data.length = n → e.length = n → m.length = n →
          ((∀ i, i < n → agree i) → ended done .pass none (res .ok none))
          ∧ (∀ i, i < n → ¬agree i → (∀ j, j < i → agree j) → ended done .fail (some .limit) (res .ok (some i))))
        ∧ (∀ st, x.status = some st → st ≠ .ok → ended done .fail (some .bus) (res st none)))
      ∧ (o.purpose = .loopOn →
        (x.status = some .ok →
          t = { s with tests := { done with loopOnStatus := some .ok
                                            tester := { Tester.stopped with running := true } } })
        ∧ (∀ st, x.status = some st → st ≠ .ok →
            ended { done with loopOnStatus := some st } .fail (some .bus) (.loop (some st) 0 0 0 0 0))))
    ∧ (∀ v why, o.settling = false → o.purpose = .loopOff → r.pending = some (v, why) →
      (x.status = some .ok → TestFinal s t r (verdictState v) why)
      ∧ (x.status ≠ some .ok → o.attempt < 3 → s.tests.stage = .loopOff → s.bus.internalSlot = none →
          t = offered (o.attempt + 1))
      ∧ (x.status ≠ some .ok → 3 ≤ o.attempt →
          TestFinal s t { r with loopOffFailed := true } (if v = .pass then .fail else verdictState v)
            (if v = .pass then some .cleanup else why)
          ∧ t.counts.oduFaults = bump s.counts.oduFaults)))
  ∧ (∀ (s : State) (r : TestRec), s.tests.current = some r →
    let ofFar (n : Nat) := n = r.number ∧ r.kind = .loopFar
    let granted (n : Nat) := deliver s (.borrowGranted n)
    (∀ st, st = .up ∨ r.kind ≠ .loopFar → deliver s (.linkToTests st) = s)
    ∧ (∀ st, st ≠ .up → r.kind = .loopFar →
      (r.state = .running → r.pending = none → deliver s (.linkToTests st) = aborted s r .link)
      ∧ (r.state = .running → r.pending.isSome → deliver s (.linkToTests st) = s)
      ∧ (r.state = .deferred → NoClaim s r → DeferredEnded s (deliver s (.linkToTests st)) r .refused .link))
    ∧ (∀ n, ofFar n → r.state = .running → r.pending = none → deliver s (.borrowRevoked n) = aborted s r .capacity)
    ∧ (∀ n, ¬(ofFar n ∧ r.state = .running ∧ r.pending = none) → deliver s (.borrowRevoked n) = s)
    ∧ (∀ n, ofFar n → (∃ a b c, r.params = .loopFar a b c) → r.state = .deferred →
      AfterNotices
        { s with
          tests := { s.tests with
            deferTimer := none, current := some { r with state := .running }
            tester := { Tester.stopped with running := true } }
          counts := { s.counts with testsRun := bump s.counts.testsRun } } (granted n))
    ∧ (∀ n, n ≠ r.number ∨ r.state ≠ .deferred → granted n = s ∧ deliver s (.borrowDeferred n) = s)
    ∧ (∀ n, n = r.number → r.state = .deferred → AfterNotices s (deliver s (.borrowDeferred n))))
  ∧ (∀ (s : State) (r : TestRec) (v : Verdict) (why : Option TestReason), s.tests.current = some r →
      r.pending = some (v, why) → s.tests.stage = .measuring →
    let t := deliver s .cleanup
    let write : Txn :=
      { requester := .test, tag := none, purpose := some .loopOff, target := none, attempt := 1, confirm := false
        addr := s.cfg.templates.loopOff.addr, write := s.cfg.templates.loopOff.bytes, read := 0, start := true
        stop := true, ackLast := false, cont := false, status := none, written := 0, data := [] }
    let standing (u : State) (place : Place) : Tests :=
      { u.tests with
        outstanding := some { purpose := .loopOff, attempt := 1, place := place, settling := false }, stage := .loopOff }
    let kindSteps (u : State) : Prop :=
      (r.kind ≠ .loopNear → TestFinal u t r (verdictState v) why)
      ∧ (r.kind = .feeder → ∀ i, t.tests.feeder.opened.get i = false)
      ∧ (r.kind = .loopFar → t.share.borrow = .absent)
      ∧ (r.kind = .loopNear → u.bus.internalSlot = none →
          t = { u with tests := standing u .offered, bus := { u.bus with internalSlot := some write }
                       signals := u.signals ++ [.busChoose] })
      ∧ (r.kind = .loopNear → u.bus.internalSlot.isSome →
          t = { u with tests := standing u .keptBack, bus := { u.bus with noteTest := true } })
    let dropped : State := { s with tests := { s.tests with outstanding := none } }
    (s.tests.outstanding = none → kindSteps s)
    ∧ ∀ o, s.tests.outstanding = some o →
      (o.place = .keptBack → kindSteps dropped)
      ∧ (∀ x, o.place = .offered → s.bus.internalSlot = some x → x.requester = .test →
          kindSteps { dropped with
            bus := { s.bus with internalSlot := none, noteLink := false, noteTest := false }
            signals := s.signals ++ (if s.bus.noteLink then [.slotFreeLink] else [])
              ++ (if s.bus.noteTest then [.slotFreeTest] else []) })
      ∧ (o.place = .offered → s.bus.internalSlot.map (·.requester) ≠ some .test →
          t = { s with tests := { s.tests with outstanding := some { o with settling := true }, stage := .settling } }))
  ∧ ∀ (s : State) (r : TestRec) (o : Outstanding), s.tests.current = some r → s.tests.outstanding = some o →
    let t := deliver s .slotFreeTest
    let again (addr : Nat) (write : List Byte) (read : Nat) : Prop :=
      let txn : Txn :=
        { requester := .test, tag := none, purpose := some o.purpose, target := none, attempt := o.attempt
          confirm := false, addr := addr, write := write, read := read, start := true, stop := true, ackLast := false
          cont := false, status := none, written := 0, data := [] }
      t = { s with
        tests := { s.tests with outstanding := some { o with place := .offered } }
        bus := { s.bus with internalSlot := some txn }, signals := s.signals ++ [.busChoose] }
    (o.place = .offered → t = s)
    ∧ (o.place = .keptBack → s.bus.internalSlot = none →
      (o.purpose = .loopOn → again s.cfg.templates.loopOn.addr s.cfg.templates.loopOn.bytes 0)
      ∧ (o.purpose = .loopOff → again s.cfg.templates.loopOff.addr s.cfg.templates.loopOff.bytes 0)
      ∧ ∀ a g n e m, o.purpose = .probe → r.params = .probe a g n e m → again a g n)

/-- The FEEDER unit: the discharge timer's end starts the counters at 4095 less the reload, a trip keeps the ticks its
line has counted, and the tick past 4095 is an overflow; the last counting line, by either, ends the measurement with
its classes and its verdict. An RC cycle gives every counting line the ticks of the sense clock in it, one of the RC
clock itself and those of the divided 8 MHz clock, a free value, otherwise (log 2), less the ticks that commands have
already given (the model's choice, log 1). That a trip's ticks are cut at 4095 is the model's choice (log 7), and so is
that no comparator is read as CHARGE begins: a line whose comparator reports then trips by a row of 0 ticks (log 32). -/
def Obligations.FeederUnitCounts : Prop :=
  ∀ (s : State) (r : TestRec) (l : List FeederLine) (clk dis reload : Nat), s.run = .running → Measuring s r .feeder →
    r.params = .feeder l clk dis reload →
    let f := s.tests.feeder
    let counts (j : FeederLine) : Prop := (f.lines.get j).state = some .counting
    let after (ticks : Nat) (j : FeederLine) : FeederCount :=
      { f.lines.get j with counter := min 4095 ((f.lines.get j).counter + ticks) }
    let others (t : State) (i : FeederLine) (ticks : Nat) : Prop :=
      t = { s with tests := t.tests, signals := t.signals }
      ∧ (∀ j, j ≠ i → counts j → t.tests.feeder.lines.get j = after ticks j)
      ∧ (∀ j, j ≠ i → ¬counts j → t.tests.feeder.lines.get j = f.lines.get j)
      ∧ ((∃ j ∈ l, j ≠ i ∧ counts j) →
          t.tests.current = s.tests.current ∧ t.signals = s.signals ∧ t.tests.feeder.phase = .charge)
      ∧ ((∀ j ∈ l, j ≠ i → ¬counts j ∧ (f.lines.get j).state.isSome) → FeederJudged s t r l)
    (f.timer.isSome →
      ∃ t, exec .dischargeTimerExpiry s = .next (settle t)
        ∧ t = { s with tests := { s.tests with feeder := { f with
            phase := .charge, timer := none, divider := 0, ahead := 0, lines := t.tests.feeder.lines } } }
        ∧ (∀ i ∈ l, t.tests.feeder.lines.get i = { counter := 4095 - reload, state := some .counting })
        ∧ (∀ i, i ∉ l → t.tests.feeder.lines.get i = f.lines.get i))
    ∧ (∀ i ticks, f.phase = .charge → counts i →
      let n := min 4095 ((f.lines.get i).counter + ticks)
      ∃ t, exec (.comparatorTrip i ticks) s = .next (settle t)
        ∧ t.tests.feeder.lines.get i = { counter := n, state := some (.tripped (n - (4095 - reload))) }
        ∧ others t i ticks ∧ t.tests.feeder.ahead = f.ahead + ticks)
    ∧ (∀ i, f.phase = .charge → counts i →
      ∃ t, exec (.feederCounterOverflow i) s = .next (settle t)
        ∧ t.tests.feeder.lines.get i = { counter := 4095, state := some .overflow }
        ∧ others t i (4096 - (f.lines.get i).counter)
        ∧ t.tests.feeder.ahead = f.ahead + (4096 - (f.lines.get i).counter))
    ∧ (f.phase = .charge →
      let cycles := Config.senseCyclesInRcCycle s.rc.cycles
      let ticks := if clk = 7 then 1 else (f.divider + cycles) / 2 ^ clk
      let divider := if clk = 7 then f.divider else (f.divider + cycles) % 2 ^ clk
      let passes (j : FeederLine) : Prop := counts j ∧ 4095 < (f.lines.get j).counter + (ticks - f.ahead)
      ((∀ j, ¬passes j) →
        let t := senseCycle s
        t = { s with tests := { s.tests with feeder := { f with
          divider := divider, ahead := f.ahead - ticks, lines := t.tests.feeder.lines } } }
        ∧ (∀ j, counts j → t.tests.feeder.lines.get j = after (ticks - f.ahead) j)
        ∧ (∀ j, ¬counts j → t.tests.feeder.lines.get j = f.lines.get j))
      ∧ (∀ i, passes i → (∀ j, j ≠ i → ¬passes j) →
        ∃ t, senseCycle s = settle t
          ∧ t.tests.feeder.lines.get i = { counter := 4095, state := some .overflow }
          ∧ others t i (ticks - f.ahead) ∧ t.tests.feeder.ahead = f.ahead - ticks
          ∧ t.tests.feeder.divider = divider))

/-- The service-channel tester: the end of a frame's sending makes it outstanding for 50 ms; its return with the content
sent is counted ok, its return with other content errored, no return in time lost, and any other frame stray. Once the
outstanding frame is settled the next is sent, or, where as many frames as the test's count have been sent, the tester
stops and the measurement ends: PASS where errored plus lost is at or below the allowed errors, FAIL with reason LIMIT
otherwise, with the counts as results. A frame received while the tester is STOPPED is counted nowhere. What SCH_TX
sends while no frame is outstanding is the frame of the next sequence number: 7E, the count of its content bytes in two
bytes, the loop byte, the sequence number in two bytes, the pattern, and 7E; otherwise it sends nothing. That nothing
more of a frame is sent or counted once an abort has stopped the tester is the model's choice (log 35). -/
def Obligations.LoopFramesCounted : Prop :=
  (∀ (s : State) (content : List Byte), s.run = .running → s.tests.tester.running = false →
    exec (.frameReceived content) s = .next (settle s))
  ∧ ∀ (s : State) (r : TestRec) (len count allowed : Nat), s.run = .running → s.tests.current = some r →
    loopParams r.params = some (len, count, allowed) → s.tests.tester.running = true →
    let k := s.tests.tester
    let settled (c : Tester) : Tester := { c with outstanding := none, timer := none, next := k.next + 1 }
    let after (t : State) (c : Tester) : Prop :=
      (k.sent < count → t = { s with tests := { s.tests with tester := settled c } })
      ∧ (count ≤ k.sent → r.state = .running → r.pending = none →
          t = { s with
            tests := { s.tests with
              tester := { settled c with running := false }, pulse := none
              feeder := { s.tests.feeder with phase := .idle, timer := none }
              current := some { r with
                pending := some (if c.errored + c.lost ≤ allowed then (.pass, none) else (.fail, some .limit))
                results := some (.loop s.tests.loopOnStatus k.sent c.ok c.errored c.lost k.stray) } }
            signals := s.signals ++ [.cleanup] })
    (k.outstanding = none →
      exec .frameSent s = .next (settle { s with tests := { s.tests with tester :=
        { k with sent := k.sent + 1, outstanding := some k.next, timer := some 50 } } })
      ∧ ∃ c : List Byte, schTx s = [0x7E] ++ c ++ [0x7E] ∧ c.length = len + 5
        ∧ (c.take 5).map BitVec.toNat =
            [(len + 3) / 256 % 256, (len + 3) % 256, if r.kind = .loopNear then 0x4E else 0x46, k.next / 256 % 256,
             k.next % 256]
        ∧ (c.drop 2 = frameContent r.kind len k.next)
        ∧ ∀ i, i < len → ((c.drop 5)[i]?).map BitVec.toNat = some ((k.next + i) % 256))
    ∧ (k.outstanding.isSome → schTx s = [])
    ∧ (∀ q content, k.outstanding = some q → isReturnOf r.kind q content = true →
      ∃ t, exec (.frameReceived content) s = .next (settle t)
        ∧ (content = frameContent r.kind len q → after t { k with ok := k.ok + 1 })
        ∧ (content ≠ frameContent r.kind len q → after t { k with errored := k.errored + 1 }))
    ∧ (∀ content, (∀ q, k.outstanding = some q → isReturnOf r.kind q content = false) →
      exec (.frameReceived content) s = .next (settle
        { s with tests := { s.tests with tester := { k with stray := k.stray + 1 } } }))
    ∧ (k.timer.isSome → ∃ t, exec .returnTimerExpiry s = .next (settle t) ∧ after t { k with lost := k.lost + 1 })

/-! ## The site supervisor -/

/-- ACCEPT SET, FEEDER SET, INPUT SET, CHECK SET and QUIET SET set what they carry; a new quiet period that the count
has reached acts at once, and in LIVE the site then becomes AUTONOMOUS, which ends the tests owned by MAIN. That the
queued tests of MAIN stand before a DEFERRED one in the log is the model's choice (log 3). -/
def Obligations.SiteSettingsSet : Prop :=
  ∀ (s : State) (rq : Req), Executes s rq (.group .sitePhase) →
    let u := portLine s rq.port
    (∀ l : List TestKind, ∃ r, exec (.acceptSet rq (some (l.map .known))) s = .next (answered
        (u.settings fun cfg => { cfg with acceptMask := asSet allKinds l }) rq (.ok r [])))
    ∧ (∀ (i : FeederLine) (a : FeederArgs), feederArgsOk a = true →
      let old := u.cfg.feeders.get i
      let new : FeederRec :=
        { expect := nameOr old.expect a.expect, lo := natOr old.lo a.lo, hi := natOr old.hi a.hi
          openLimit := natOr old.openLimit a.openLimit }
      new.lo ≤ new.hi →
      ∃ r, exec (.feederSet rq (some (.known i)) a) s = .next (answered
        { u with cfg := { u.cfg with feeders := u.cfg.feeders.put i new } } rq (.ok r [])))
    ∧ (∀ (i : InputPin) (n : Nat), n = 0 ∨ n = 1 ∨ n = 10 ∨ n = 100 →
      ∃ r, exec (.inputSet rq (some (.known i)) (some n)) s = .next (answered
        (u.settings fun cfg => { cfg with filters := cfg.filters.put i n }) rq (.ok r [])))
    ∧ (∀ m : CheckMode, ∃ r, exec (.checkSet rq (some (.known m))) s = .next (answered
        (u.settings fun cfg => { cfg with ports := cfg.ports.put rq.port { cfg.ports.get rq.port with check := m } })
        rq (.ok r [])))
    ∧ (∀ n : Nat, n ≤ 255 →
      let v := u.settings fun cfg => { cfg with quiet := n }
      ∃ t r, exec (.quietSet rq (some n)) s = .next (answered t rq (.ok r [])) ∧ t.cfg = v.cfg
        ∧ (halfDue v = false → expiryDue v = false → t = v)
        ∧ (halfDue v = true → t.site.halfSent = true)
        ∧ (expiryDue v = true → t.site.expired = true
          ∧ (u.site.phase = .live → t.site.phase = .autonomous ∧ MainTestsEnded v t)))

/-- GO LIVE in STAGING with the link UP, a good oscillator and the acceptance mask met, or forced from SITE level,
enters LIVE, or AUTONOMOUS while the main port is quiet, which ends the tests owned by MAIN. It is refused by the first
test that fails: FORCE below SITE level with NO LEVEL, outside STAGING with NO STATE, under a test's link claim with NO
BUSY, without the link or the oscillator with NO STATE, and without the mask with NO PHASE. STAGE takes the site back to
STAGING with every permit deasserted. The phase leaves STAGING only through a GO LIVE that meets those tests, as a row
of its own or as a line that a port takes. That the queued tests of MAIN stand before a DEFERRED one in the log is the
model's choice (log 3). -/
def Obligations.PhaseRequestsAct : Prop :=
  let need (force : Bool) : Need := if force then .siteIn .sitePhase else .group .sitePhase
  let claimed (u : State) : Prop := ∃ r, u.tests.current = some r ∧ u.link.claim = some r.number
  let met (u : State) : Prop := ∀ k ∈ u.cfg.acceptMask, ∃ n, u.tests.acceptance.get k = .pass n
  let ready (u : State) : Prop := u.link.state = .up ∧ u.timing.grade ≠ .oscFail
  let passes (u : State) (rq : Req) (force : Bool) : Prop :=
    (need force).met u rq.port = true ∧ ¬claimed u ∧ ready u ∧ (force = true ∨ met u)
  let notGoLive (p : Port) (x : RxLine) : Prop := ∀ mode rq force, judgeLine p mode x ≠ .request (.goLive rq force)
  (∀ (s : State) (rq : Req) (force : Bool), Executes s rq (need force) →
    let u := portLine s rq.port
    let refused (why : Reason) : Prop := exec (.goLive rq force) s = .next (answered u rq (.no why))
    (u.site.phase = .staging → ¬claimed u → ready u → (force = false → met u) →
      ∃ t r, exec (.goLive rq force) s = .next (answered t rq (.ok r []))
        ∧ t.site = { u.site with phase := if mainQuiet u then .autonomous else .live, forced := force }
        ∧ t.share.phase = t.site.phase ∧ t.cfg = u.cfg
        ∧ (mainQuiet u = false → AfterReshares { u with site := t.site } t)
        ∧ (mainQuiet u = true → MainTestsEnded u t))
    ∧ (u.site.phase ≠ .staging → refused .noState)
    ∧ (u.site.phase = .staging → claimed u → refused .noBusy)
    ∧ (u.site.phase = .staging → ¬claimed u → ¬ready u → refused .noState)
    ∧ (u.site.phase = .staging → ¬claimed u → ready u → force = false → ¬met u → refused .noPhase))
  ∧ (∀ (s : State) (rq : Req), Takes s rq →
    let u := portLine s rq.port
    (u.port rq.port).access ≠ .site → exec (.goLive rq true) s = .next (answered u rq (.no .noLevel)))
  ∧ (∀ (s : State) (rq : Req), Executes s rq (.group .sitePhase) →
    let u := portLine s rq.port
    (u.site.phase ≠ .staging →
      ∃ t r, exec (.stage rq) s = .next (answered t rq (.ok r []))
        ∧ AfterReshares { u with site := { u.site with phase := .staging, forced := false } } t
        ∧ t.share.phase = .staging ∧ ∀ l, t.share.permits.get l = false)
    ∧ (u.site.phase = .staging → ∃ r, exec (.stage rq) s = .next (answered u rq (.ok r []))))
  ∧ ∀ s : State, s.site.phase = .staging →
    (tick s).site.phase = .staging
    ∧ (∀ i t, exec i s = .next t → t.site.phase ≠ .staging →
      (∃ rq force, i = .goLive rq force ∧ Executes s rq (need force) ∧ passes (portLine s rq.port) rq force)
      ∨ (∃ p l, i = .lineComplete p l) ∨ ∃ p, i = .transmitLineSent p)
    ∧ (∀ p x, (runLine s p x).site.phase ≠ .staging →
      ∃ rq force, judgeLine p (s.cfg.ports.get p).check x = .request (.goLive rq force)
        ∧ passes (portLine s p) rq force)
    ∧ ∀ p, (∀ x ∈ (s.port p).rxq, notGoLive p x) →
      (∀ t, exec (.transmitLineSent p) s = .next t → t.site.phase = .staging)
      ∧ ∀ l t, notGoLive p (l.foldl Assembly.take (s.port p).assembly).line →
          exec (.lineComplete p l) s = .next t → t.site.phase = .staging

/-- RESTART with none pending is noted with its port and the lines that go out before it; with one pending it is
refused. -/
def Obligations.RestartNoted : Prop :=
  ∀ (s : State) (rq : Req), Executes s rq (.siteIn .sitePhase) →
    let u := portLine s rq.port
    let v := offerReply u rq.port (.tag rq.tag) (.ok [] [])
    let noted : PendingRestart :=
      { port := rq.port, lines := (v.port rq.port).txq.length + (v.port rq.port).waiting.length }
    (u.site.restart = none →
      exec (.restart rq) s = .next (settle { v with site := { v.site with restart := some noted } }))
    ∧ (u.site.restart.isSome → exec (.restart rq) s = .next (answered u rq (.no .noBusy)))

/-- The quiet count reaches its half point and its period: the marks are set, and in LIVE the site becomes AUTONOMOUS,
which ends every test owned by MAIN. A line event of the main port begins the count anew, clears both marks and takes
AUTONOMOUS back to LIVE, with one reshare; a line of the service port is none. That the queued tests of MAIN stand
before a DEFERRED one in the log is the model's choice (log 3). -/
def Obligations.QuietPointsReached : Prop :=
  (∀ s : State,
    let v : State := { s with site := { s.site with quietMs := 0, halfSent := false, expired := false } }
    portLine s .service = s
    ∧ (s.site.phase ≠ .autonomous → portLine s .main = settle v)
    ∧ (s.site.phase = .autonomous →
      ∃ t, portLine s .main = settle t ∧ AfterReshares { v with site := { v.site with phase := .live } } t
        ∧ t.share.phase = .live ∧ t.counts.reshares = bump s.counts.reshares))
  ∧ ∀ s : State, s.run = .running →
    (2 ≤ s.cfg.quiet →
      ∃ t, exec .quietHalf s = .next (settle t)
        ∧ AfterNotices
            { s with site := { s.site with quietMs := max s.site.quietMs (s.cfg.quiet / 2 * 1000), halfSent := true } } t)
    ∧ (s.cfg.quiet ≠ 0 →
      ∃ t, exec .quietExpired s = .next (settle t) ∧ t.site.expired = true ∧ t.cfg = s.cfg
        ∧ t.site.quietMs = max s.site.quietMs (s.cfg.quiet * 1000)
        ∧ (s.site.expired = false →
            t.site.phase = (if s.site.phase = .live then .autonomous else s.site.phase)
            ∧ (s.site.phase = .live → t.share.phase = .autonomous ∧ MainTestsEnded s t))
        ∧ (s.site.phase ≠ .live → AfterNotices { s with site := t.site } t))

/-! ## The ports -/

/-- NOTICE SET, SUMMARY and SUMMARY SET act on the requesting port. That SUMMARY leaves the change-pending mark is the
model's choice (log 14). -/
def Obligations.PortOwnedRequestsAct : Prop :=
  ∀ (s : State) (rq : Req), Executes s rq (.group .view) →
    let u := portLine s rq.port
    let p := rq.port
    (∀ l : List NoticeClass, ∃ r, exec (.noticeSet rq (some (l.map .known))) s = .next (answered
        (u.settings fun cfg => { cfg with ports := cfg.ports.put p { cfg.ports.get p with mask := asSet allClasses l } })
        rq (.ok r [])))
    ∧ exec (.summary rq) s = .next (answered
        (u.setPort p { u.port p with
          summary := { (u.port p).summary with changed := [], events := [] }
          intervalTimer := secondsTimer (u.cfg.ports.get p).interval, spacingTimer := some 1000 })
        rq (.ok (u.port p).summary.pairs []))
    ∧ (∀ (n : Option Nat) (b : Option Bool), (n.isSome || b.isSome) = true → (∀ k, n = some k → k ≤ 60) →
      let g := u.cfg.ports.get p
      let x := u.port p
      ∃ r, exec (.summarySet rq (n.map Int.ofNat) (b.map .known)) s = .next (answered
        ((u.settings fun cfg => { cfg with
            ports := cfg.ports.put p { g with interval := n.getD g.interval, change := b.getD g.change } }).setPort p
          { x with intervalTimer := (n.map secondsTimer).getD x.intervalTimer
                   changePending := x.changePending && b.getD true }) rq (.ok r [])))

/-- UNLOCK: a match raises the port's level; the first two mismatches are refused with NO LEVEL and the third begins the
lockout, during which UNLOCK is refused with NO WAIT and nothing is counted. LOCK takes the port to OPEN. By LOCK, or by
an UNLOCK to a lower level, a port that owns the alignment record and no longer meets the minimum of ALIGN gives it up,
to MAST or altogether. LOCK ends the port's bus hold, which is counted and reported with cause LOCK and lets the
controller choose again; while a transaction of the port runs, at its completion, where the first cause that came is the
one kept (the model's choice, log 30). The polarity under which the indicator then rests is the one of the last report
(DEDUCED, log 10), and the key of the reply is the model's choice (log 6). -/
def Obligations.UnlockAndLockAct : Prop :=
  ∀ (s : State) (rq : Req), Executes s rq .nothing →
    let u := portLine s rq.port
    let p := rq.port
    (∀ (a : CredArgs) (who : Option (Fin 4)) (k : List Char), namedLevel a = some who → namedCred a.cred = some (some k) →
      ((u.port p).lockout.isSome → exec (.unlock rq a) s = .next (answered u rq (.no .noWait)))
      ∧ ((u.port p).lockout = none → credMatches u p who k = true →
          let v := u.setPort p { u.port p with access := levelOf who, mismatches := 0 }
          let l := levelAfterDrop v p
          let falls := (u.port p).access = .site ∧ who.isSome
          ∃ t r, exec (.unlock rq a) s = .next (answered t rq (.ok r []))
            ∧ (falls → AfterNotices { v with level := l.1, signals := v.signals ++ l.2 } t) ∧ (¬falls → t = v))
      ∧ ((u.port p).lockout = none → credMatches u p who k = false →
          let n := (u.port p).mismatches
          let v := u.counting fun c => { c with unlockFails := bump c.unlockFails }
          (n < 2 → exec (.unlock rq a) s = .next (answered
            (v.setPort p { u.port p with mismatches := n + 1 }) rq (.no .noLevel)))
          ∧ (2 ≤ n → exec (.unlock rq a) s = .next (answered
            (v.setPort p { u.port p with mismatches := 3, lockout := some 30000 }) rq (.no .noWait)))))
    ∧ (let v := u.setPort p { u.port p with access := .opened }
       let l := levelAfterDrop v p
       let b := busAfterLock u.bus p
       let v : State := { v with
         level := l.1, bus := b.1, signals := u.signals ++ l.2 ++ b.2.2
         counts := { u.counts with
           busHoldExpired := if b.2.1 then bump u.counts.busHoldExpired else u.counts.busHoldExpired } }
       ∃ t, exec (.lock rq) s = .next (answered t rq (.ok [kv "level" (.word "OPEN")] [])) ∧ AfterNotices v t
        ∧ (b.2.1 = true →
            ∃ w, AfterNotices { v with bus := u.bus, counts := u.counts, signals := u.signals ++ l.2 } w
              ∧ t = (noticeMasked
                  { w with bus := { w.bus with hold := none }
                           counts := { w.counts with busHoldExpired := bump w.counts.busHoldExpired } }
                  p .port ["HOLD_END"] [kv "cause" (.word "LOCK")]).push .busChoose))

/-- CRED SET and ACCESS SET, which need SITE level. A raised minimum of ALIGN takes the alignment record from a port
that it leaves below; of any other group nothing else changes. Every step leaves a port that owns the record at the
level that ALIGN needs. -/
def Obligations.AccessSettingsSet : Prop :=
  (∀ s t : State, AlignOwnersEntitled s → step s = .next t → AlignOwnersEntitled t)
  ∧ ∀ (s : State) (rq : Req), Executes s rq .site → AlignOwnersEntitled s →
    let u := portLine s rq.port
    (∀ (a : CredArgs) (k : Option (List Char)), namedCred a.cred = some k →
      (namedLevel a = some none → ∃ r, exec (.credSet rq a) s = .next (answered
        { u with cfg := { u.cfg with siteCred := k } } rq (.ok r [])))
      ∧ (∀ t, namedLevel a = some (some t) →
        let new : TenantSettings := { u.cfg.tenants.get t with cred := k }
        ∃ r, exec (.credSet rq a) s = .next (answered
          { u with cfg := { u.cfg with tenants := u.cfg.tenants.set t new } } rq (.ok r []))))
    ∧ (∀ (g : Group) (l : MinLevel),
      let v : State := { u with cfg := { u.cfg with minima := u.cfg.minima.put g l } }
      ∃ t r, exec (.accessSet rq (some (.known g)) (some (.known l))) s = .next (answered t rq (.ok r []))
        ∧ AfterNotices { v with level := t.level, signals := t.signals } t
        ∧ (g ≠ .align → t = v)
        ∧ ((∀ p a, u.level.align = some a → a.owner = .port p → inGroup v p .align = true) → t = v)
        ∧ (∀ p a, u.level.align = some a → a.owner = .port p → inGroup v p .align = false →
            t.level.align.map (·.owner) ≠ some (.port p)))

/-- COUNT READ answers the value of one counter; COUNT CLEAR by a port at SITE level zeroes all counters, every index of
a name, or one index. The keys name, index and value of the replies are the model's choice (log 6). -/
def Obligations.CountersReadAndCleared : Prop :=
  ∀ (s : State) (rq : Req) (n : CounterName), Takes s rq → rq.extra = false →
    let u := portLine s rq.port
    (inGroup u rq.port .view = true →
      (∀ v, u.counts.select n = .plain v → exec (.countRead rq (some (.known n)) none) s = .next (answered u rq
        (.ok [kv "name" (.word (CounterName.word n)), kv "index" .absent, kv "value" (.nat v)] [])))
      ∧ (∀ v (i : Fin 3), u.counts.select n = .source v →
        exec (.countRead rq (some (.known n)) (some (.num i.val))) s = .next (answered u rq
          (.ok [kv "name" (.word (CounterName.word n)), kv "index" (.nat i.val),
                kv "value" (.nat (v.get (sourceAt i)))] [])))
      ∧ (∀ v p, u.counts.select n = .port v →
        exec (.countRead rq (some (.known n)) (some (.port p))) s = .next (answered u rq
          (.ok [kv "name" (.word (CounterName.word n)), kv "index" (.word (Port.word p)),
                kv "value" (.nat (v.get p))] []))))
    ∧ (atSite u rq.port = true →
      (∃ r, exec (.countClear rq none none) s = .next (answered { u with counts := .zero } rq (.ok r [])))
      ∧ (∃ r c, exec (.countClear rq (some (.known n)) none) s = .next (answered { u with counts := c } rq (.ok r []))
          ∧ (∀ m, m ≠ n → c.select m = u.counts.select m)
          ∧ (∀ v, c.select n = .plain v → v = 0) ∧ (∀ v i, c.select n = .source v → v.get i = 0)
          ∧ (∀ v p, c.select n = .port v → v.get p = 0))
      ∧ (∀ v (i : Fin 3), u.counts.select n = .source v →
          ∃ r c, exec (.countClear rq (some (.known n)) (some (.num i.val))) s = .next
              (answered { u with counts := c } rq (.ok r []))
            ∧ (∀ m, m ≠ n → c.select m = u.counts.select m)
            ∧ c.select n = .source (v.put (sourceAt i) 0))
      ∧ (∀ v p, u.counts.select n = .port v →
          ∃ r c, exec (.countClear rq (some (.known n)) (some (.port p))) s = .next
              (answered { u with counts := c } rq (.ok r []))
            ∧ (∀ m, m ≠ n → c.select m = u.counts.select m) ∧ c.select n = .port (v.put p 0)))

/-- The ends of a port's timers, and the sending of the head line of its transmit queue, which a carriage return and a
line feed end: its entry is free for a waiting reply, and once no reply waits the port takes the head line of its
receive queue, and then the next while it can (`drainFor`, see LinesTaken). That TRANSMIT_LINE_SENT with no line to send
has no effect is the model's choice (log 7). What a notice, an event flag and a current value do to a port: a notice of
a masked class is offered if the mask holds the class, enters with 4 entries free and is else dropped, counted and
flagged; a flag set and a value changed are a summary change, and a flag already set and a value that stays change
nothing. The order in which several values of one block reach the two records is the model's choice (log 3), and so is
that the current count of IDLE carriers counts the defined ones alone (log 14), and that a dropped SUMMARY notice which
finds NOTICE_DROP set already brings no further attempt (log 33). -/
def Obligations.PortTimersAndSending : Prop :=
  ∀ (s : State) (p : Port),
    let x := s.port p
    (s.run = .running →
      (x.lockout.isSome →
        exec (.lockoutTimerExpiry p) s = .next (settle (s.setPort p { x with lockout := none, mismatches := 0 })))
      ∧ (x.intervalTimer.isSome → ∃ t, exec (.intervalTimerExpiry p) s = .next (settle t) ∧ SummaryOffered s t p)
      ∧ (x.spacingTimer.isSome → x.changePending = false →
        exec (.spacingTimerExpiry p) s = .next (settle (s.setPort p { x with spacingTimer := none })))
      ∧ (x.spacingTimer.isSome → x.changePending = true →
        ∃ t, exec (.spacingTimerExpiry p) s = .next (settle t)
          ∧ SummaryOffered (s.setPort p { x with spacingTimer := none, changePending := false }) t p)
      ∧ (∀ h l, x.txq = h :: l → serialOut s p = h.text ++ ['\r', '\n'])
      ∧ (x.txq = [] → exec (.transmitLineSent p) s = .next (settle s))
      ∧ (∀ h l, x.txq = h :: l →
        let sent (q : List RxLine) : State :=
          { s with
            ports := s.ports.put p { x with txq := l ++ x.waiting.take (24 - l.length)
                                            waiting := x.waiting.drop (24 - l.length), rxq := q }
            site := { s.site with restart := s.site.restart.map fun r =>
              if r.port = p then { r with lines := r.lines - 1 } else r } }
        let takes := x.waiting.drop (24 - l.length) = [] ∧ ∀ r, s.site.restart = some r → r.port ≠ p
        (x.rxq = [] ∨ ¬takes → exec (.transmitLineSent p) s = .next (settle (sent x.rxq)))
        ∧ ∀ y q, x.rxq = y :: q → takes →
          (∀ i rq n t, judgeLine p (s.cfg.ports.get p).check y = .request i → requestOf i = some (rq, n) →
            rq.port = p → exec i (sent q) = .next t →
            exec (.transmitLineSent p) s = .next (settle (drainFor 3 p t)))
          ∧ ∀ why t, judgeLine p (s.cfg.ports.get p).check y = .bad why →
            exec (.lineNotRequest p why) (sent q) = .next t →
            exec (.transmitLineSent p) s = .next (settle (drainFor 3 p t))))
    ∧ (∀ words pairs,
        let l := noticeLines s p words pairs
        (x.txq.length + l.length + 3 ≤ 24 → notice s p words pairs = s.setPort p { x with txq := x.txq ++ l })
        ∧ (24 < x.txq.length + l.length + 3 →
          notice s p words pairs =
            setFlag { s with counts := { s.counts with
                noticeDrops := s.counts.noticeDrops.put p (bump (s.counts.noticeDrops.get p)) } } p .noticeDrop)
        ∧ ∀ c : NoticeClass, noticeMasked s p c words pairs =
            if c ∈ (s.cfg.ports.get p).mask then notice s p (c.word :: words) pairs else s)
    ∧ (∀ e, (e ∈ x.summary.events → setFlag s p e = s)
        ∧ (e ∉ x.summary.events →
          SummaryChanged (s.setPort p { x with summary := { x.summary with
              events := allEvents.filter fun f => f ∈ e :: x.summary.events } }) (setFlag s p e) p))
    ∧ (∀ cur k, (x.summary.vals.val k = cur.val k → syncKey s p cur k = s)
        ∧ (x.summary.vals.val k ≠ cur.val k → ∃ v : SumVals,
          SummaryChanged (s.setPort p { x with summary := { x.summary with
              vals := v, changed := allKeys.filter fun j => j ∈ k :: x.summary.changed } }) (syncKey s p cur k) p
          ∧ v.val k = cur.val k ∧ ∀ j, j ≠ k → v.val j = x.summary.vals.val j))
    ∧ (∀ own, syncSummary own s =
        own.foldl (fun t k => syncKey (syncKey t .main (currentVals s) k) .service (currentVals s) k) s)
    ∧ currentVals s =
        (let number (st : CarrierState) : Nat := (List.finRange 16).countP fun c =>
          (s.cfg.carriers.get c).isSome && (s.share.carriers.get c).state == st
        { phase := s.site.phase, link := s.link.state, profile := s.link.confirmed, base := s.link.base
          pool := s.share.pool, tstate := s.timing.state, grade := s.timing.grade, source := s.timing.selected
          test := s.tests.current.map (·.number), idle := number .idle, waiting := number .waiting
          active := number .active, throttled := number .throttled, held := number .held })

/-- A complete line waits while its port cannot take it, is dropped, flagged and noticed when 4 wait, and is otherwise
taken and judged by tag, length, check, grammar and verb in that order: a request that the line spells acts as the
command of its row, and a line that is no request gets the reply NO of the first test that fails; an empty line is none.
Lines are taken from the head of the receive queue, and the end of a taken line takes the next, while the port can take
one (`drainFor`, for as many lines as the queue holds). That a verb in small letters breaks no grammar, and which form a
value must have on a line that names no request, are the model's choices (log 28), and so is that an object word of more
than 10 digits has the form of a name, and that a credential with an equals sign in it breaks the grammar (log 11). -/
def Obligations.LinesTaken : Prop :=
  ∀ (s : State) (p : Port), s.run = .running →
    let mode := (s.cfg.ports.get p).check
    (∀ l : List RxChar,
      let x := (l.foldl Assembly.take (s.port p).assembly).line
      let u := s.setPort p { s.port p with assembly := .empty }
      (x.isEmpty = true → exec (.lineComplete p l) s = .next (settle u))
      ∧ (x.isEmpty = false → canTake s p = false → (s.port p).rxq.length < 4 →
        exec (.lineComplete p l) s = .next (settle
          (s.setPort p { s.port p with assembly := .empty, rxq := (s.port p).rxq ++ [x] })))
      ∧ (x.isEmpty = false → canTake s p = false → 4 ≤ (s.port p).rxq.length →
        let d := { u with counts := { s.counts with drops := s.counts.drops.put p (bump (s.counts.drops.get p)) } }
        (∀ g rest, Tagged x.chars g rest →
          exec (.lineComplete p l) s =
            .next (settle (noticeMasked (setFlag d p .lineDrop) p .port ["DROP"] [kv "tag" (.tag g)])))
        ∧ ((¬∃ g rest, Tagged x.chars g rest) →
          exec (.lineComplete p l) s =
            .next (settle (noticeMasked (setFlag d p .lineDrop) p .port ["DROP"] [kv "tag" .absent]))))
      ∧ (x.isEmpty = false → canTake s p = true → (s.port p).rxq = [] →
        (∀ i rq n t, judgeLine p mode x = .request i → requestOf i = some (rq, n) → rq.port = p →
          exec i u = .next t → (t.port p).rxq = [] → exec (.lineComplete p l) s = .next (settle t))
        ∧ ∀ why t, judgeLine p mode x = .bad why → exec (.lineNotRequest p why) u = .next t → (t.port p).rxq = [] →
          exec (.lineComplete p l) s = .next (settle t))
      ∧ (x.isEmpty = false → (s.port p).rxq.length < 4 →
        exec (.lineComplete p l) s = .next (settle (drainFor 4 p
          (s.setPort p { s.port p with assembly := .empty, rxq := (s.port p).rxq ++ [x] })))))
    ∧ (∀ n, (canTake s p = false ∨ (s.port p).rxq = [] → drainFor n p s = s)
      ∧ ∀ y q, canTake s p = true → (s.port p).rxq = y :: q →
        let w := s.setPort p { s.port p with rxq := q }
        (∀ i rq k t, judgeLine p mode y = .request i → requestOf i = some (rq, k) → rq.port = p →
          exec i w = .next t → drainFor (n + 1) p s = drainFor n p t)
        ∧ ∀ why t, judgeLine p mode y = .bad why → exec (.lineNotRequest p why) w = .next t →
          drainFor (n + 1) p s = drainFor n p t)
    ∧ (∀ x : RxLine,
        ((¬∃ g rest, Tagged x.chars g rest) → judgeLine p mode x = .bad .noTag)
        ∧ ∀ g rest, Tagged x.chars g rest →
          (x.overlong = true → judgeLine p mode x = .bad (.overlong g))
          ∧ (x.overlong = false → ¬CheckPasses mode x.chars → judgeLine p mode x = .bad (.badCheck g))
          ∧ (x.overlong = false → CheckPasses mode x.chars →
            (x.bad = true ∨ ¬∃ ws fs, Grammatical x.chars rest ws fs) → judgeLine p mode x = .bad (.badGrammar g))
          ∧ (x.overlong = false → CheckPasses mode x.chars → x.bad = false → ∀ ws fs, Grammatical x.chars rest ws fs →
            (formatOf ws formats = none → judgeLine p mode x = .bad (.unknownVerb g))
            ∧ ∀ h w, formatOf ws formats = some (h, w) →
              judgeLine p mode x = .request (h.build
                { port := p, tag := g, extra := fs.any fun f => (keyForm h f.1).isNone } w fs)))
    ∧ (canTake s p = true →
      exec (.lineNotRequest p .noTag) s = .next (settle (offerReply s p .unread (.no .noSyntax)))
      ∧ (∀ g, exec (.lineNotRequest p (.overlong g)) s = .next (settle (offerReply s p (.tag g) (.no .noSyntax)))
        ∧ exec (.lineNotRequest p (.badCheck g)) s = .next (settle (offerReply s p (.tag g) (.no .noCheck)))
        ∧ exec (.lineNotRequest p (.badGrammar g)) s = .next (settle (offerReply s p (.tag g) (.no .noSyntax)))
        ∧ exec (.lineNotRequest p (.unknownVerb g)) s =
            .next (settle (offerReply (portLine s p) p (.tag g) (.no .noUnknown)))))

/-- A request of a port that may not make it is refused with NO LEVEL, one with a key it does not take with NO RANGE,
and neither changes anything; a port that waits for its reply to leave takes no line. That the key is refused before
every check of the block is the model's choice (log 11), and so is that a request of a port that takes no line has no
effect (log 5). -/
def Obligations.RequestsRefused : Prop :=
  ∀ (s : State) (i : Instr) (rq : Req) (n : Need), requestOf i = some (rq, n) → s.run = .running →
    let u := portLine s rq.port
    (canTake s rq.port = true → n.met u rq.port = false → exec i s = .next (answered u rq (.no .noLevel)))
    ∧ (canTake s rq.port = true → n.met u rq.port = true → rq.extra = true →
        exec i s = .next (answered u rq (.no .noRange)))
    ∧ (canTake s rq.port = false → exec i s = .next (settle s))

/-! ## The settings store -/

/-- SAVE takes a snapshot with the next save number; its write's end leaves the image with its check; LOAD in STAGING
brings every setting of the image into force. That the snapshot holds the latched SITE_PPS settings is DEDUCED (log 12),
and the key of the reply to LOAD is the model's choice (log 6). -/
def Obligations.StoreRequestsAct : Prop :=
  (∀ (s : State) (rq : Req), Executes s rq (.group .store) →
    let u := portLine s rq.port
    let taken : Writing :=
      { settings := u.cfg, number := if u.store.image.good then u.store.image.number + 1 else 1
        port := rq.port, tag := rq.tag }
    (u.store.writing = none → u.store.image.number < 2 ^ 32 - 1 →
      exec (.save rq) s = .next (answered { u with store := { u.store with writing := some taken } } rq .go))
    ∧ (u.store.writing.isSome → exec (.save rq) s = .next (answered u rq (.no .noBusy)))
    ∧ (u.site.phase = .staging → u.store.writing = none → u.tests.current = none → u.store.image.good = true →
      u.link.state = .off →
      ∃ t, exec (.load rq) s = .next (answered t rq (.ok [kv "number" (.nat u.store.image.number)] []))
        ∧ t.cfg = u.store.image.settings ∧ t.store = u.store ∧ t.tests = u.tests ∧ t.bus = u.bus ∧ t.link = u.link
        ∧ t.site.phase = .staging ∧ (∀ c, (t.share.carriers.get c).state = .idle)
        ∧ (∀ l, t.share.permits.get l = false)))
  ∧ (∀ (s : State) (w : Writing) (good : Bool), s.run = .running → s.store.writing = some w →
    ∃ t, exec (.saveWriteEnd good) s = .next (settle t)
      ∧ AfterNotices
          { s with store :=
            { image := { settings := w.settings, number := w.number, good := good }, blank := !good
              writing := none } } t)

/-- STORE READ: the image check, the save number or NONE, STORE_BLANK and the write state with the port and tag while
WRITING; a port below the STORE group is refused, and SITE READ shows STORE_BLANK among its fields. The keys are the
model's choice (log 6), and so is that the check and the number shown during WRITING are those before the write
(log 9). -/
def Obligations.StoreReadReplies : Prop :=
  ∀ (s : State) (rq : Req), Takes s rq → rq.extra = false →
    let u := portLine s rq.port
    let b := u.store
    (inGroup u rq.port .store = true →
      (b.writing = none → exec (.storeRead rq) s = .next (answered u rq (.ok
        [kv "check" (.word (if b.image.good then "GOOD" else "FAILED")),
         kv "number" (if b.image.good then .nat b.image.number else .absent), kv "blank" (.mark b.blank),
         kv "write" (.word "IDLE")] [])))
      ∧ (∀ w, b.writing = some w → exec (.storeRead rq) s = .next (answered u rq (.ok
        [kv "check" (.word (if b.image.good then "GOOD" else "FAILED")),
         kv "number" (if b.image.good then .nat b.image.number else .absent), kv "blank" (.mark b.blank),
         kv "write" (.word "WRITING"), kv "port" (.word (Port.word w.port)), kv "tag" (.tag w.tag)] []))))
    ∧ (inGroup u rq.port .store = false → exec (.storeRead rq) s = .next (answered u rq (.no .noLevel)))
    ∧ (inGroup u rq.port .view = true → ∃ l, exec (.siteRead rq) s = .next (answered u rq (.ok l []))
        ∧ kv "blank" (.mark b.blank) ∈ l)

/-! ## Reads -/

/-- The read requests answer OK with the values that the blocks hold and change nothing but the reply's own lines: those
without an operand always, those of an object for every object in range and for all of them, those of a held record for
every record held. The keys of the fields, the words SET and CLEAR of a mark, and the list that a source's causes and a
test's claims each make, empty where there are none, and that TEST READ gives nothing for an empty running slot, are the
model's choice (log 6), and so are the elapsed ms of a capture, rounded down (log 22), and the timing settings that
TIMING READ gives, those of the second table of section 5.1 alone (log 34). -/
def Obligations.ReadsAnswer : Prop :=
  ∀ (s : State) (rq : Req), Takes s rq → rq.extra = false →
    let u := portLine s rq.port
    let answers (i : Instr) (head : List Pair) (records : List (List Pair)) : Prop :=
      exec i s = .next (answered u rq (.ok head records))
    let high (b : Bool) : Val := .word (if b then "HIGH" else "LOW")
    let source (o : Option Source) : Val := .optWord (o.map Source.word)
    let align : List Pair := match u.level.align with
      | none => [kv "owner" .absent]
      | some a =>
        [kv "owner" (.word a.owner.word), kv "mast" (.mark a.mastFlag), kv "start" (.time a.start),
         kv "level" (.optInt a.current), kv "peak" (.optInt (a.peak.map (·.1))),
         kv "peaktime" (.optTime (a.peak.map (·.2))), kv "reports" (.nat a.reports), kv "interval" (.nat a.interval),
         kv "next" (.nat a.toNext)]
    let k := u.link
    let g := u.cfg.link
    let profile (p : Fin 8) : List Pair :=
      let r := u.cfg.profiles.get p
      [kv "p" (.nat p), kv "enabled" (.yesNo r.enabled), kv "cap" (.nat r.cap),
       kv "up" (if p = 0 then .absent else .int r.up), kv "down" (if p = 0 then .absent else .int r.down),
       kv "code" (.nat r.code.toNat)]
    let template (n : TemplateName) : List Pair :=
      let r := u.cfg.templates.get n
      [kv "name" (.word n.word), kv "addr" (.nat r.addr), kv "bytes" (.bytes r.bytes)]
        ++ (if n = .profile then [kv "pos" (.nat r.pos)] else [])
    let b := u.bus
    let bus : List Pair :=
      (match b.current with
        | none => [kv "now" .absent]
        | some x => [kv "now" (.word x.txn.requester.word), kv "tag" (tagVal x.txn.tag),
            kv "purpose" (.optWord (x.txn.purpose.map (·.word))), kv "addr" (.nat x.txn.addr), kv "ms" (.nat x.ms)])
      ++ (match b.hold with
        | none => [kv "hold" .absent]
        | some h => [kv "hold" (.word (Port.word h.port)), kv "phase" (.word h.phase.word), kv "left" (.nat h.left)])
      ++ (match b.profileSlot with
        | none => [kv "pslot" .absent]
        | some t => [kv "pslot" (.optFin t.target), kv "confirm" (.mark t.confirm), kv "attempt" (.nat t.attempt)])
      ++ (match b.internalSlot with
        | none => [kv "islot" .absent]
        | some t => [kv "islot" (.word t.requester.word), kv "islotp" (.optWord (t.purpose.map (·.word)))])
      ++ [kv "ports" (.words (b.fifo.map (·.requester.word))),
          kv "tags" (.ints (b.fifo.map fun t => match t.tag with | none => 0 | some g => (g.value : Int))),
          kv "free" (.nat (4 - b.fifo.length))]
    let c := u.clock
    let l := u.cfg.pulse
    let capture (i : Source) : List Pair :=
      let r := c.captures.get i
      let ms : Option Nat := r.last.map fun _ => r.elapsed / 32768000000
      [kv "s" (.nat (Source.index i)), kv "last" (.optTime r.last),
       kv "interval" (match r.interval with | none => .absent | some (.ns n) => .nat n | some .long => .word "LONG"),
       kv "coarse" (if r.last.isSome then .mark r.coarse else .absent), kv "elapsed" (.optNat ms)]
    let aux : List Pair :=
      [kv "aux" (.nat (if c.divert.isSome then 1 else u.cfg.auxDiv)), kv "stored" (.nat u.cfg.auxDiv),
       kv "count" (.nat c.auxCount), kv "divert" (match c.divert with | none => .word "OFF" | some n => .nat n)]
      ++ (if c.divert.isSome then
            [kv "edge" (.optTime (c.lastDiverted.map (·.1))),
             kv "dir" (.optWord (c.lastDiverted.map fun e => match e.2 with | .rise => "RISE" | .fall => "FALL"))]
          else [])
    let τ := u.timing
    let timing := u.cfg.timing
    let selector (i : Source) : List Pair :=
      let r := τ.sources.get i
      let g := u.cfg.sources.get i
      let causes : List String :=
        if r.state = .off then []
        else (if r.mark.isSome then ["TEST"] else []) ++ (if i = .link ∧ τ.linkCopy ≠ .up then ["LINK"] else [])
          ++ (if τ.oscCopy then ["OSC"] else [])
      [kv "s" (.nat (Source.index i)), kv "state" (.word r.state.word), kv "forced" (.words causes),
       kv "enabled" (.yesNo g.enabled), kv "priority" (.nat g.priority), kv "tol" (.nat g.tol),
       kv "qualify" (.nat g.qualify), kv "fail" (.nat g.fail), kv "stability" (.nat g.stability),
       kv "allowance" (.nat g.allowance), kv "time" (.optTime r.lastTime), kv "offset" (.optInt r.lastOffset),
       kv "goodrun" (.nat r.goodRun), kv "min" (.optInt (r.anchor.map (·.min))),
       kv "max" (.optInt (r.anchor.map (·.max))), kv "badrun" (.nat r.badRun), kv "watch" (.optNat r.watch),
       kv "mark" (.optNat r.mark)]
    let h := u.share
    let borrow : List Pair := match h.borrow with
      | .absent => [kv "borrow" .absent, kv "amount" .absent, kv "test" .absent]
      | .waiting n t => [kv "borrow" (.word "WAITING"), kv "amount" (.nat n), kv "test" (.nat t)]
      | .held n t => [kv "borrow" (.word "HELD"), kv "amount" (.nat n), kv "test" (.nat t)]
    let total (k : Fin 4) : List Pair :=
      [kv "t" (.nat k.val), kv "admitted" (.nat (h.tenants.get k).admitted),
       kv "granted" (.nat (h.tenants.get k).granted)]
    let carrier (x : Fin 16) : List Pair :=
      let r := h.carriers.get x
      match u.cfg.carriers.get x with
      | none => [kv "c" (.nat x), kv "defined" (.word "UNDEFINED")]
      | some d =>
        [kv "c" (.nat x), kv "defined" (.yesNo true), kv "tenant" (.nat d.tenant), kv "sector" (.nat d.sector),
         kv "duplex" (.word d.duplex.word), kv "class" (.nat d.cls), kv "min" (.nat d.min),
         kv "permit" (.optFin d.permit), kv "demand" (.nat r.demand), kv "state" (.word r.state.word),
         kv "reason" (.optWord (r.reason.map (·.word))), kv "grant" (.nat r.grant), kv "order" (.optNat r.order),
         kv "restore" (.optNat r.restore),
         kv "hold" (match r.hold with
           | none => .absent | some (.ms n) => .nat n | some .untilCancelled => .word "UNTIL_CANCELLED")]
    let tenant (k : Fin 4) : List Pair :=
      let r := u.cfg.tenants.get k
      let number (st : CarrierState) : Val := .nat ((List.finRange 16).countP fun x =>
        ofTenant u k x && (h.carriers.get x).state == st)
      [kv "t" (.nat k), kv "defined" (.yesNo r.defined), kv "floor" (.nat r.floor), kv "ceiling" (.nat r.ceiling),
       kv "weight" (.nat r.weight), kv "cred" (.word (if r.cred.isSome then "SET" else "NONE")),
       kv "admitted" (.nat (h.tenants.get k).admitted), kv "granted" (.nat (h.tenants.get k).granted),
       kv "idle" (number .idle), kv "waiting" (number .waiting), kv "active" (number .active),
       kv "throttled" (number .throttled), kv "held" (number .held)]
    let head (r : TestRec) : List Pair :=
      [kv "n" (.nat r.number), kv "kind" (.word (TestKind.word r.kind)), kv "owner" (.word (Port.word r.owner)),
       kv "state" (.word r.state.word)]
    let seconds (o : Option (BitVec 32)) : Val := .optNat (o.map (·.toNat))
    let why (o : Option TestReason) : Val := .optWord (o.map (·.word))
    let outcome : Verdict → String := fun v => match v with | .pass => "PASS" | .fail => "FAIL" | .aborted => "ABORTED"
    let claims (n : Nat) : List String :=
      (if k.claim = some n then ["LINK"] else [])
        ++ (([.gnss, .link, .aux] : List Source).filter fun i => (τ.sources.get i).mark == some n).map Source.word
        ++ (if c.divert = some n then ["DIVERSION"] else [])
        ++ (if (match h.borrow with | .absent => none | .waiting _ t | .held _ t => some t) = some n
            then ["BORROW"] else [])
    let current (r : TestRec) : List Pair :=
      [kv "start" (seconds r.start), kv "pending" (.optWord (r.pending.map fun x => outcome x.1)),
       kv "reason" (why (r.pending.bind (·.2))), kv "defer" (.optNat u.tests.deferTimer),
       kv "txn" (.optWord (u.tests.outstanding.map (·.purpose.word))),
       kv "attempt" (.optNat (u.tests.outstanding.map (·.attempt))), kv "claims" (.words (claims r.number))]
    let params (r : TestRec) : List Pair := match r.params with
      | .feeder f clk d n =>
        [kv "lines" (.words (f.map FeederLine.word)), kv "clock" (.nat clk), kv "discharge" (.nat d),
         kv "reload" (.nat n)]
      | .loopNear n m a | .loopFar n m a => [kv "length" (.nat n), kv "count" (.nat m), kv "allowed" (.nat a)]
      | .pulse n w o => [kv "count" (.nat n), kv "width_tol" (.nat w), kv "offset" (.nat o)]
      | .probe a g n e m =>
        [kv "addr" (.nat a), kv "reg" (.bytes g), kv "read" (.nat n), kv "expect" (.bytes e), kv "mask" (.bytes m)]
    let tester (r : TestRec) : List Pair :=
      let x := u.tests.tester
      if (r.kind = .loopNear ∨ r.kind = .loopFar) ∧ r.state = .running then
        [kv "tester" (.word (if x.running then "RUNNING" else "STOPPED")), kv "outstanding" (.optNat x.outstanding),
         kv "sent" (.nat x.sent), kv "ok" (.nat x.ok), kv "errored" (.nat x.errored), kv "lost" (.nat x.lost),
         kv "stray" (.nat x.stray)]
      else []
    let results (r : TestRec) : List Pair × List (List Pair) := match r.results with
      | none => ([kv "results" .absent], [])
      | some (.feeder f) => ([], f.map fun x =>
          [kv "f" (.word (FeederLine.word x.line)),
           kv "ticks" (match x.outcome with | .tripped n => .nat n | .counting | .overflow => .word "OVERFLOW"),
           kv "class" (.word x.cls.word), kv "expect" (.word (ExpectClass.word x.expect))])
      | some (.loop st sent ok errored lost stray) =>
        ((if r.kind = .loopNear then [kv "loopon" (statusVal st)] else [])
          ++ [kv "sent" (.nat sent), kv "ok" (.nat ok), kv "errored" (.nat errored), kv "lost" (.nat lost),
              kv "stray" (.nat stray)], [])
      | some (.pulse n mean largest) =>
        ([kv "measured" (.nat n), kv "mean" (.optInt mean), kv "largest" (.optNat largest)], [])
      | some (.probe st w d m) =>
        ([kv "status" (.word st.word), kv "written" (.nat w), kv "bytes" (.nat d.length), kv "data" (.bytes d),
          kv "mismatch" (.optNat m)], [])
    let entry : Entry → Val := fun e => match e with
      | .absent => .absent
      | .pass n => .words ["PASS", String.ofList (decText n)]
      | .fail n => .words ["FAIL", String.ofList (decText n)]
    let feeder (f : FeederLine) : List Pair :=
      let r := u.cfg.feeders.get f
      [kv "f" (.word (FeederLine.word f)), kv "expect" (.word (ExpectClass.word r.expect)), kv "lo" (.nat r.lo),
       kv "hi" (.nat r.hi), kv "open" (.nat r.openLimit)]
    let pins : List InputPin := [.resetN, .mastMoving, .oduLock, .svcConnect]
    let input (i : InputPin) : List Pair :=
      let x := u.site.inputs.get i
      [kv "name" (.word (InputPin.word i)), kv "filter" (.nat (u.cfg.filters.get i)), kv "level" (high x.filtered),
       kv "pin" (high x.pin), kv "change" (.optWord (x.change.map fun e => if e.1 then "HIGH" else "LOW")),
       kv "held" (.optNat (x.change.map (·.2)))]
    let site := u.site
    let ended (t : Txn) : List Pair :=
      [kv "tag" (tagVal t.tag), kv "status" (statusVal t.status), kv "addr" (.nat t.addr),
       kv "flags" (.words ((if t.start then ["START"] else []) ++ (if t.stop then ["STOP"] else [])
         ++ (if t.ackLast then ["ACKLAST"] else []) ++ (if t.cont then ["CONT"] else []))),
       kv "written" (.nat t.written), kv "read" (.nat t.data.length), kv "data" (.bytes t.data)]
    (inGroup u rq.port .view = true →
      answers (.alignRead rq) align []
      ∧ answers (.linkRead rq)
          [kv "state" (.word k.state.word), kv "confirmed" (.optFin k.confirmed), kv "pending" (.optFin k.pending),
           kv "guard" (.optFin k.guard), kv "base" (.nat k.base), kv "reserve" (.nat g.reserve),
           kv "init" (.onOff k.init.isSome), kv "fadeleft" (.optNat k.fadeTimer),
           kv "restoreleft" (.optNat k.restoreTimer), kv "upshiftleft" (.optNat k.upshiftTimer),
           kv "restoredue" (.mark k.restoreDue), kv "align" (.mark k.alignInd), kv "claim" (.optNat k.claim),
           kv "high" (.int g.high), kv "low" (.int g.low), kv "fade" (.nat g.fade), kv "restore" (.nat g.restore),
           kv "upshift" (.nat g.upshift), kv "autostart" (.onOff g.autostart)] []
      ∧ answers (.busRead rq) bus []
      ∧ answers (.timeRead rq)
          [kv "time" (.time { sec := c.sec, ns := c.ns }), kv "timebase" (.word (if c.oscBad then "RC" else "LO")),
           kv "oscbad" (.mark c.oscBad), kv "run" (.nat c.goodRun), kv "window" (.optNat c.lastWindow),
           kv "steer" (.optInt c.steer), kv "jump" (.optInt c.jump), kv "permitted" (.mark c.permitted),
           kv "hold" (.optNat c.startHold), kv "width" (.nat c.active.width),
           kv "polarity" (.word c.active.polarity.word), kv "squelch" (.word c.active.squelch.word),
           kv "lwidth" (.nat l.width), kv "lpolarity" (.word l.polarity.word), kv "lsquelch" (.word l.squelch.word),
           kv "squelched" (.onOff c.squelched), kv "pps" (.word (if c.ppsActive then "ACTIVE" else "IDLE"))] []
      ∧ answers (.timingRead rq)
          [kv "selected" (source τ.selected), kv "state" (.word τ.state.word), kv "everlocked" (.mark τ.everLocked),
           kv "lockrun" (.nat τ.lockRun), kv "unlockrun" (.nat τ.unlockRun), kv "entry" (.optNat τ.entryBound),
           kv "seconds" (.optNat τ.holdSecs),
           kv "bound" (match τ.bound with | none => .word "UNBOUNDED" | some n => .nat n),
           kv "grade" (.word τ.grade.word), kv "jumpreq" (.optInt (τ.jumpReq.map (·.amount))),
           kv "jumpsource" (source (τ.jumpReq.map (·.source))), kv "jump" (.nat timing.jump),
           kv "slew" (.nat timing.slew), kv "window" (.nat timing.window), kv "lockcount" (.nat timing.lockcount),
           kv "holdover" (.nat timing.holdover), kv "drift" (.nat timing.drift), kv "tdd" (.nat timing.tdd),
           kv "revertive" (.onOff timing.revertive)] []
      ∧ answers (.shareRead rq)
          ([kv "base" (.nat h.base), kv "reserve" (.nat h.reserve), kv "full" (.nat (h.base - h.reserve)),
            kv "pool" (.nat h.pool)] ++ borrow
           ++ [kv "total" (.nat ((h.tenants.get 0).granted + (h.tenants.get 1).granted + (h.tenants.get 2).granted
                 + (h.tenants.get 3).granted)),
               kv "grade" (.word h.grade.word), kv "jump" (.word (if h.jump then "PRESENT" else "NONE")),
               kv "jumphold" (.mark h.ack), kv "phase" (.word h.phase.word), kv "orders" (.nat h.orders),
               kv "lend" (.nat u.cfg.borrow), kv "restore" (.nat u.cfg.restoreHold)])
          (((List.finRange 4).filter fun k => (u.cfg.tenants.get k).defined).map total)
      ∧ answers (.acceptRead rq)
          (let a := u.tests.acceptance
           let met (n : TestKind) : Bool := match a.get n with | .pass _ => true | _ => false
           [kv "feeder" (entry a.feeder), kv "loop_near" (entry a.loopNear), kv "loop_far" (entry a.loopFar),
            kv "pulse" (entry a.pulse), kv "probe" (entry a.probe),
            kv "mask" (.words (u.cfg.acceptMask.map TestKind.word)), kv "met" (.onOff (u.cfg.acceptMask.all met))]) []
      ∧ answers (.inputRead rq) [] (pins.map input)
      ∧ answers (.siteRead rq)
          ([kv "phase" (.word site.phase.word), kv "forced" (.mark site.forced), kv "period" (.nat u.cfg.quiet),
            kv "count" (.nat (site.quietMs / 1000)), kv "half" (.mark site.halfSent),
            kv "expired" (.mark site.expired),
            kv "quiet" (.onOff (u.cfg.quiet != 0 && decide (u.cfg.quiet * 1000 ≤ site.quietMs))),
            kv "filter_reset_n" (.nat u.cfg.filters.resetN), kv "level_reset_n" (high site.inputs.resetN.filtered),
            kv "filter_mast_moving" (.nat u.cfg.filters.mastMoving),
            kv "level_mast_moving" (high site.inputs.mastMoving.filtered),
            kv "filter_odu_lock" (.nat u.cfg.filters.oduLock),
            kv "level_odu_lock" (high site.inputs.oduLock.filtered),
            kv "filter_svc_connect" (.nat u.cfg.filters.svcConnect),
            kv "level_svc_connect" (high site.inputs.svcConnect.filtered), kv "cause" (.word site.cause.word),
            kv "restart" (.optWord (site.restart.map fun r => Port.word r.port)), kv "blank" (.mark u.store.blank)]) []
      ∧ (∀ p : Fin 8, answers (.profileRead rq (some p.val)) (profile p) [])
      ∧ answers (.profileRead rq none) [] ((List.finRange 8).map profile)
      ∧ (∀ n, answers (.templateRead rq (some (.known n))) (template n) [])
      ∧ answers (.templateRead rq none) [] [template .profile, template .loopOn, template .loopOff]
      ∧ (∀ i : Fin 3, answers (.captureRead rq (some i.val)) (capture (sourceAt i) ++ aux) []
          ∧ answers (.sourceRead rq (some i.val)) (selector (sourceAt i)) [])
      ∧ answers (.captureRead rq none) aux [capture .gnss, capture .link, capture .aux]
      ∧ answers (.sourceRead rq none) [] [selector .gnss, selector .link, selector .aux]
      ∧ (∀ x : Fin 16, answers (.carrierRead rq (some x.val)) (carrier x) [])
      ∧ answers (.carrierRead rq none) [] ((List.finRange 16).map carrier)
      ∧ (∀ f, answers (.feederRead rq (some (.known f))) (feeder f) [])
      ∧ answers (.feederRead rq none) [] [feeder .f0, feeder .f1, feeder .f2, feeder .f3]
      ∧ answers (.testRead rq none) [kv "free" (.nat (8 - u.tests.queue.length))]
          (u.tests.current.toList.map (fun r => head r ++ current r) ++ u.tests.queue.map head)
      ∧ (∀ r, 1 ≤ r.number → r.number ≤ 999 → u.tests.current = some r →
          answers (.testRead rq (some r.number)) (head r ++ current r ++ params r ++ tester r) [])
      ∧ (∀ r, 1 ≤ r.number → r.number ≤ 999 → u.tests.current.map (·.number) ≠ some r.number →
          (u.tests.queue.find? fun x => x.number == r.number) = some r →
          answers (.testRead rq (some r.number)) (head r ++ params r) [])
      ∧ answers (.resultRead rq none) [kv "held" (.nat u.tests.log.length)]
          (u.tests.log.map fun r => head r ++ [kv "reason" (why r.reason)])
      ∧ (∀ r, (u.tests.log.find? fun x => x.number == r.number) = some r →
          answers (.resultRead rq (some r.number))
            (head r ++ [kv "reason" (why r.reason),
                kv "cleanup" (if r.loopOffFailed then .word "LOOPOFF_FAILED" else .absent),
                kv "start" (seconds r.start), kv "end" (seconds r.finish)]
              ++ params r ++ (results r).1) (results r).2))
    ∧ (inGroup u rq.port .bus = true →
        answers (.busResult rq none) [kv "held" (.nat (b.results.get rq.port).length)]
          ((b.results.get rq.port).map ended)
        ∧ ∀ n : Nat, n ≤ 9999 → answers (.busResult rq (some n)) []
            (((b.results.get rq.port).filter fun x => x.tag.any fun g => g.value == n).map ended))
    ∧ (inGroup u rq.port .carrier = true → (u.port rq.port).access = .site →
        (∀ t : Fin 4, answers (.tenantRead rq (some t.val)) (tenant t) [])
        ∧ answers (.tenantRead rq none) [] ((List.finRange 4).map tenant))
    ∧ (∀ t : Fin 4, inGroup u rq.port .carrier = true → (u.port rq.port).access = .tenant t →
        answers (.tenantRead rq (some t.val)) (tenant t) []
        ∧ exec (.tenantRead rq none) s = .next (answered u rq (.no .noLevel)))
end

