-- ==== Sys2Proof/Laws/State.lean ====
section
/-! SUPPORT. What each update of one block does to each field of State: the field it updates, and every other field
unchanged. -/

namespace Sys2Proof.Machine

section
variable (s : State) (f : Level → Level)

@[simp] theorem State.onLevel_run : (s.onLevel f).run = s.run := rfl
@[simp] theorem State.onLevel_cfg : (s.onLevel f).cfg = s.cfg := rfl
@[simp] theorem State.onLevel_level : (s.onLevel f).level = f s.level := rfl
@[simp] theorem State.onLevel_link : (s.onLevel f).link = s.link := rfl
@[simp] theorem State.onLevel_bus : (s.onLevel f).bus = s.bus := rfl
@[simp] theorem State.onLevel_clock : (s.onLevel f).clock = s.clock := rfl
@[simp] theorem State.onLevel_timing : (s.onLevel f).timing = s.timing := rfl
@[simp] theorem State.onLevel_share : (s.onLevel f).share = s.share := rfl
@[simp] theorem State.onLevel_tests : (s.onLevel f).tests = s.tests := rfl
@[simp] theorem State.onLevel_site : (s.onLevel f).site = s.site := rfl
@[simp] theorem State.onLevel_ports : (s.onLevel f).ports = s.ports := rfl
@[simp] theorem State.onLevel_store : (s.onLevel f).store = s.store := rfl
@[simp] theorem State.onLevel_counts : (s.onLevel f).counts = s.counts := rfl
@[simp] theorem State.onLevel_rc : (s.onLevel f).rc = s.rc := rfl
@[simp] theorem State.onLevel_free : (s.onLevel f).free = s.free := rfl
@[simp] theorem State.onLevel_signals : (s.onLevel f).signals = s.signals := rfl
@[simp] theorem State.onLevel_pending : (s.onLevel f).pending = s.pending := rfl

end

section
variable (s : State) (f : Link → Link)

@[simp] theorem State.onLink_run : (s.onLink f).run = s.run := rfl
@[simp] theorem State.onLink_cfg : (s.onLink f).cfg = s.cfg := rfl
@[simp] theorem State.onLink_level : (s.onLink f).level = s.level := rfl
@[simp] theorem State.onLink_link : (s.onLink f).link = f s.link := rfl
@[simp] theorem State.onLink_bus : (s.onLink f).bus = s.bus := rfl
@[simp] theorem State.onLink_clock : (s.onLink f).clock = s.clock := rfl
@[simp] theorem State.onLink_timing : (s.onLink f).timing = s.timing := rfl
@[simp] theorem State.onLink_share : (s.onLink f).share = s.share := rfl
@[simp] theorem State.onLink_tests : (s.onLink f).tests = s.tests := rfl
@[simp] theorem State.onLink_site : (s.onLink f).site = s.site := rfl
@[simp] theorem State.onLink_ports : (s.onLink f).ports = s.ports := rfl
@[simp] theorem State.onLink_store : (s.onLink f).store = s.store := rfl
@[simp] theorem State.onLink_counts : (s.onLink f).counts = s.counts := rfl
@[simp] theorem State.onLink_rc : (s.onLink f).rc = s.rc := rfl
@[simp] theorem State.onLink_free : (s.onLink f).free = s.free := rfl
@[simp] theorem State.onLink_signals : (s.onLink f).signals = s.signals := rfl
@[simp] theorem State.onLink_pending : (s.onLink f).pending = s.pending := rfl

end

section
variable (s : State) (f : Bus → Bus)

@[simp] theorem State.onBus_run : (s.onBus f).run = s.run := rfl
@[simp] theorem State.onBus_cfg : (s.onBus f).cfg = s.cfg := rfl
@[simp] theorem State.onBus_level : (s.onBus f).level = s.level := rfl
@[simp] theorem State.onBus_link : (s.onBus f).link = s.link := rfl
@[simp] theorem State.onBus_bus : (s.onBus f).bus = f s.bus := rfl
@[simp] theorem State.onBus_clock : (s.onBus f).clock = s.clock := rfl
@[simp] theorem State.onBus_timing : (s.onBus f).timing = s.timing := rfl
@[simp] theorem State.onBus_share : (s.onBus f).share = s.share := rfl
@[simp] theorem State.onBus_tests : (s.onBus f).tests = s.tests := rfl
@[simp] theorem State.onBus_site : (s.onBus f).site = s.site := rfl
@[simp] theorem State.onBus_ports : (s.onBus f).ports = s.ports := rfl
@[simp] theorem State.onBus_store : (s.onBus f).store = s.store := rfl
@[simp] theorem State.onBus_counts : (s.onBus f).counts = s.counts := rfl
@[simp] theorem State.onBus_rc : (s.onBus f).rc = s.rc := rfl
@[simp] theorem State.onBus_free : (s.onBus f).free = s.free := rfl
@[simp] theorem State.onBus_signals : (s.onBus f).signals = s.signals := rfl
@[simp] theorem State.onBus_pending : (s.onBus f).pending = s.pending := rfl

end

section
variable (s : State) (f : Clock → Clock)

@[simp] theorem State.onClock_run : (s.onClock f).run = s.run := rfl
@[simp] theorem State.onClock_cfg : (s.onClock f).cfg = s.cfg := rfl
@[simp] theorem State.onClock_level : (s.onClock f).level = s.level := rfl
@[simp] theorem State.onClock_link : (s.onClock f).link = s.link := rfl
@[simp] theorem State.onClock_bus : (s.onClock f).bus = s.bus := rfl
@[simp] theorem State.onClock_clock : (s.onClock f).clock = f s.clock := rfl
@[simp] theorem State.onClock_timing : (s.onClock f).timing = s.timing := rfl
@[simp] theorem State.onClock_share : (s.onClock f).share = s.share := rfl
@[simp] theorem State.onClock_tests : (s.onClock f).tests = s.tests := rfl
@[simp] theorem State.onClock_site : (s.onClock f).site = s.site := rfl
@[simp] theorem State.onClock_ports : (s.onClock f).ports = s.ports := rfl
@[simp] theorem State.onClock_store : (s.onClock f).store = s.store := rfl
@[simp] theorem State.onClock_counts : (s.onClock f).counts = s.counts := rfl
@[simp] theorem State.onClock_rc : (s.onClock f).rc = s.rc := rfl
@[simp] theorem State.onClock_free : (s.onClock f).free = s.free := rfl
@[simp] theorem State.onClock_signals : (s.onClock f).signals = s.signals := rfl
@[simp] theorem State.onClock_pending : (s.onClock f).pending = s.pending := rfl

end

section
variable (s : State) (f : Timing → Timing)

@[simp] theorem State.onTiming_run : (s.onTiming f).run = s.run := rfl
@[simp] theorem State.onTiming_cfg : (s.onTiming f).cfg = s.cfg := rfl
@[simp] theorem State.onTiming_level : (s.onTiming f).level = s.level := rfl
@[simp] theorem State.onTiming_link : (s.onTiming f).link = s.link := rfl
@[simp] theorem State.onTiming_bus : (s.onTiming f).bus = s.bus := rfl
@[simp] theorem State.onTiming_clock : (s.onTiming f).clock = s.clock := rfl
@[simp] theorem State.onTiming_timing : (s.onTiming f).timing = f s.timing := rfl
@[simp] theorem State.onTiming_share : (s.onTiming f).share = s.share := rfl
@[simp] theorem State.onTiming_tests : (s.onTiming f).tests = s.tests := rfl
@[simp] theorem State.onTiming_site : (s.onTiming f).site = s.site := rfl
@[simp] theorem State.onTiming_ports : (s.onTiming f).ports = s.ports := rfl
@[simp] theorem State.onTiming_store : (s.onTiming f).store = s.store := rfl
@[simp] theorem State.onTiming_counts : (s.onTiming f).counts = s.counts := rfl
@[simp] theorem State.onTiming_rc : (s.onTiming f).rc = s.rc := rfl
@[simp] theorem State.onTiming_free : (s.onTiming f).free = s.free := rfl
@[simp] theorem State.onTiming_signals : (s.onTiming f).signals = s.signals := rfl
@[simp] theorem State.onTiming_pending : (s.onTiming f).pending = s.pending := rfl

end

section
variable (s : State) (f : Tests → Tests)

@[simp] theorem State.onTests_run : (s.onTests f).run = s.run := rfl
@[simp] theorem State.onTests_cfg : (s.onTests f).cfg = s.cfg := rfl
@[simp] theorem State.onTests_level : (s.onTests f).level = s.level := rfl
@[simp] theorem State.onTests_link : (s.onTests f).link = s.link := rfl
@[simp] theorem State.onTests_bus : (s.onTests f).bus = s.bus := rfl
@[simp] theorem State.onTests_clock : (s.onTests f).clock = s.clock := rfl
@[simp] theorem State.onTests_timing : (s.onTests f).timing = s.timing := rfl
@[simp] theorem State.onTests_share : (s.onTests f).share = s.share := rfl
@[simp] theorem State.onTests_tests : (s.onTests f).tests = f s.tests := rfl
@[simp] theorem State.onTests_site : (s.onTests f).site = s.site := rfl
@[simp] theorem State.onTests_ports : (s.onTests f).ports = s.ports := rfl
@[simp] theorem State.onTests_store : (s.onTests f).store = s.store := rfl
@[simp] theorem State.onTests_counts : (s.onTests f).counts = s.counts := rfl
@[simp] theorem State.onTests_rc : (s.onTests f).rc = s.rc := rfl
@[simp] theorem State.onTests_free : (s.onTests f).free = s.free := rfl
@[simp] theorem State.onTests_signals : (s.onTests f).signals = s.signals := rfl
@[simp] theorem State.onTests_pending : (s.onTests f).pending = s.pending := rfl

end

section
variable (s : State) (f : Site → Site)

@[simp] theorem State.onSite_run : (s.onSite f).run = s.run := rfl
@[simp] theorem State.onSite_cfg : (s.onSite f).cfg = s.cfg := rfl
@[simp] theorem State.onSite_level : (s.onSite f).level = s.level := rfl
@[simp] theorem State.onSite_link : (s.onSite f).link = s.link := rfl
@[simp] theorem State.onSite_bus : (s.onSite f).bus = s.bus := rfl
@[simp] theorem State.onSite_clock : (s.onSite f).clock = s.clock := rfl
@[simp] theorem State.onSite_timing : (s.onSite f).timing = s.timing := rfl
@[simp] theorem State.onSite_share : (s.onSite f).share = s.share := rfl
@[simp] theorem State.onSite_tests : (s.onSite f).tests = s.tests := rfl
@[simp] theorem State.onSite_site : (s.onSite f).site = f s.site := rfl
@[simp] theorem State.onSite_ports : (s.onSite f).ports = s.ports := rfl
@[simp] theorem State.onSite_store : (s.onSite f).store = s.store := rfl
@[simp] theorem State.onSite_counts : (s.onSite f).counts = s.counts := rfl
@[simp] theorem State.onSite_rc : (s.onSite f).rc = s.rc := rfl
@[simp] theorem State.onSite_free : (s.onSite f).free = s.free := rfl
@[simp] theorem State.onSite_signals : (s.onSite f).signals = s.signals := rfl
@[simp] theorem State.onSite_pending : (s.onSite f).pending = s.pending := rfl

end

section
variable (s : State) (f : Store → Store)

@[simp] theorem State.onStore_run : (s.onStore f).run = s.run := rfl
@[simp] theorem State.onStore_cfg : (s.onStore f).cfg = s.cfg := rfl
@[simp] theorem State.onStore_level : (s.onStore f).level = s.level := rfl
@[simp] theorem State.onStore_link : (s.onStore f).link = s.link := rfl
@[simp] theorem State.onStore_bus : (s.onStore f).bus = s.bus := rfl
@[simp] theorem State.onStore_clock : (s.onStore f).clock = s.clock := rfl
@[simp] theorem State.onStore_timing : (s.onStore f).timing = s.timing := rfl
@[simp] theorem State.onStore_share : (s.onStore f).share = s.share := rfl
@[simp] theorem State.onStore_tests : (s.onStore f).tests = s.tests := rfl
@[simp] theorem State.onStore_site : (s.onStore f).site = s.site := rfl
@[simp] theorem State.onStore_ports : (s.onStore f).ports = s.ports := rfl
@[simp] theorem State.onStore_store : (s.onStore f).store = f s.store := rfl
@[simp] theorem State.onStore_counts : (s.onStore f).counts = s.counts := rfl
@[simp] theorem State.onStore_rc : (s.onStore f).rc = s.rc := rfl
@[simp] theorem State.onStore_free : (s.onStore f).free = s.free := rfl
@[simp] theorem State.onStore_signals : (s.onStore f).signals = s.signals := rfl
@[simp] theorem State.onStore_pending : (s.onStore f).pending = s.pending := rfl

end

section
variable (s : State) (f : Settings → Settings)

@[simp] theorem State.settings_run : (s.settings f).run = s.run := rfl
@[simp] theorem State.settings_cfg : (s.settings f).cfg = f s.cfg := rfl
@[simp] theorem State.settings_level : (s.settings f).level = s.level := rfl
@[simp] theorem State.settings_link : (s.settings f).link = s.link := rfl
@[simp] theorem State.settings_bus : (s.settings f).bus = s.bus := rfl
@[simp] theorem State.settings_clock : (s.settings f).clock = s.clock := rfl
@[simp] theorem State.settings_timing : (s.settings f).timing = s.timing := rfl
@[simp] theorem State.settings_share : (s.settings f).share = s.share := rfl
@[simp] theorem State.settings_tests : (s.settings f).tests = s.tests := rfl
@[simp] theorem State.settings_site : (s.settings f).site = s.site := rfl
@[simp] theorem State.settings_ports : (s.settings f).ports = s.ports := rfl
@[simp] theorem State.settings_store : (s.settings f).store = s.store := rfl
@[simp] theorem State.settings_counts : (s.settings f).counts = s.counts := rfl
@[simp] theorem State.settings_rc : (s.settings f).rc = s.rc := rfl
@[simp] theorem State.settings_free : (s.settings f).free = s.free := rfl
@[simp] theorem State.settings_signals : (s.settings f).signals = s.signals := rfl
@[simp] theorem State.settings_pending : (s.settings f).pending = s.pending := rfl

end

section
variable (s : State) (f : Counters → Counters)

@[simp] theorem State.counting_run : (s.counting f).run = s.run := rfl
@[simp] theorem State.counting_cfg : (s.counting f).cfg = s.cfg := rfl
@[simp] theorem State.counting_level : (s.counting f).level = s.level := rfl
@[simp] theorem State.counting_link : (s.counting f).link = s.link := rfl
@[simp] theorem State.counting_bus : (s.counting f).bus = s.bus := rfl
@[simp] theorem State.counting_clock : (s.counting f).clock = s.clock := rfl
@[simp] theorem State.counting_timing : (s.counting f).timing = s.timing := rfl
@[simp] theorem State.counting_share : (s.counting f).share = s.share := rfl
@[simp] theorem State.counting_tests : (s.counting f).tests = s.tests := rfl
@[simp] theorem State.counting_site : (s.counting f).site = s.site := rfl
@[simp] theorem State.counting_ports : (s.counting f).ports = s.ports := rfl
@[simp] theorem State.counting_store : (s.counting f).store = s.store := rfl
@[simp] theorem State.counting_counts : (s.counting f).counts = f s.counts := rfl
@[simp] theorem State.counting_rc : (s.counting f).rc = s.rc := rfl
@[simp] theorem State.counting_free : (s.counting f).free = s.free := rfl
@[simp] theorem State.counting_signals : (s.counting f).signals = s.signals := rfl
@[simp] theorem State.counting_pending : (s.counting f).pending = s.pending := rfl

end

section
variable (s : State) (g : Signal)

@[simp] theorem State.push_run : (s.push g).run = s.run := rfl
@[simp] theorem State.push_cfg : (s.push g).cfg = s.cfg := rfl
@[simp] theorem State.push_level : (s.push g).level = s.level := rfl
@[simp] theorem State.push_link : (s.push g).link = s.link := rfl
@[simp] theorem State.push_bus : (s.push g).bus = s.bus := rfl
@[simp] theorem State.push_clock : (s.push g).clock = s.clock := rfl
@[simp] theorem State.push_timing : (s.push g).timing = s.timing := rfl
@[simp] theorem State.push_share : (s.push g).share = s.share := rfl
@[simp] theorem State.push_tests : (s.push g).tests = s.tests := rfl
@[simp] theorem State.push_site : (s.push g).site = s.site := rfl
@[simp] theorem State.push_ports : (s.push g).ports = s.ports := rfl
@[simp] theorem State.push_store : (s.push g).store = s.store := rfl
@[simp] theorem State.push_counts : (s.push g).counts = s.counts := rfl
@[simp] theorem State.push_rc : (s.push g).rc = s.rc := rfl
@[simp] theorem State.push_free : (s.push g).free = s.free := rfl
@[simp] theorem State.push_signals : (s.push g).signals = s.signals ++ [g] := rfl
@[simp] theorem State.push_pending : (s.push g).pending = s.pending := rfl

end

section
variable (s : State) (f : RcClock → RcClock)

@[simp] theorem State.onRc_run : (s.onRc f).run = s.run := rfl
@[simp] theorem State.onRc_cfg : (s.onRc f).cfg = s.cfg := rfl
@[simp] theorem State.onRc_level : (s.onRc f).level = s.level := rfl
@[simp] theorem State.onRc_link : (s.onRc f).link = s.link := rfl
@[simp] theorem State.onRc_bus : (s.onRc f).bus = s.bus := rfl
@[simp] theorem State.onRc_clock : (s.onRc f).clock = s.clock := rfl
@[simp] theorem State.onRc_timing : (s.onRc f).timing = s.timing := rfl
@[simp] theorem State.onRc_share : (s.onRc f).share = s.share := rfl
@[simp] theorem State.onRc_tests : (s.onRc f).tests = s.tests := rfl
@[simp] theorem State.onRc_site : (s.onRc f).site = s.site := rfl
@[simp] theorem State.onRc_ports : (s.onRc f).ports = s.ports := rfl
@[simp] theorem State.onRc_store : (s.onRc f).store = s.store := rfl
@[simp] theorem State.onRc_counts : (s.onRc f).counts = s.counts := rfl
@[simp] theorem State.onRc_rc : (s.onRc f).rc = f s.rc := rfl
@[simp] theorem State.onRc_free : (s.onRc f).free = s.free := rfl
@[simp] theorem State.onRc_signals : (s.onRc f).signals = s.signals := rfl
@[simp] theorem State.onRc_pending : (s.onRc f).pending = s.pending := rfl

end

section
variable (s : State) (p : Port) (x : PortState)

@[simp] theorem State.setPort_run : (s.setPort p x).run = s.run := rfl
@[simp] theorem State.setPort_cfg : (s.setPort p x).cfg = s.cfg := rfl
@[simp] theorem State.setPort_level : (s.setPort p x).level = s.level := rfl
@[simp] theorem State.setPort_link : (s.setPort p x).link = s.link := rfl
@[simp] theorem State.setPort_bus : (s.setPort p x).bus = s.bus := rfl
@[simp] theorem State.setPort_clock : (s.setPort p x).clock = s.clock := rfl
@[simp] theorem State.setPort_timing : (s.setPort p x).timing = s.timing := rfl
@[simp] theorem State.setPort_share : (s.setPort p x).share = s.share := rfl
@[simp] theorem State.setPort_tests : (s.setPort p x).tests = s.tests := rfl
@[simp] theorem State.setPort_site : (s.setPort p x).site = s.site := rfl
@[simp] theorem State.setPort_ports : (s.setPort p x).ports = s.ports.put p x := rfl
@[simp] theorem State.setPort_store : (s.setPort p x).store = s.store := rfl
@[simp] theorem State.setPort_counts : (s.setPort p x).counts = s.counts := rfl
@[simp] theorem State.setPort_rc : (s.setPort p x).rc = s.rc := rfl
@[simp] theorem State.setPort_free : (s.setPort p x).free = s.free := rfl
@[simp] theorem State.setPort_signals : (s.setPort p x).signals = s.signals := rfl
@[simp] theorem State.setPort_pending : (s.setPort p x).pending = s.pending := rfl

end

section
variable (s : State) (p : Port) (f : PortState → PortState)

@[simp] theorem State.onPort_run : (s.onPort p f).run = s.run := rfl
@[simp] theorem State.onPort_cfg : (s.onPort p f).cfg = s.cfg := rfl
@[simp] theorem State.onPort_level : (s.onPort p f).level = s.level := rfl
@[simp] theorem State.onPort_link : (s.onPort p f).link = s.link := rfl
@[simp] theorem State.onPort_bus : (s.onPort p f).bus = s.bus := rfl
@[simp] theorem State.onPort_clock : (s.onPort p f).clock = s.clock := rfl
@[simp] theorem State.onPort_timing : (s.onPort p f).timing = s.timing := rfl
@[simp] theorem State.onPort_share : (s.onPort p f).share = s.share := rfl
@[simp] theorem State.onPort_tests : (s.onPort p f).tests = s.tests := rfl
@[simp] theorem State.onPort_site : (s.onPort p f).site = s.site := rfl
@[simp] theorem State.onPort_ports : (s.onPort p f).ports = s.ports.put p (f (s.ports.get p)) := rfl
@[simp] theorem State.onPort_store : (s.onPort p f).store = s.store := rfl
@[simp] theorem State.onPort_counts : (s.onPort p f).counts = s.counts := rfl
@[simp] theorem State.onPort_rc : (s.onPort p f).rc = s.rc := rfl
@[simp] theorem State.onPort_free : (s.onPort p f).free = s.free := rfl
@[simp] theorem State.onPort_signals : (s.onPort p f).signals = s.signals := rfl
@[simp] theorem State.onPort_pending : (s.onPort p f).pending = s.pending := rfl

end

section
variable (s : State) (i : InputPin) (x : Input)

@[simp] theorem State.setInput_run : (s.setInput i x).run = s.run := rfl
@[simp] theorem State.setInput_cfg : (s.setInput i x).cfg = s.cfg := rfl
@[simp] theorem State.setInput_level : (s.setInput i x).level = s.level := rfl
@[simp] theorem State.setInput_link : (s.setInput i x).link = s.link := rfl
@[simp] theorem State.setInput_bus : (s.setInput i x).bus = s.bus := rfl
@[simp] theorem State.setInput_clock : (s.setInput i x).clock = s.clock := rfl
@[simp] theorem State.setInput_timing : (s.setInput i x).timing = s.timing := rfl
@[simp] theorem State.setInput_share : (s.setInput i x).share = s.share := rfl
@[simp] theorem State.setInput_tests : (s.setInput i x).tests = s.tests := rfl
@[simp] theorem State.setInput_site : (s.setInput i x).site = { s.site with inputs := s.site.inputs.put i x } := rfl
@[simp] theorem State.setInput_ports : (s.setInput i x).ports = s.ports := rfl
@[simp] theorem State.setInput_store : (s.setInput i x).store = s.store := rfl
@[simp] theorem State.setInput_counts : (s.setInput i x).counts = s.counts := rfl
@[simp] theorem State.setInput_rc : (s.setInput i x).rc = s.rc := rfl
@[simp] theorem State.setInput_free : (s.setInput i x).free = s.free := rfl
@[simp] theorem State.setInput_signals : (s.setInput i x).signals = s.signals := rfl
@[simp] theorem State.setInput_pending : (s.setInput i x).pending = s.pending := rfl

end

@[simp] theorem State.onPort_port_same (s : State) (p : Port) (f : PortState → PortState) :
    (s.onPort p f).port p = f (s.port p) := PerPort.get_put_same _ _ _

@[simp] theorem State.onPort_port_other (s : State) {p q : Port} (f : PortState → PortState) (h : q ≠ p) :
    (s.onPort p f).port q = s.port q := PerPort.get_put_other _ _ h

end Sys2Proof.Machine
end

