-- ==== Sys2Proof/Laws/Ops.lean ====
section
/-! SUPPORT. What the shared operations of notices, replies and summaries can change: the ports, and the counts of
dropped notices. Every other field of State is left as it was. -/

namespace Sys2Proof.Machine

/-- `t` differs from `s` in its ports and its notice-drop counts alone. -/
def PortsOnly (s t : State) : Prop :=
  t = { s with ports := t.ports, counts := { s.counts with noticeDrops := t.counts.noticeDrops } }

theorem PortsOnly.refl (s : State) : PortsOnly s s := rfl

theorem PortsOnly.trans {s t u : State} (h : PortsOnly s t) (k : PortsOnly t u) : PortsOnly s u := by
  unfold PortsOnly at *
  rw [k, h]

theorem PortsOnly.run {s t : State} (h : PortsOnly s t) : t.run = s.run := by rw [h]
theorem PortsOnly.cfg {s t : State} (h : PortsOnly s t) : t.cfg = s.cfg := by rw [h]
theorem PortsOnly.level {s t : State} (h : PortsOnly s t) : t.level = s.level := by rw [h]
theorem PortsOnly.link {s t : State} (h : PortsOnly s t) : t.link = s.link := by rw [h]
theorem PortsOnly.bus {s t : State} (h : PortsOnly s t) : t.bus = s.bus := by rw [h]
theorem PortsOnly.clock {s t : State} (h : PortsOnly s t) : t.clock = s.clock := by rw [h]
theorem PortsOnly.timing {s t : State} (h : PortsOnly s t) : t.timing = s.timing := by rw [h]
theorem PortsOnly.share {s t : State} (h : PortsOnly s t) : t.share = s.share := by rw [h]
theorem PortsOnly.tests {s t : State} (h : PortsOnly s t) : t.tests = s.tests := by rw [h]
theorem PortsOnly.site {s t : State} (h : PortsOnly s t) : t.site = s.site := by rw [h]
theorem PortsOnly.store {s t : State} (h : PortsOnly s t) : t.store = s.store := by rw [h]
theorem PortsOnly.rc {s t : State} (h : PortsOnly s t) : t.rc = s.rc := by rw [h]
theorem PortsOnly.free {s t : State} (h : PortsOnly s t) : t.free = s.free := by rw [h]
theorem PortsOnly.signals {s t : State} (h : PortsOnly s t) : t.signals = s.signals := by rw [h]
theorem PortsOnly.pending {s t : State} (h : PortsOnly s t) : t.pending = s.pending := by rw [h]
theorem PortsOnly.counts {s t : State} (h : PortsOnly s t) :
    t.counts = { s.counts with noticeDrops := t.counts.noticeDrops } := by
  conv_lhs => rw [h]

theorem PortsOnly.onPort (s : State) (p : Port) (f : PortState → PortState) : PortsOnly s (s.onPort p f) := rfl

theorem PortsOnly.foldl {α : Type} (f : State → α → State) (h : ∀ s a, PortsOnly s (f s a)) :
    ∀ (l : List α) (s : State), PortsOnly s (l.foldl f s)
  | [], s => .refl s
  | a :: l, s => (h s a).trans (PortsOnly.foldl f h l (f s a))

theorem offerReply_portsOnly (s : State) (p : Port) (lead : Lead) (r : Reply) : PortsOnly s (offerReply s p lead r) :=
  .onPort _ _ _

theorem restartSummaryTimers_portsOnly (s : State) (p : Port) : PortsOnly s (restartSummaryTimers s p) := .onPort _ _ _

theorem countNoticeDrop_portsOnly (s : State) (p : Port) : PortsOnly s (countNoticeDrop s p) := rfl

theorem sendSummary_portsOnly (s : State) (p : Port) : PortsOnly s (sendSummary s p) := by
  unfold sendSummary
  dsimp only
  split
  · exact (PortsOnly.onPort _ _ _).trans (restartSummaryTimers_portsOnly _ _)
  · exact ((countNoticeDrop_portsOnly _ _).trans (restartSummaryTimers_portsOnly _ _)).trans (.onPort _ _ _)

theorem summaryChange_portsOnly (s : State) (p : Port) : PortsOnly s (summaryChange s p) := by
  unfold summaryChange
  split
  · split
    · exact sendSummary_portsOnly _ _
    · exact .onPort _ _ _
  · exact .refl _

theorem setFlag_portsOnly (s : State) (p : Port) (e : EventFlag) : PortsOnly s (setFlag s p e) := by
  unfold setFlag
  split
  · exact .refl _
  · exact (PortsOnly.onPort _ _ _).trans (summaryChange_portsOnly _ _)

theorem setFlagBoth_portsOnly (s : State) (e : EventFlag) : PortsOnly s (setFlagBoth s e) :=
  (setFlag_portsOnly _ _ _).trans (setFlag_portsOnly _ _ _)

theorem syncKey_portsOnly (s : State) (p : Port) (cur : SumVals) (k : SumKey) : PortsOnly s (syncKey s p cur k) := by
  unfold syncKey
  split
  · exact .refl _
  · exact (PortsOnly.onPort _ _ _).trans (summaryChange_portsOnly _ _)

theorem syncSummary_portsOnly (own : List SumKey) (s : State) : PortsOnly s (syncSummary own s) :=
  PortsOnly.foldl _ (fun _ _ => (syncKey_portsOnly _ _ _ _).trans (syncKey_portsOnly _ _ _ _)) _ _

theorem notice_portsOnly (s : State) (p : Port) (w : List String) (l : List Pair) : PortsOnly s (notice s p w l) := by
  unfold notice
  dsimp only
  split
  · exact .onPort _ _ _
  · exact (countNoticeDrop_portsOnly _ _).trans (setFlag_portsOnly _ _ _)

theorem noticeMasked_portsOnly (s : State) (p : Port) (c : NoticeClass) (w : List String) (l : List Pair) :
    PortsOnly s (noticeMasked s p c w l) := by
  unfold noticeMasked
  split
  · exact notice_portsOnly _ _ _ _
  · exact .refl _

theorem noticeBoth_portsOnly (s : State) (c : NoticeClass) (w : List String) (l : List Pair) :
    PortsOnly s (noticeBoth s c w l) :=
  (noticeMasked_portsOnly _ _ _ _ _).trans (noticeMasked_portsOnly _ _ _ _ _)

theorem noticeOwner_portsOnly (s : State) (p : Port) (c : NoticeClass) (w : List String) (l : List Pair) :
    PortsOnly s (noticeOwner s p c w l) := by
  cases p
  · exact (notice_portsOnly _ _ _ _).trans (noticeMasked_portsOnly _ _ _ _ _)
  · exact (noticeMasked_portsOnly _ _ _ _ _).trans (notice_portsOnly _ _ _ _)

section
variable (s : State) (p : Port) (lead : Lead) (r : Reply)

@[simp] theorem offerReply_run : (offerReply s p lead r).run = s.run := (offerReply_portsOnly _ _ _ _).run
@[simp] theorem offerReply_cfg : (offerReply s p lead r).cfg = s.cfg := (offerReply_portsOnly _ _ _ _).cfg
@[simp] theorem offerReply_level : (offerReply s p lead r).level = s.level := (offerReply_portsOnly _ _ _ _).level
@[simp] theorem offerReply_link : (offerReply s p lead r).link = s.link := (offerReply_portsOnly _ _ _ _).link
@[simp] theorem offerReply_bus : (offerReply s p lead r).bus = s.bus := (offerReply_portsOnly _ _ _ _).bus
@[simp] theorem offerReply_clock : (offerReply s p lead r).clock = s.clock := (offerReply_portsOnly _ _ _ _).clock
@[simp] theorem offerReply_timing : (offerReply s p lead r).timing = s.timing := (offerReply_portsOnly _ _ _ _).timing
@[simp] theorem offerReply_share : (offerReply s p lead r).share = s.share := (offerReply_portsOnly _ _ _ _).share
@[simp] theorem offerReply_tests : (offerReply s p lead r).tests = s.tests := (offerReply_portsOnly _ _ _ _).tests
@[simp] theorem offerReply_site : (offerReply s p lead r).site = s.site := (offerReply_portsOnly _ _ _ _).site
@[simp] theorem offerReply_store : (offerReply s p lead r).store = s.store := (offerReply_portsOnly _ _ _ _).store
@[simp] theorem offerReply_rc : (offerReply s p lead r).rc = s.rc := (offerReply_portsOnly _ _ _ _).rc
@[simp] theorem offerReply_free : (offerReply s p lead r).free = s.free := (offerReply_portsOnly _ _ _ _).free
@[simp] theorem offerReply_signals : (offerReply s p lead r).signals = s.signals := (offerReply_portsOnly _ _ _ _).signals
@[simp] theorem offerReply_pending : (offerReply s p lead r).pending = s.pending := (offerReply_portsOnly _ _ _ _).pending

end

section
variable (s : State) (p : Port)

@[simp] theorem restartSummaryTimers_run : (restartSummaryTimers s p).run = s.run := (restartSummaryTimers_portsOnly _ _).run
@[simp] theorem restartSummaryTimers_cfg : (restartSummaryTimers s p).cfg = s.cfg := (restartSummaryTimers_portsOnly _ _).cfg
@[simp] theorem restartSummaryTimers_level : (restartSummaryTimers s p).level = s.level := (restartSummaryTimers_portsOnly _ _).level
@[simp] theorem restartSummaryTimers_link : (restartSummaryTimers s p).link = s.link := (restartSummaryTimers_portsOnly _ _).link
@[simp] theorem restartSummaryTimers_bus : (restartSummaryTimers s p).bus = s.bus := (restartSummaryTimers_portsOnly _ _).bus
@[simp] theorem restartSummaryTimers_clock : (restartSummaryTimers s p).clock = s.clock := (restartSummaryTimers_portsOnly _ _).clock
@[simp] theorem restartSummaryTimers_timing : (restartSummaryTimers s p).timing = s.timing := (restartSummaryTimers_portsOnly _ _).timing
@[simp] theorem restartSummaryTimers_share : (restartSummaryTimers s p).share = s.share := (restartSummaryTimers_portsOnly _ _).share
@[simp] theorem restartSummaryTimers_tests : (restartSummaryTimers s p).tests = s.tests := (restartSummaryTimers_portsOnly _ _).tests
@[simp] theorem restartSummaryTimers_site : (restartSummaryTimers s p).site = s.site := (restartSummaryTimers_portsOnly _ _).site
@[simp] theorem restartSummaryTimers_store : (restartSummaryTimers s p).store = s.store := (restartSummaryTimers_portsOnly _ _).store
@[simp] theorem restartSummaryTimers_rc : (restartSummaryTimers s p).rc = s.rc := (restartSummaryTimers_portsOnly _ _).rc
@[simp] theorem restartSummaryTimers_free : (restartSummaryTimers s p).free = s.free := (restartSummaryTimers_portsOnly _ _).free
@[simp] theorem restartSummaryTimers_signals : (restartSummaryTimers s p).signals = s.signals := (restartSummaryTimers_portsOnly _ _).signals
@[simp] theorem restartSummaryTimers_pending : (restartSummaryTimers s p).pending = s.pending := (restartSummaryTimers_portsOnly _ _).pending

end

section
variable (s : State) (p : Port)

@[simp] theorem countNoticeDrop_run : (countNoticeDrop s p).run = s.run := (countNoticeDrop_portsOnly _ _).run
@[simp] theorem countNoticeDrop_cfg : (countNoticeDrop s p).cfg = s.cfg := (countNoticeDrop_portsOnly _ _).cfg
@[simp] theorem countNoticeDrop_level : (countNoticeDrop s p).level = s.level := (countNoticeDrop_portsOnly _ _).level
@[simp] theorem countNoticeDrop_link : (countNoticeDrop s p).link = s.link := (countNoticeDrop_portsOnly _ _).link
@[simp] theorem countNoticeDrop_bus : (countNoticeDrop s p).bus = s.bus := (countNoticeDrop_portsOnly _ _).bus
@[simp] theorem countNoticeDrop_clock : (countNoticeDrop s p).clock = s.clock := (countNoticeDrop_portsOnly _ _).clock
@[simp] theorem countNoticeDrop_timing : (countNoticeDrop s p).timing = s.timing := (countNoticeDrop_portsOnly _ _).timing
@[simp] theorem countNoticeDrop_share : (countNoticeDrop s p).share = s.share := (countNoticeDrop_portsOnly _ _).share
@[simp] theorem countNoticeDrop_tests : (countNoticeDrop s p).tests = s.tests := (countNoticeDrop_portsOnly _ _).tests
@[simp] theorem countNoticeDrop_site : (countNoticeDrop s p).site = s.site := (countNoticeDrop_portsOnly _ _).site
@[simp] theorem countNoticeDrop_store : (countNoticeDrop s p).store = s.store := (countNoticeDrop_portsOnly _ _).store
@[simp] theorem countNoticeDrop_rc : (countNoticeDrop s p).rc = s.rc := (countNoticeDrop_portsOnly _ _).rc
@[simp] theorem countNoticeDrop_free : (countNoticeDrop s p).free = s.free := (countNoticeDrop_portsOnly _ _).free
@[simp] theorem countNoticeDrop_signals : (countNoticeDrop s p).signals = s.signals := (countNoticeDrop_portsOnly _ _).signals
@[simp] theorem countNoticeDrop_pending : (countNoticeDrop s p).pending = s.pending := (countNoticeDrop_portsOnly _ _).pending

end

section
variable (s : State) (p : Port)

@[simp] theorem sendSummary_run : (sendSummary s p).run = s.run := (sendSummary_portsOnly _ _).run
@[simp] theorem sendSummary_cfg : (sendSummary s p).cfg = s.cfg := (sendSummary_portsOnly _ _).cfg
@[simp] theorem sendSummary_level : (sendSummary s p).level = s.level := (sendSummary_portsOnly _ _).level
@[simp] theorem sendSummary_link : (sendSummary s p).link = s.link := (sendSummary_portsOnly _ _).link
@[simp] theorem sendSummary_bus : (sendSummary s p).bus = s.bus := (sendSummary_portsOnly _ _).bus
@[simp] theorem sendSummary_clock : (sendSummary s p).clock = s.clock := (sendSummary_portsOnly _ _).clock
@[simp] theorem sendSummary_timing : (sendSummary s p).timing = s.timing := (sendSummary_portsOnly _ _).timing
@[simp] theorem sendSummary_share : (sendSummary s p).share = s.share := (sendSummary_portsOnly _ _).share
@[simp] theorem sendSummary_tests : (sendSummary s p).tests = s.tests := (sendSummary_portsOnly _ _).tests
@[simp] theorem sendSummary_site : (sendSummary s p).site = s.site := (sendSummary_portsOnly _ _).site
@[simp] theorem sendSummary_store : (sendSummary s p).store = s.store := (sendSummary_portsOnly _ _).store
@[simp] theorem sendSummary_rc : (sendSummary s p).rc = s.rc := (sendSummary_portsOnly _ _).rc
@[simp] theorem sendSummary_free : (sendSummary s p).free = s.free := (sendSummary_portsOnly _ _).free
@[simp] theorem sendSummary_signals : (sendSummary s p).signals = s.signals := (sendSummary_portsOnly _ _).signals
@[simp] theorem sendSummary_pending : (sendSummary s p).pending = s.pending := (sendSummary_portsOnly _ _).pending

end

section
variable (s : State) (p : Port)

@[simp] theorem summaryChange_run : (summaryChange s p).run = s.run := (summaryChange_portsOnly _ _).run
@[simp] theorem summaryChange_cfg : (summaryChange s p).cfg = s.cfg := (summaryChange_portsOnly _ _).cfg
@[simp] theorem summaryChange_level : (summaryChange s p).level = s.level := (summaryChange_portsOnly _ _).level
@[simp] theorem summaryChange_link : (summaryChange s p).link = s.link := (summaryChange_portsOnly _ _).link
@[simp] theorem summaryChange_bus : (summaryChange s p).bus = s.bus := (summaryChange_portsOnly _ _).bus
@[simp] theorem summaryChange_clock : (summaryChange s p).clock = s.clock := (summaryChange_portsOnly _ _).clock
@[simp] theorem summaryChange_timing : (summaryChange s p).timing = s.timing := (summaryChange_portsOnly _ _).timing
@[simp] theorem summaryChange_share : (summaryChange s p).share = s.share := (summaryChange_portsOnly _ _).share
@[simp] theorem summaryChange_tests : (summaryChange s p).tests = s.tests := (summaryChange_portsOnly _ _).tests
@[simp] theorem summaryChange_site : (summaryChange s p).site = s.site := (summaryChange_portsOnly _ _).site
@[simp] theorem summaryChange_store : (summaryChange s p).store = s.store := (summaryChange_portsOnly _ _).store
@[simp] theorem summaryChange_rc : (summaryChange s p).rc = s.rc := (summaryChange_portsOnly _ _).rc
@[simp] theorem summaryChange_free : (summaryChange s p).free = s.free := (summaryChange_portsOnly _ _).free
@[simp] theorem summaryChange_signals : (summaryChange s p).signals = s.signals := (summaryChange_portsOnly _ _).signals
@[simp] theorem summaryChange_pending : (summaryChange s p).pending = s.pending := (summaryChange_portsOnly _ _).pending

end

section
variable (s : State) (p : Port) (e : EventFlag)

@[simp] theorem setFlag_run : (setFlag s p e).run = s.run := (setFlag_portsOnly _ _ _).run
@[simp] theorem setFlag_cfg : (setFlag s p e).cfg = s.cfg := (setFlag_portsOnly _ _ _).cfg
@[simp] theorem setFlag_level : (setFlag s p e).level = s.level := (setFlag_portsOnly _ _ _).level
@[simp] theorem setFlag_link : (setFlag s p e).link = s.link := (setFlag_portsOnly _ _ _).link
@[simp] theorem setFlag_bus : (setFlag s p e).bus = s.bus := (setFlag_portsOnly _ _ _).bus
@[simp] theorem setFlag_clock : (setFlag s p e).clock = s.clock := (setFlag_portsOnly _ _ _).clock
@[simp] theorem setFlag_timing : (setFlag s p e).timing = s.timing := (setFlag_portsOnly _ _ _).timing
@[simp] theorem setFlag_share : (setFlag s p e).share = s.share := (setFlag_portsOnly _ _ _).share
@[simp] theorem setFlag_tests : (setFlag s p e).tests = s.tests := (setFlag_portsOnly _ _ _).tests
@[simp] theorem setFlag_site : (setFlag s p e).site = s.site := (setFlag_portsOnly _ _ _).site
@[simp] theorem setFlag_store : (setFlag s p e).store = s.store := (setFlag_portsOnly _ _ _).store
@[simp] theorem setFlag_rc : (setFlag s p e).rc = s.rc := (setFlag_portsOnly _ _ _).rc
@[simp] theorem setFlag_free : (setFlag s p e).free = s.free := (setFlag_portsOnly _ _ _).free
@[simp] theorem setFlag_signals : (setFlag s p e).signals = s.signals := (setFlag_portsOnly _ _ _).signals
@[simp] theorem setFlag_pending : (setFlag s p e).pending = s.pending := (setFlag_portsOnly _ _ _).pending

end

section
variable (s : State) (e : EventFlag)

@[simp] theorem setFlagBoth_run : (setFlagBoth s e).run = s.run := (setFlagBoth_portsOnly _ _).run
@[simp] theorem setFlagBoth_cfg : (setFlagBoth s e).cfg = s.cfg := (setFlagBoth_portsOnly _ _).cfg
@[simp] theorem setFlagBoth_level : (setFlagBoth s e).level = s.level := (setFlagBoth_portsOnly _ _).level
@[simp] theorem setFlagBoth_link : (setFlagBoth s e).link = s.link := (setFlagBoth_portsOnly _ _).link
@[simp] theorem setFlagBoth_bus : (setFlagBoth s e).bus = s.bus := (setFlagBoth_portsOnly _ _).bus
@[simp] theorem setFlagBoth_clock : (setFlagBoth s e).clock = s.clock := (setFlagBoth_portsOnly _ _).clock
@[simp] theorem setFlagBoth_timing : (setFlagBoth s e).timing = s.timing := (setFlagBoth_portsOnly _ _).timing
@[simp] theorem setFlagBoth_share : (setFlagBoth s e).share = s.share := (setFlagBoth_portsOnly _ _).share
@[simp] theorem setFlagBoth_tests : (setFlagBoth s e).tests = s.tests := (setFlagBoth_portsOnly _ _).tests
@[simp] theorem setFlagBoth_site : (setFlagBoth s e).site = s.site := (setFlagBoth_portsOnly _ _).site
@[simp] theorem setFlagBoth_store : (setFlagBoth s e).store = s.store := (setFlagBoth_portsOnly _ _).store
@[simp] theorem setFlagBoth_rc : (setFlagBoth s e).rc = s.rc := (setFlagBoth_portsOnly _ _).rc
@[simp] theorem setFlagBoth_free : (setFlagBoth s e).free = s.free := (setFlagBoth_portsOnly _ _).free
@[simp] theorem setFlagBoth_signals : (setFlagBoth s e).signals = s.signals := (setFlagBoth_portsOnly _ _).signals
@[simp] theorem setFlagBoth_pending : (setFlagBoth s e).pending = s.pending := (setFlagBoth_portsOnly _ _).pending

end

section
variable (s : State) (p : Port) (cur : SumVals) (k : SumKey)

@[simp] theorem syncKey_run : (syncKey s p cur k).run = s.run := (syncKey_portsOnly _ _ _ _).run
@[simp] theorem syncKey_cfg : (syncKey s p cur k).cfg = s.cfg := (syncKey_portsOnly _ _ _ _).cfg
@[simp] theorem syncKey_level : (syncKey s p cur k).level = s.level := (syncKey_portsOnly _ _ _ _).level
@[simp] theorem syncKey_link : (syncKey s p cur k).link = s.link := (syncKey_portsOnly _ _ _ _).link
@[simp] theorem syncKey_bus : (syncKey s p cur k).bus = s.bus := (syncKey_portsOnly _ _ _ _).bus
@[simp] theorem syncKey_clock : (syncKey s p cur k).clock = s.clock := (syncKey_portsOnly _ _ _ _).clock
@[simp] theorem syncKey_timing : (syncKey s p cur k).timing = s.timing := (syncKey_portsOnly _ _ _ _).timing
@[simp] theorem syncKey_share : (syncKey s p cur k).share = s.share := (syncKey_portsOnly _ _ _ _).share
@[simp] theorem syncKey_tests : (syncKey s p cur k).tests = s.tests := (syncKey_portsOnly _ _ _ _).tests
@[simp] theorem syncKey_site : (syncKey s p cur k).site = s.site := (syncKey_portsOnly _ _ _ _).site
@[simp] theorem syncKey_store : (syncKey s p cur k).store = s.store := (syncKey_portsOnly _ _ _ _).store
@[simp] theorem syncKey_rc : (syncKey s p cur k).rc = s.rc := (syncKey_portsOnly _ _ _ _).rc
@[simp] theorem syncKey_free : (syncKey s p cur k).free = s.free := (syncKey_portsOnly _ _ _ _).free
@[simp] theorem syncKey_signals : (syncKey s p cur k).signals = s.signals := (syncKey_portsOnly _ _ _ _).signals
@[simp] theorem syncKey_pending : (syncKey s p cur k).pending = s.pending := (syncKey_portsOnly _ _ _ _).pending

end

section
variable (own : List SumKey) (s : State)

@[simp] theorem syncSummary_run : (syncSummary own s).run = s.run := (syncSummary_portsOnly _ _).run
@[simp] theorem syncSummary_cfg : (syncSummary own s).cfg = s.cfg := (syncSummary_portsOnly _ _).cfg
@[simp] theorem syncSummary_level : (syncSummary own s).level = s.level := (syncSummary_portsOnly _ _).level
@[simp] theorem syncSummary_link : (syncSummary own s).link = s.link := (syncSummary_portsOnly _ _).link
@[simp] theorem syncSummary_bus : (syncSummary own s).bus = s.bus := (syncSummary_portsOnly _ _).bus
@[simp] theorem syncSummary_clock : (syncSummary own s).clock = s.clock := (syncSummary_portsOnly _ _).clock
@[simp] theorem syncSummary_timing : (syncSummary own s).timing = s.timing := (syncSummary_portsOnly _ _).timing
@[simp] theorem syncSummary_share : (syncSummary own s).share = s.share := (syncSummary_portsOnly _ _).share
@[simp] theorem syncSummary_tests : (syncSummary own s).tests = s.tests := (syncSummary_portsOnly _ _).tests
@[simp] theorem syncSummary_site : (syncSummary own s).site = s.site := (syncSummary_portsOnly _ _).site
@[simp] theorem syncSummary_store : (syncSummary own s).store = s.store := (syncSummary_portsOnly _ _).store
@[simp] theorem syncSummary_rc : (syncSummary own s).rc = s.rc := (syncSummary_portsOnly _ _).rc
@[simp] theorem syncSummary_free : (syncSummary own s).free = s.free := (syncSummary_portsOnly _ _).free
@[simp] theorem syncSummary_signals : (syncSummary own s).signals = s.signals := (syncSummary_portsOnly _ _).signals
@[simp] theorem syncSummary_pending : (syncSummary own s).pending = s.pending := (syncSummary_portsOnly _ _).pending

end

section
variable (s : State) (p : Port) (w : List String) (l : List Pair)

@[simp] theorem notice_run : (notice s p w l).run = s.run := (notice_portsOnly _ _ _ _).run
@[simp] theorem notice_cfg : (notice s p w l).cfg = s.cfg := (notice_portsOnly _ _ _ _).cfg
@[simp] theorem notice_level : (notice s p w l).level = s.level := (notice_portsOnly _ _ _ _).level
@[simp] theorem notice_link : (notice s p w l).link = s.link := (notice_portsOnly _ _ _ _).link
@[simp] theorem notice_bus : (notice s p w l).bus = s.bus := (notice_portsOnly _ _ _ _).bus
@[simp] theorem notice_clock : (notice s p w l).clock = s.clock := (notice_portsOnly _ _ _ _).clock
@[simp] theorem notice_timing : (notice s p w l).timing = s.timing := (notice_portsOnly _ _ _ _).timing
@[simp] theorem notice_share : (notice s p w l).share = s.share := (notice_portsOnly _ _ _ _).share
@[simp] theorem notice_tests : (notice s p w l).tests = s.tests := (notice_portsOnly _ _ _ _).tests
@[simp] theorem notice_site : (notice s p w l).site = s.site := (notice_portsOnly _ _ _ _).site
@[simp] theorem notice_store : (notice s p w l).store = s.store := (notice_portsOnly _ _ _ _).store
@[simp] theorem notice_rc : (notice s p w l).rc = s.rc := (notice_portsOnly _ _ _ _).rc
@[simp] theorem notice_free : (notice s p w l).free = s.free := (notice_portsOnly _ _ _ _).free
@[simp] theorem notice_signals : (notice s p w l).signals = s.signals := (notice_portsOnly _ _ _ _).signals
@[simp] theorem notice_pending : (notice s p w l).pending = s.pending := (notice_portsOnly _ _ _ _).pending

end

section
variable (s : State) (p : Port) (c : NoticeClass) (w : List String) (l : List Pair)

@[simp] theorem noticeMasked_run : (noticeMasked s p c w l).run = s.run := (noticeMasked_portsOnly _ _ _ _ _).run
@[simp] theorem noticeMasked_cfg : (noticeMasked s p c w l).cfg = s.cfg := (noticeMasked_portsOnly _ _ _ _ _).cfg
@[simp] theorem noticeMasked_level : (noticeMasked s p c w l).level = s.level := (noticeMasked_portsOnly _ _ _ _ _).level
@[simp] theorem noticeMasked_link : (noticeMasked s p c w l).link = s.link := (noticeMasked_portsOnly _ _ _ _ _).link
@[simp] theorem noticeMasked_bus : (noticeMasked s p c w l).bus = s.bus := (noticeMasked_portsOnly _ _ _ _ _).bus
@[simp] theorem noticeMasked_clock : (noticeMasked s p c w l).clock = s.clock := (noticeMasked_portsOnly _ _ _ _ _).clock
@[simp] theorem noticeMasked_timing : (noticeMasked s p c w l).timing = s.timing := (noticeMasked_portsOnly _ _ _ _ _).timing
@[simp] theorem noticeMasked_share : (noticeMasked s p c w l).share = s.share := (noticeMasked_portsOnly _ _ _ _ _).share
@[simp] theorem noticeMasked_tests : (noticeMasked s p c w l).tests = s.tests := (noticeMasked_portsOnly _ _ _ _ _).tests
@[simp] theorem noticeMasked_site : (noticeMasked s p c w l).site = s.site := (noticeMasked_portsOnly _ _ _ _ _).site
@[simp] theorem noticeMasked_store : (noticeMasked s p c w l).store = s.store := (noticeMasked_portsOnly _ _ _ _ _).store
@[simp] theorem noticeMasked_rc : (noticeMasked s p c w l).rc = s.rc := (noticeMasked_portsOnly _ _ _ _ _).rc
@[simp] theorem noticeMasked_free : (noticeMasked s p c w l).free = s.free := (noticeMasked_portsOnly _ _ _ _ _).free
@[simp] theorem noticeMasked_signals : (noticeMasked s p c w l).signals = s.signals := (noticeMasked_portsOnly _ _ _ _ _).signals
@[simp] theorem noticeMasked_pending : (noticeMasked s p c w l).pending = s.pending := (noticeMasked_portsOnly _ _ _ _ _).pending

end

section
variable (s : State) (c : NoticeClass) (w : List String) (l : List Pair)

@[simp] theorem noticeBoth_run : (noticeBoth s c w l).run = s.run := (noticeBoth_portsOnly _ _ _ _).run
@[simp] theorem noticeBoth_cfg : (noticeBoth s c w l).cfg = s.cfg := (noticeBoth_portsOnly _ _ _ _).cfg
@[simp] theorem noticeBoth_level : (noticeBoth s c w l).level = s.level := (noticeBoth_portsOnly _ _ _ _).level
@[simp] theorem noticeBoth_link : (noticeBoth s c w l).link = s.link := (noticeBoth_portsOnly _ _ _ _).link
@[simp] theorem noticeBoth_bus : (noticeBoth s c w l).bus = s.bus := (noticeBoth_portsOnly _ _ _ _).bus
@[simp] theorem noticeBoth_clock : (noticeBoth s c w l).clock = s.clock := (noticeBoth_portsOnly _ _ _ _).clock
@[simp] theorem noticeBoth_timing : (noticeBoth s c w l).timing = s.timing := (noticeBoth_portsOnly _ _ _ _).timing
@[simp] theorem noticeBoth_share : (noticeBoth s c w l).share = s.share := (noticeBoth_portsOnly _ _ _ _).share
@[simp] theorem noticeBoth_tests : (noticeBoth s c w l).tests = s.tests := (noticeBoth_portsOnly _ _ _ _).tests
@[simp] theorem noticeBoth_site : (noticeBoth s c w l).site = s.site := (noticeBoth_portsOnly _ _ _ _).site
@[simp] theorem noticeBoth_store : (noticeBoth s c w l).store = s.store := (noticeBoth_portsOnly _ _ _ _).store
@[simp] theorem noticeBoth_rc : (noticeBoth s c w l).rc = s.rc := (noticeBoth_portsOnly _ _ _ _).rc
@[simp] theorem noticeBoth_free : (noticeBoth s c w l).free = s.free := (noticeBoth_portsOnly _ _ _ _).free
@[simp] theorem noticeBoth_signals : (noticeBoth s c w l).signals = s.signals := (noticeBoth_portsOnly _ _ _ _).signals
@[simp] theorem noticeBoth_pending : (noticeBoth s c w l).pending = s.pending := (noticeBoth_portsOnly _ _ _ _).pending

end

section
variable (s : State) (p : Port) (c : NoticeClass) (w : List String) (l : List Pair)

@[simp] theorem noticeOwner_run : (noticeOwner s p c w l).run = s.run := (noticeOwner_portsOnly _ _ _ _ _).run
@[simp] theorem noticeOwner_cfg : (noticeOwner s p c w l).cfg = s.cfg := (noticeOwner_portsOnly _ _ _ _ _).cfg
@[simp] theorem noticeOwner_level : (noticeOwner s p c w l).level = s.level := (noticeOwner_portsOnly _ _ _ _ _).level
@[simp] theorem noticeOwner_link : (noticeOwner s p c w l).link = s.link := (noticeOwner_portsOnly _ _ _ _ _).link
@[simp] theorem noticeOwner_bus : (noticeOwner s p c w l).bus = s.bus := (noticeOwner_portsOnly _ _ _ _ _).bus
@[simp] theorem noticeOwner_clock : (noticeOwner s p c w l).clock = s.clock := (noticeOwner_portsOnly _ _ _ _ _).clock
@[simp] theorem noticeOwner_timing : (noticeOwner s p c w l).timing = s.timing := (noticeOwner_portsOnly _ _ _ _ _).timing
@[simp] theorem noticeOwner_share : (noticeOwner s p c w l).share = s.share := (noticeOwner_portsOnly _ _ _ _ _).share
@[simp] theorem noticeOwner_tests : (noticeOwner s p c w l).tests = s.tests := (noticeOwner_portsOnly _ _ _ _ _).tests
@[simp] theorem noticeOwner_site : (noticeOwner s p c w l).site = s.site := (noticeOwner_portsOnly _ _ _ _ _).site
@[simp] theorem noticeOwner_store : (noticeOwner s p c w l).store = s.store := (noticeOwner_portsOnly _ _ _ _ _).store
@[simp] theorem noticeOwner_rc : (noticeOwner s p c w l).rc = s.rc := (noticeOwner_portsOnly _ _ _ _ _).rc
@[simp] theorem noticeOwner_free : (noticeOwner s p c w l).free = s.free := (noticeOwner_portsOnly _ _ _ _ _).free
@[simp] theorem noticeOwner_signals : (noticeOwner s p c w l).signals = s.signals := (noticeOwner_portsOnly _ _ _ _ _).signals
@[simp] theorem noticeOwner_pending : (noticeOwner s p c w l).pending = s.pending := (noticeOwner_portsOnly _ _ _ _ _).pending

end

end Sys2Proof.Machine
end

