-- ==== Sys2Proof/Laws/Share.lean ====
section
/-! SUPPORT. What a reshare can change: the share engine's tables, the clock's copy of the acknowledgement, the ports,
the counters and the deliveries; and what holds of the tables it leaves. -/

namespace Sys2Proof.Machine

/-- `t` differs from `s` by what a reshare can change. -/
def ShareOnly (s t : State) : Prop :=
  t = { s with share := t.share, clock := { s.clock with permitted := t.clock.permitted }, ports := t.ports
               counts := t.counts, signals := t.signals }

theorem ShareOnly.refl (s : State) : ShareOnly s s := rfl

theorem ShareOnly.trans {s t u : State} (h : ShareOnly s t) (k : ShareOnly t u) : ShareOnly s u := by
  unfold ShareOnly at *
  rw [k, h]

theorem PortsOnly.share_only {s t : State} (h : PortsOnly s t) : ShareOnly s t := by
  unfold ShareOnly
  conv_lhs => rw [h]
  rw [h]

theorem ShareOnly.run {s t : State} (h : ShareOnly s t) : t.run = s.run := by rw [h]
theorem ShareOnly.cfg {s t : State} (h : ShareOnly s t) : t.cfg = s.cfg := by rw [h]
theorem ShareOnly.level {s t : State} (h : ShareOnly s t) : t.level = s.level := by rw [h]
theorem ShareOnly.link {s t : State} (h : ShareOnly s t) : t.link = s.link := by rw [h]
theorem ShareOnly.bus {s t : State} (h : ShareOnly s t) : t.bus = s.bus := by rw [h]
theorem ShareOnly.timing {s t : State} (h : ShareOnly s t) : t.timing = s.timing := by rw [h]
theorem ShareOnly.tests {s t : State} (h : ShareOnly s t) : t.tests = s.tests := by rw [h]
theorem ShareOnly.site {s t : State} (h : ShareOnly s t) : t.site = s.site := by rw [h]
theorem ShareOnly.store {s t : State} (h : ShareOnly s t) : t.store = s.store := by rw [h]
theorem ShareOnly.rc {s t : State} (h : ShareOnly s t) : t.rc = s.rc := by rw [h]
theorem ShareOnly.free {s t : State} (h : ShareOnly s t) : t.free = s.free := by rw [h]
theorem ShareOnly.pending {s t : State} (h : ShareOnly s t) : t.pending = s.pending := by rw [h]
theorem ShareOnly.clock {s t : State} (h : ShareOnly s t) :
    t.clock = { s.clock with permitted := t.clock.permitted } := by
  conv_lhs => rw [h]

theorem ShareOnly.push_foldl (l : List Signal) : ∀ s : State, ShareOnly s (l.foldl State.push s) := by
  induction l with
  | nil => exact fun s => .refl s
  | cons a l ih => exact fun s => ShareOnly.trans (t := s.push a) rfl (ih _)

theorem push_foldl_share (l : List Signal) : ∀ s : State, (l.foldl State.push s).share = s.share := by
  induction l with
  | nil => exact fun _ => rfl
  | cons a l ih => exact fun s => ih (s.push a)

theorem carrierNotice_portsOnly (before : Share) (shed : List (Fin 16 × Option WaitReason))
    (named : Option (Fin 16 × ShareCause)) (s : State) (c : Fin 16) :
    PortsOnly s (carrierNotice before shed named s c) := by
  unfold carrierNotice
  dsimp only
  split
  · exact .refl _
  · split
    · exact .refl _
    · exact noticeBoth_portsOnly _ _ _ _

theorem deliverAck_shareOnly (s : State) : ShareOnly s (deliverAck s) := by
  unfold deliverAck
  split
  · exact .refl _
  · rfl

theorem shareNotice_portsOnly (before : Share) (s : State) : PortsOnly s (shareNotice before s) := by
  unfold shareNotice
  split
  · exact .refl _
  · exact noticeBoth_portsOnly _ _ _ _

theorem shedFlag_portsOnly (shed : List (Fin 16 × Option WaitReason)) (s : State) : PortsOnly s (shedFlag shed s) :=
  PortsOnly.foldl _ (fun t _ => setFlagBoth_portsOnly t .shed) _ _

theorem reshareReport_portsOnly (before : Share) (shed : List (Fin 16 × Option WaitReason))
    (named : Option (Fin 16 × ShareCause)) (s : State) : PortsOnly s (reshareReport before shed named s) :=
  (((shedFlag_portsOnly shed s).trans (PortsOnly.foldl _ (carrierNotice_portsOnly before shed named) _ _)).trans
    (shareNotice_portsOnly before _)).trans (syncSummary_portsOnly _ _)

theorem reshare_shareOnly (s : State) (before : Share) (named : Option (Fin 16 × ShareCause)) (fr : Bool) :
    ShareOnly s (reshare s before named fr) := by
  refine ShareOnly.trans ?_ (reshareReport_portsOnly _ _ _ _).share_only
  refine ShareOnly.trans ?_ (ShareOnly.push_foldl _ _)
  exact ShareOnly.trans (by rfl) (deliverAck_shareOnly _)

/-- The tables that a reshare leaves, but for the value it has delivered to the site clock. -/
theorem reshare_share (s : State) (before : Share) (named : Option (Fin 16 × ShareCause)) (fr : Bool) :
    (reshare s before named fr).share =
      { (s.share.reshared s.cfg fr).share with ackSent := (s.share.reshared s.cfg fr).share.ack } := by
  have h : ∀ t : State, (deliverAck t).share = { t.share with ackSent := t.share.ack } := by
    intro t
    unfold deliverAck
    split
    · next e => rw [← show t.share.ackSent = t.share.ack from e.symm]
    · rfl
  unfold reshare
  rw [(reshareReport_portsOnly _ _ _ _).share, push_foldl_share, h]
  rfl

section
variable (s : State) (before : Share) (named : Option (Fin 16 × ShareCause)) (fr : Bool)

@[simp] theorem reshare_run : (reshare s before named fr).run = s.run := (reshare_shareOnly _ _ _ _).run
@[simp] theorem reshare_cfg : (reshare s before named fr).cfg = s.cfg := (reshare_shareOnly _ _ _ _).cfg
@[simp] theorem reshare_level : (reshare s before named fr).level = s.level := (reshare_shareOnly _ _ _ _).level
@[simp] theorem reshare_link : (reshare s before named fr).link = s.link := (reshare_shareOnly _ _ _ _).link
@[simp] theorem reshare_bus : (reshare s before named fr).bus = s.bus := (reshare_shareOnly _ _ _ _).bus
@[simp] theorem reshare_timing : (reshare s before named fr).timing = s.timing := (reshare_shareOnly _ _ _ _).timing
@[simp] theorem reshare_tests : (reshare s before named fr).tests = s.tests := (reshare_shareOnly _ _ _ _).tests
@[simp] theorem reshare_site : (reshare s before named fr).site = s.site := (reshare_shareOnly _ _ _ _).site
@[simp] theorem reshare_store : (reshare s before named fr).store = s.store := (reshare_shareOnly _ _ _ _).store
@[simp] theorem reshare_rc : (reshare s before named fr).rc = s.rc := (reshare_shareOnly _ _ _ _).rc
@[simp] theorem reshare_free : (reshare s before named fr).free = s.free := (reshare_shareOnly _ _ _ _).free
@[simp] theorem reshare_pending : (reshare s before named fr).pending = s.pending := (reshare_shareOnly _ _ _ _).pending

end

end Sys2Proof.Machine
end

