-- ==== Sys2Proof/Laws/Notices.lean ====
section
/-! SUPPORT. Notices, summaries and reshares leave the lines that a port assembles and holds, and its access, as they
were, and keep every queue within its entries. -/

namespace Sys2Proof.Machine

/-- What sending notices keeps: all but the transmit side of the ports, and the bounds of the queues. -/
def Noticed (u t : State) : Prop := AfterNotices u t ∧ (QueuesBounded u → QueuesBounded t)

/-- What reshares keep. -/
def Shared (u t : State) : Prop := AfterReshares u t ∧ (QueuesBounded u → QueuesBounded t)

theorem SameLine.refl (x : PortState) : SameLine x x := ⟨rfl, rfl, rfl, rfl, rfl, rfl⟩

theorem SameLine.trans {x y z : PortState} (h : SameLine x y) (k : SameLine y z) : SameLine x z := by
  obtain ⟨a, b, c, d, e, f⟩ := h
  obtain ⟨a', b', c', d', e', f'⟩ := k
  exact ⟨a'.trans a, b'.trans b, c'.trans c, d'.trans d, e'.trans e, f'.trans f⟩

theorem AfterNotices.refl (u : State) : AfterNotices u u := ⟨.refl u, fun _ => .refl _⟩

theorem AfterNotices.trans {s t u : State} (h : AfterNotices s t) (k : AfterNotices t u) : AfterNotices s u :=
  ⟨PortsOnly.trans h.1 k.1, fun p => (h.2 p).trans (k.2 p)⟩

theorem Noticed.refl (u : State) : Noticed u u := ⟨.refl u, id⟩

theorem Noticed.trans {s t u : State} (h : Noticed s t) (k : Noticed t u) : Noticed s u :=
  ⟨h.1.trans k.1, fun x => k.2 (h.2 x)⟩

theorem Noticed.foldl {α : Type} (f : State → α → State) (h : ∀ s a, Noticed s (f s a)) :
    ∀ (l : List α) (s : State), Noticed s (l.foldl f s)
  | [], s => .refl s
  | a :: l, s => (h s a).trans (Noticed.foldl f h l (f s a))

@[simp] theorem port_onPort_same (s : State) (p : Port) (f : PortState → PortState) : (s.onPort p f).port p = f (s.port p) := by
  cases p <;> rfl

@[simp] theorem port_onPort_main_service (s : State) (f : PortState → PortState) :
    (s.onPort .main f).port .service = s.port .service := rfl

@[simp] theorem port_onPort_service_main (s : State) (f : PortState → PortState) :
    (s.onPort .service f).port .main = s.port .main := rfl

/-- An update of one port whose lines stay and whose transmit queue stays within its entries. -/
theorem Noticed.onPort (s : State) (p : Port) (f : PortState → PortState) (h : SameLine (s.port p) (f (s.port p)))
    (k : (s.port p).txq.length ≤ 24 → (f (s.port p)).txq.length ≤ 24) : Noticed s (s.onPort p f) := by
  refine ⟨⟨rfl, fun q => ?_⟩, fun b q => ?_⟩
  · cases p <;> cases q <;> first | exact h | exact .refl _
  · have hb := b q
    cases p <;> cases q <;> first | exact ⟨k hb.1, by have := h.2.1; simp only [port_onPort_same]; rw [this]; exact hb.2⟩ | exact hb

theorem countNoticeDrop_noticed (s : State) (p : Port) : Noticed s (countNoticeDrop s p) :=
  ⟨⟨rfl, fun _ => .refl _⟩, id⟩

theorem restartSummaryTimers_noticed (s : State) (p : Port) : Noticed s (restartSummaryTimers s p) :=
  .onPort _ _ _ ⟨rfl, rfl, rfl, rfl, rfl, rfl⟩ id

theorem fits_bound (x : PortState) (l : List TxLine) (h : fits x l = true) : (x.txq ++ l).length ≤ 24 := by
  have h := of_decide_eq_true h
  simp only [freeEntries, txCapacity] at h
  rw [List.length_append]
  omega

theorem sendSummary_noticed (s : State) (p : Port) : Noticed s (sendSummary s p) := by
  unfold sendSummary
  dsimp only
  split
  · next h =>
    exact (Noticed.onPort _ _ _ ⟨rfl, rfl, rfl, rfl, rfl, rfl⟩ fun _ => fits_bound _ _ h).trans
      (restartSummaryTimers_noticed _ _)
  · exact ((countNoticeDrop_noticed _ _).trans (restartSummaryTimers_noticed _ _)).trans
      (.onPort _ _ _ ⟨rfl, rfl, rfl, rfl, rfl, rfl⟩ id)

theorem summaryChange_noticed (s : State) (p : Port) : Noticed s (summaryChange s p) := by
  unfold summaryChange
  split
  · split
    · exact sendSummary_noticed _ _
    · exact .onPort _ _ _ ⟨rfl, rfl, rfl, rfl, rfl, rfl⟩ id
  · exact .refl _

theorem fits_iff (x : PortState) (l : List TxLine) : fits x l = true ↔ x.txq.length + l.length + 3 ≤ 24 := by
  unfold fits freeEntries txCapacity
  rw [decide_eq_true_iff]
  omega

/-- A PORT notice SUMMARY enters or is dropped (R191, R195). -/
theorem sendSummary_offered (s : State) (p : Port) : SummaryOffered s (sendSummary s p) p := by
  refine ⟨fun h => ?_, fun h => ?_⟩
  · unfold sendSummary
    dsimp only
    rw [if_pos ((fits_iff _ _).2 h)]
    cases p <;> rfl
  · unfold sendSummary
    dsimp only
    rw [if_neg (by rw [fits_iff]; omega)]
    rw [show decide (EventFlag.noticeDrop ∉ (s.port p).summary.events)
      = !(s.port p).summary.events.contains .noticeDrop by
      by_cases e : EventFlag.noticeDrop ∈ (s.port p).summary.events <;> simp [e]]
    cases p <;> rfl

/-- R195: what a summary change does to its port. -/
theorem summaryChange_changed (s : State) (p : Port) : SummaryChanged s (summaryChange s p) p := by
  refine ⟨fun h => ?_, fun h k => ?_, fun h k => ?_⟩
  · unfold summaryChange changeMode
    rw [h]; rfl
  · unfold summaryChange changeMode
    rw [if_pos h]
    split
    · next e => rw [e] at k; cases k
    · rfl
  · unfold summaryChange changeMode
    rw [if_pos h, k]
    exact sendSummary_offered s p

theorem setFlag_noticed (s : State) (p : Port) (e : EventFlag) : Noticed s (setFlag s p e) := by
  unfold setFlag
  split
  · exact .refl _
  · exact (Noticed.onPort _ _ _ ⟨rfl, rfl, rfl, rfl, rfl, rfl⟩ id).trans (summaryChange_noticed _ _)

theorem setFlagBoth_noticed (s : State) (e : EventFlag) : Noticed s (setFlagBoth s e) :=
  (setFlag_noticed _ _ _).trans (setFlag_noticed _ _ _)

theorem syncKey_noticed (s : State) (p : Port) (cur : SumVals) (k : SumKey) : Noticed s (syncKey s p cur k) := by
  unfold syncKey
  split
  · exact .refl _
  · exact (Noticed.onPort _ _ _ ⟨rfl, rfl, rfl, rfl, rfl, rfl⟩ id).trans (summaryChange_noticed _ _)

theorem syncSummary_noticed (own : List SumKey) (s : State) : Noticed s (syncSummary own s) :=
  Noticed.foldl _ (fun _ _ => (syncKey_noticed _ _ _ _).trans (syncKey_noticed _ _ _ _)) _ _

theorem notice_noticed (s : State) (p : Port) (w : List String) (l : List Pair) : Noticed s (notice s p w l) := by
  unfold notice
  dsimp only
  split
  · next h => exact .onPort _ _ _ ⟨rfl, rfl, rfl, rfl, rfl, rfl⟩ fun _ => fits_bound _ _ h
  · exact (countNoticeDrop_noticed _ _).trans (setFlag_noticed _ _ _)

theorem noticeMasked_noticed (s : State) (p : Port) (c : NoticeClass) (w : List String) (l : List Pair) :
    Noticed s (noticeMasked s p c w l) := by
  unfold noticeMasked
  split
  · exact notice_noticed _ _ _ _
  · exact .refl _

theorem noticeBoth_noticed (s : State) (c : NoticeClass) (w : List String) (l : List Pair) :
    Noticed s (noticeBoth s c w l) :=
  (noticeMasked_noticed _ _ _ _ _).trans (noticeMasked_noticed _ _ _ _ _)

theorem noticeOwner_noticed (s : State) (p : Port) (c : NoticeClass) (w : List String) (l : List Pair) :
    Noticed s (noticeOwner s p c w l) := by
  cases p
  · exact (notice_noticed _ _ _ _).trans (noticeMasked_noticed _ _ _ _ _)
  · exact (noticeMasked_noticed _ _ _ _ _).trans (notice_noticed _ _ _ _)

/-! ## Reshares -/

theorem AfterNotices.after_reshares {u t : State} (h : AfterNotices u t) : AfterReshares u t := by
  refine ⟨?_, ⟨[], ?_⟩, h.2⟩
  · have e := h.1
    conv_lhs => rw [e]
    rw [show t.share = u.share from PortsOnly.share e, show t.clock = u.clock from PortsOnly.clock e,
      show t.signals = u.signals from PortsOnly.signals e]
    have c := PortsOnly.counts e
    rw [show t.counts.reshares = u.counts.reshares by rw [c], show t.counts.sheds = u.counts.sheds by rw [c]]
  · rw [List.append_nil]
    exact PortsOnly.signals h.1

theorem AfterReshares.refl (u : State) : AfterReshares u u := (AfterNotices.refl u).after_reshares

theorem AfterReshares.trans {s t u : State} (h : AfterReshares s t) (k : AfterReshares t u) : AfterReshares s u := by
  refine ⟨?_, ?_, fun p => (h.2.2 p).trans (k.2.2 p)⟩
  · have a := h.1
    have b := k.1
    rw [b, a]
  · obtain ⟨l, hl⟩ := h.2.1
    obtain ⟨m, hm⟩ := k.2.1
    exact ⟨l ++ m, by rw [hm, hl, List.append_assoc]⟩

theorem Shared.trans {s t u : State} (h : Shared s t) (k : Shared t u) : Shared s u :=
  ⟨h.1.trans k.1, fun x => k.2 (h.2 x)⟩

theorem Noticed.shared {u t : State} (h : Noticed u t) : Shared u t := ⟨h.1.after_reshares, h.2⟩

theorem reshareReport_noticed (before : Share) (shed : List (Fin 16 × Option WaitReason))
    (named : Option (Fin 16 × ShareCause)) (s : State) : Noticed s (reshareReport before shed named s) := by
  have hc : ∀ s c, Noticed s (carrierNotice before shed named s c) := by
    intro s c
    unfold carrierNotice
    dsimp only
    split
    · exact .refl _
    · split
      · exact .refl _
      · exact noticeBoth_noticed _ _ _ _
  have hn : ∀ s, Noticed s (shareNotice before s) := by
    intro s
    unfold shareNotice
    split
    · exact .refl _
    · exact noticeBoth_noticed _ _ _ _
  have hf : Noticed s (shedFlag shed s) := Noticed.foldl _ (fun t _ => setFlagBoth_noticed t .shed) _ _
  exact ((hf.trans (Noticed.foldl _ hc _ _)).trans (hn _)).trans (syncSummary_noticed _ _)

theorem push_foldl_signals (l : List Signal) : ∀ s : State, l.foldl State.push s = { s with signals := s.signals ++ l } := by
  induction l with
  | nil => intro s; rw [List.append_nil]; rfl
  | cons a l ih =>
    intro s
    rw [List.foldl_cons, ih]
    show State.mk .. = State.mk ..
    simp only [State.push, List.append_assoc, List.singleton_append]

/-- The deliveries of a reshare before its reports. -/
theorem deliverAck_shared (s : State) (l : List Signal) : Shared s (l.foldl State.push (deliverAck s)) := by
  rw [push_foldl_signals]
  unfold deliverAck
  split
  · exact ⟨⟨rfl, ⟨l, rfl⟩, fun _ => .refl _⟩, id⟩
  · exact ⟨⟨rfl, ⟨l, rfl⟩, fun _ => .refl _⟩, id⟩

theorem countReshare_shared (s : State) (h : Share) (shed : List (Fin 16 × Option WaitReason)) :
    Shared s (countReshare shed { s with share := h }) :=
  ⟨⟨rfl, ⟨[], (List.append_nil _).symm⟩, fun _ => .refl _⟩, id⟩

theorem reshare_shared (s : State) (before : Share) (named : Option (Fin 16 × ShareCause)) (fr : Bool) :
    Shared s (reshare s before named fr) := by
  unfold reshare
  dsimp only
  generalize s.share.reshared s.cfg fr = r
  exact ((countReshare_shared s r.share r.shed).trans (deliverAck_shared _ _)).trans
    (reshareReport_noticed _ _ _ _).shared

/-- A change of an input of the engine, as a reshare of the tables that hold the new value. -/
theorem shareInput_shared (s : State) (f : Share → Share) : Shared { s with share := f s.share } (shareInput s f) :=
  reshare_shared _ _ _ _

/-- What a reshare counts and delivers. -/
theorem reshare_counts (s : State) (before : Share) (named : Option (Fin 16 × ShareCause)) (fr : Bool) :
    (reshare s before named fr).counts.reshares = bump s.counts.reshares := by
  unfold reshare
  dsimp only
  generalize s.share.reshared s.cfg fr = r
  rw [(reshareReport_noticed _ _ _ _).1.1, push_foldl_signals]
  unfold deliverAck
  split <;> rfl

theorem reshare_signals (s : State) (before : Share) (named : Option (Fin 16 × ShareCause)) (fr : Bool) :
    (reshare s before named fr).signals = s.signals ++ (s.share.reshared s.cfg fr).deliver := by
  unfold reshare
  dsimp only
  generalize s.share.reshared s.cfg fr = r
  rw [(reshareReport_noticed _ _ _ _).1.1, push_foldl_signals]
  unfold deliverAck
  split <;> rfl

end Sys2Proof.Machine
end

