-- ==== Sys2Proof/Laws/Commits.lean ====
section
/-! SUPPORT. What ends an event of the link supervisor or of the timing selector, and of one carrier: the values it
computes, and nothing else but notices, reshares and deliveries. -/

namespace Sys2Proof.Machine

/-! ## Fields of the tables that a reshare keeps -/

section
variable (cfg : Settings) (h : Share) (fr : Bool)

theorem reshared_base : (h.reshared cfg fr).share.base = h.base := rfl
theorem reshared_reserve : (h.reshared cfg fr).share.reserve = h.reserve := rfl
theorem reshared_grade : (h.reshared cfg fr).share.grade = h.grade := rfl
theorem reshared_jump : (h.reshared cfg fr).share.jump = h.jump := rfl
theorem reshared_phase : (h.reshared cfg fr).share.phase = h.phase := rfl
theorem reshared_orders : (h.reshared cfg fr).share.orders = h.orders := rfl
theorem reshared_ack : (h.reshared cfg fr).share.ack = h.jump := rfl

end

/-- `f` keeps a shape of state up to what reshares, notices and deliveries change. -/
theorem Shared.of_noticed {s t u : State} (h : Shared s t) (k : Noticed t u) : Shared s u := h.trans k.shared

theorem Shared.refl (s : State) : Shared s s := (Noticed.refl s).shared

theorem Shared.push (s : State) (g : Signal) : Shared s (s.push g) := ⟨⟨rfl, ⟨[g], rfl⟩, fun _ => .refl _⟩, id⟩

theorem shareInput_base (s : State) (n : Nat) :
    (shareInput s fun h => { h with base := n }).share.base = n := by
  unfold shareInput
  rw [reshare_share]
  rfl

/-- A change of the share engine's copy of an input, as the reshare leaves it. -/
theorem shareInput_shared' (s : State) (f : Share → Share) : Shared s (shareInput s f) := by
  refine Shared.trans ?_ (shareInput_shared s f)
  exact ⟨⟨rfl, ⟨[], (List.append_nil _).symm⟩, fun _ => .refl _⟩, id⟩

/-! ## The link supervisor -/

theorem linkCommit_shared (s : State) (old : Link) (cause : String) :
    Shared { s with link := { s.link with base := baseOf s.cfg s.link } } (linkCommit s old cause) := by
  unfold linkCommit
  dsimp only
  refine Shared.of_noticed ?_ (syncSummary_noticed _ _)
  have hp : ∀ (t : State) (c : Prop) [Decidable c] (a b : Signal), Shared t (if c then t else (t.push a).push b) := by
    intro t c _ a b
    split
    · exact .refl _
    · exact (Shared.push _ _).trans (Shared.push _ _)
  refine Shared.trans ?_ (hp _ _ _ _)
  have hn : ∀ (t : State) (c : Prop) [Decidable c] (w : List String) (l : List Pair),
      Shared t (if c then t else noticeBoth t .link w l) := by
    intro t c _ w l
    split
    · exact .refl _
    · exact (noticeBoth_noticed _ _ _ _).shared
  have hb : ∀ (t : State) (c : Prop) [Decidable c] (w : List String) (l : List Pair) (f : Share → Share),
      Shared t (if c then t else shareInput (noticeBoth t .link w l) f) := by
    intro t c _ w l f
    split
    · exact .refl _
    · exact (noticeBoth_noticed _ _ _ _).shared.trans (shareInput_shared' _ _)
  refine Shared.trans ?_ (hb _ _ _ _ _)
  refine Shared.trans ?_ (hn _ _ _ _)
  exact hn _ _ _ _

/-- A field that notices leave alone may be set before or after them. -/
theorem Noticed.withLink {s t : State} (h : Noticed s t) (k : Link) :
    Noticed { s with link := k } { t with link := k } := by
  refine ⟨⟨?_, h.1.2⟩, h.2⟩
  have e := h.1.1
  conv_lhs => rw [e]

theorem Noticed.withSignals {s t : State} (h : Noticed s t) (l : List Signal) :
    Noticed { s with signals := l } { t with signals := l } := by
  refine ⟨⟨?_, h.1.2⟩, h.2⟩
  have e := h.1.1
  conv_lhs => rw [e]

theorem Noticed.withTests {s t : State} (h : Noticed s t) (k : Tests) :
    Noticed { s with tests := k } { t with tests := k } := by
  refine ⟨⟨?_, h.1.2⟩, h.2⟩
  have e := h.1.1
  conv_lhs => rw [e]

theorem Noticed.withBus {s t : State} (h : Noticed s t) (k : Bus) :
    Noticed { s with bus := k } { t with bus := k } := by
  refine ⟨⟨?_, h.1.2⟩, h.2⟩
  have e := h.1.1
  conv_lhs => rw [e]

theorem Noticed.push {s t : State} (h : Noticed s t) (g : Signal) : Noticed (s.push g) (t.push g) := by
  unfold State.push
  rw [show t.signals = s.signals from PortsOnly.signals h.1.1]
  exact h.withSignals _

/-- The end of an event of the link supervisor, from a state that differs from `v` by notices alone. -/
theorem linkCommit_after {v u : State} (h : Noticed v u) (old : Link) (cause : String) :
    Shared { v with link := { v.link with base := baseOf v.cfg v.link } } (linkCommit u old cause) := by
  have e : ({ u with link := { u.link with base := baseOf u.cfg u.link } } : State)
      = { u with link := { v.link with base := baseOf v.cfg v.link } } := by
    rw [show u.link = v.link from PortsOnly.link h.1.1, show u.cfg = v.cfg from PortsOnly.cfg h.1.1]
  refine Shared.trans ?_ (linkCommit_shared u old cause)
  rw [e]
  exact (h.withLink _).shared

/-- The share engine's copy of the base after the end of an event of the link supervisor. -/
theorem linkCommit_base (s : State) (old : Link) (cause : String) :
    (linkCommit s old cause).share.base
      = if baseOf s.cfg s.link = old.base then s.share.base else baseOf s.cfg s.link := by
  unfold linkCommit
  dsimp only
  rw [PortsOnly.share (syncSummary_portsOnly _ _)]
  have hp : ∀ (t : State) (c : Prop) [Decidable c] (a b : Signal),
      (if c then t else (t.push a).push b).share = t.share := by
    intro t c _ a b
    split <;> rfl
  have hn : ∀ (t : State) (c : Prop) [Decidable c] (w : List String) (l : List Pair),
      (if c then t else noticeBoth t .link w l).share = t.share := by
    intro t c _ w l
    split
    · rfl
    · exact noticeBoth_share ..
  rw [hp]
  split
  · rw [hn, hn]
    exact (if_pos (by assumption)).symm
  · rw [shareInput_base]
    exact (if_neg (by assumption)).symm

/-! ## The timing selector -/

theorem timingCommit_shared (s : State) (old : Timing) (c : TimingCauses) :
    Shared
      { s with timing := s.timing.regrade s.cfg
               clock := { s.clock with tstate := s.timing.state, grade := (s.timing.regrade s.cfg).grade } }
      (timingCommit s old c) := by
  have hn : ∀ (t : State) (c : Prop) [Decidable c] (w : List String) (l : List Pair),
      Noticed t (if c then t else noticeBoth t .time w l) := by
    intro t c _ w l
    split
    · exact .refl _
    · exact noticeBoth_noticed _ _ _ _
  have hs : ∀ (t : State) (c : Prop) [Decidable c] (f : Share → Share),
      Shared t (if c then t else shareInput t f) := by
    intro t c _ f
    split
    · exact .refl _
    · exact shareInput_shared' _ _
  have hf : ∀ (s : State) (i : Source), Noticed s (sourceNotice old c.source s i) := by
    intro s i
    unfold sourceNotice
    dsimp only
    split
    · exact .refl _
    · exact noticeBoth_noticed _ _ _ _
  have hj : ∀ (t : State) (a b : Option JumpRequest), Noticed t (match a, b with
      | some j, none =>
        if c.jump = "" then t
        else noticeBoth t .time ["JUMP", "CANCELLED"] [kv "amount" (.int j.amount), kv "cause" (.word c.jump)]
      | _, _ => t) := by
    intro t a b
    split
    · exact hn _ _ _ _
    · exact .refl _
  have hc : ∀ (t u : State) (f : Clock → Clock) (g : Clock), Noticed t u → f t.clock = g →
      Shared { t with clock := g } (u.onClock f) := by
    intro t u f g h e
    refine Noticed.shared ⟨⟨?_, fun p => h.1.2 p⟩, fun b => h.2 b⟩
    have e' := h.1.1
    unfold State.onClock
    rw [show u.clock = t.clock from PortsOnly.clock e', e]
    conv_lhs => rw [e']
  unfold timingCommit
  dsimp only
  refine Shared.of_noticed ?_ (syncSummary_noticed _ _)
  refine Shared.trans ?_ (hs _ _ _)
  refine Shared.trans ?_ (hs _ _ _)
  refine hc (s.onTiming fun t => t.regrade s.cfg) _ _ _ ?_ rfl
  refine Noticed.trans ?_ (hj _ _ _)
  refine Noticed.trans ?_ (hn _ _ _ _)
  refine Noticed.trans ?_ (hn _ _ _ _)
  refine Noticed.trans ?_ (hn _ _ _ _)
  exact Noticed.foldl _ hf _ _

/-! ## Ends of alignment -/

/-- Releasing a port's alignment changes the level monitor, its deliveries and notices, and only where the port owns the
record. -/
theorem releaseAlign_noticed (s : State) (p : Port) (c : String) :
    ∃ l sg, Noticed { s with level := l, signals := sg } (releaseAlign s p c)
      ∧ (s.level.align.map (·.owner) ≠ some (.port p) → l = s.level ∧ sg = s.signals) := by
  unfold releaseAlign
  split
  · exact ⟨_, _, .refl _, fun _ => ⟨rfl, rfl⟩⟩
  · next a h =>
    split
    · next h2 =>
      split
      · exact ⟨_, _, noticeBoth_noticed _ _ _ _, fun hn => absurd (by rw [h]; simp [h2]) hn⟩
      · exact ⟨_, _, (noticeBoth_noticed _ _ _ _).push _, fun hn => absurd (by rw [h]; simp [h2]) hn⟩
    · exact ⟨_, _, .refl _, fun _ => ⟨rfl, rfl⟩⟩

theorem levelAccessDrop_noticed (s : State) (p : Port) :
    ∃ l sg, Noticed { s with level := l, signals := sg } (levelAccessDrop s p)
      ∧ (s.level.align.map (·.owner) ≠ some (.port p) → l = s.level ∧ sg = s.signals) := by
  unfold levelAccessDrop
  split
  · exact ⟨_, _, .refl _, fun _ => ⟨rfl, rfl⟩⟩
  · exact releaseAlign_noticed _ _ _

end Sys2Proof.Machine
end

