-- ==== Sys2Proof/Laws/Exec.lean ====
section
/-! SUPPORT. What a command's row comes to on the running part: the effect and the deliveries that follow; for a
request, the owning block's answer, or the refusal of the port. -/

namespace Sys2Proof.Machine

theorem live_running (f : State → State) (s : State) (h : s.run = .running) : live f s = settle (f s) := if_pos h

theorem live_stopped (f : State → State) (s : State) (h : s.run ≠ .running) : live f s = s := if_neg h

theorem settleFor_none (n : Nat) (s : State) (h : s.signals = []) : settleFor n s = s := by
  cases n with
  | zero => rfl
  | succ n => unfold settleFor; rw [h]

/-- With nothing to deliver, nothing follows. -/
theorem settle_none (s : State) (h : s.signals = []) : settle s = s := settleFor_none _ s h

theorem requestRow_takes (rq : Req) (f : State → State) (s : State) (h : Takes s rq) :
    requestRow rq f s = settle (f (portLine s rq.port)) := by
  unfold requestRow
  rw [live_running _ _ h.1, if_pos h.2]

/-- A port that cannot take a line leaves the request where it is. -/
theorem requestRow_waits (rq : Req) (f : State → State) (s : State) (h : s.run = .running)
    (k : canTake s rq.port = false) : requestRow rq f s = settle s := by
  unfold requestRow
  rw [live_running _ _ h, if_neg (by rw [k]; exact Bool.false_ne_true)]

/-- A request that its port may make is answered by the owning block. -/
theorem requestRow_executes (rq : Req) (n : Need) (f : State → State × Reply) (s : State) (h : Executes s rq n) :
    requestRow rq (answer rq n f) s
      = answered (f (portLine s rq.port)).1 rq (f (portLine s rq.port)).2 := by
  obtain ⟨h1, h2, h3⟩ := h
  rw [requestRow_takes _ _ _ h1]
  unfold answer answered
  rw [h3, h2]
  rfl

theorem requestRow_noLevel (rq : Req) (n : Need) (f : State → State × Reply) (s : State) (h : Takes s rq)
    (k : n.met (portLine s rq.port) rq.port = false) :
    requestRow rq (answer rq n f) s = answered (portLine s rq.port) rq (.no .noLevel) := by
  rw [requestRow_takes _ _ _ h]
  unfold answer answered
  rw [k]
  rfl

theorem requestRow_foreignKey (rq : Req) (n : Need) (f : State → State × Reply) (s : State) (h : Takes s rq)
    (k : n.met (portLine s rq.port) rq.port = true) (e : rq.extra = true) :
    requestRow rq (answer rq n f) s = answered (portLine s rq.port) rq (.no .noRange) := by
  rw [requestRow_takes _ _ _ h]
  unfold answer answered
  rw [k, e]
  rfl

/-- The same, for a handler whose answer is known. -/
theorem requestRow_answers {rq : Req} {n : Need} {f : State → State × Reply} {s t : State} {r : Reply}
    (h : Executes s rq n) (e : f (portLine s rq.port) = (t, r)) :
    requestRow rq (answer rq n f) s = answered t rq r := by
  rw [requestRow_executes rq n f s h, e]

theorem live_result {f : State → State} {s t : State} (h : s.run = .running) (e : f s = t) : live f s = settle t := by
  rw [live_running _ _ h, e]

/-- An object index in range names its object. -/
theorem indexOf_val (n : Nat) (p : Fin n) : indexOf n (some (p.val : Int)) = some p := by
  show (if h : 0 ≤ (p.val : Int) ∧ (p.val : Int).toNat < n then some (⟨_, h.2⟩ : Fin n) else none) = some p
  rw [dif_pos ⟨Int.natCast_nonneg _, by simp⟩]
  rfl

theorem namesOf_known {α : Type} (l : List α) : namesOf (l.map Named.known) = some l := by
  induction l with
  | nil => rfl
  | cons a l ih => simp [namesOf, ih]

/-! ## Events that fall due in a cycle -/

theorem occur_next {i : Instr} {s t : State} (h : exec i s = .next t) : occur s i = t := by
  unfold occur
  rw [h]

/-- What every command keeps, an event that falls due keeps. -/
theorem occur_keeps {inv : State → Prop} (h : ∀ i s t, inv s → exec i s = .next t → inv t) (s : State) (i : Instr)
    (k : inv s) : inv (occur s i) := by
  unfold occur
  cases e : exec i s with
  | next t => exact h i s t k e
  | fault _ => exact k
  | refused _ => exact k

theorem foldl_keeps {α : Type} {inv : State → Prop} {f : State → α → State} (h : ∀ s a, inv s → inv (f s a))
    (l : List α) : ∀ s, inv s → inv (l.foldl f s) := by
  induction l with
  | nil => exact fun s k => k
  | cons a l ih => exact fun s k => ih _ (h s a k)

theorem occurDue_keeps {inv : State → Prop} (h : ∀ s i, inv s → inv (occur s i)) (l : List Due) (s : State)
    (k : inv s) : inv (occurDue l s) :=
  foldl_keeps (fun t d c => by
    show inv (match d t with | some i => occur t i | none => t)
    cases d t with
    | none => exact c
    | some i => exact h t i c) l s k

theorem replicate_get {α : Type} {n : Nat} (a : α) (i : Fin n) : (Vector.replicate n a).get i = a := by
  simp [Vector.get]

end Sys2Proof.Machine
end

