-- ==== Sys2Proof/Laws/Lines.lean ====
section
/-! SUPPORT. How a port reads a line (R189): the tag, the check, and the words and fields that the decoder of a line
finds are those that the rule's tests ask for. -/

namespace Sys2Proof.Machine

theorem leadDigits_append (d r : List Char) (h : ∀ c ∈ d, isDigit c = true) :
    leadDigits (d ++ r) = (d ++ (leadDigits r).1, (leadDigits r).2) := by
  induction d with
  | nil => rfl
  | cons c d ih =>
    have hc := h c (List.mem_cons_self ..)
    rw [List.cons_append, leadDigits, if_pos hc, ih fun x m => h x (List.mem_cons_of_mem _ m)]
    rfl

theorem leadDigits_split (l : List Char) :
    l = (leadDigits l).1 ++ (leadDigits l).2 ∧ ∀ c ∈ (leadDigits l).1, isDigit c = true := by
  induction l with
  | nil => exact ⟨rfl, fun _ h => nomatch h⟩
  | cons c l ih =>
    unfold leadDigits
    split
    · next hc =>
      refine ⟨congrArg (c :: ·) ih.1, fun x m => ?_⟩
      rcases List.mem_cons.1 m with rfl | m
      · exact hc
      · exact ih.2 x m
    · exact ⟨rfl, fun _ h => nomatch h⟩

theorem isDigit_space : isDigit ' ' = false := by decide +kernel

/-- R189, test 1. -/
theorem readTag_some (l : List Char) (t : Tag) (rest : List Char) :
    readTag l = some (t, rest) ↔ Tagged l t rest := by
  constructor
  · intro h
    unfold readTag at h
    split at h
    · next d r e =>
      split at h
      · next c =>
        simp only [Bool.and_eq_true, Bool.not_eq_true', decide_eq_true_eq] at c
        simp only [Option.some.injEq, Prod.mk.injEq] at h
        have k := leadDigits_split l
        rw [e] at k
        refine ⟨d, h.2 ▸ k.1, ?_, c.2, k.2, h.1.symm⟩
        cases d with
        | nil => cases c.1
        | cons => simp
      · cases h
    · cases h
  · rintro ⟨d, rfl, h1, h4, hd, rfl⟩
    have e : leadDigits (d ++ ' ' :: rest) = (d, ' ' :: rest) := by
      rw [leadDigits_append _ _ hd]
      simp [leadDigits, isDigit_space]
    unfold readTag
    rw [e]
    have hne : d.isEmpty = false := by cases d with | nil => simp at h1 | cons => rfl
    simp [hne, h4]

theorem readTag_none (l : List Char) : readTag l = none ↔ ¬∃ t rest, Tagged l t rest := by
  constructor
  · rintro h ⟨t, rest, k⟩
    rw [(readTag_some l t rest).2 k] at h
    cases h
  · intro h
    cases e : readTag l with
    | none => rfl
    | some x => exact absurd ⟨x.1, x.2, (readTag_some l x.1 x.2).1 e⟩ h

theorem checkOf_some (l body : List Char) (a b : Char) :
    checkOf l = some (body, a, b) ↔ l = body ++ ['*', a, b] := by
  constructor
  · intro h
    unfold checkOf at h
    split at h
    · next b' a' r e =>
      simp only [Option.some.injEq, Prod.mk.injEq] at h
      obtain ⟨rfl, rfl, rfl⟩ := h
      have := congrArg List.reverse e
      simpa using this
    · cases h
  · rintro rfl
    simp [checkOf]

theorem checkOf_none (l : List Char) : checkOf l = none ↔ ¬∃ body a b, l = body ++ ['*', a, b] := by
  constructor
  · rintro h ⟨body, a, b, k⟩
    rw [(checkOf_some l body a b).2 k] at h
    cases h
  · intro h
    cases e : checkOf l with
    | none => rfl
    | some x => exact absurd ⟨x.1, x.2.1, x.2.2, (checkOf_some l x.1 x.2.1 x.2.2).1 e⟩ h

/-- R189, test 3. -/
theorem checkPasses_iff (mode : CheckMode) (l : List Char) : checkPasses mode l = true ↔ CheckPasses mode l := by
  unfold checkPasses CheckPasses
  cases e : checkOf l with
  | none =>
    have n := (checkOf_none l).1 e
    simp only [beq_iff_eq]
    constructor
    · exact fun h => Or.inr ⟨h, n⟩
    · rintro (⟨body, a, b, _, _, h, _⟩ | h)
      · exact absurd ⟨body, a, b, h⟩ n
      · exact h.1
  | some x =>
    obtain ⟨body, a, b⟩ := x
    have k := (checkOf_some l body a b).1 e
    show checkAgrees body a b = true ↔ _
    unfold checkAgrees checkSum
    constructor
    · intro h
      split at h
      · next x y hx hy => exact Or.inl ⟨body, a, b, x, y, k, hx, hy, by simpa using h⟩
      · cases h
    · rintro (⟨body', a', b', x, y, h, hx, hy, hs⟩ | h)
      · have := (checkOf_some l body' a' b').2 h
        rw [e] at this
        cases this
        rw [hx, hy]
        simpa using hs
      · exact absurd ⟨body, a, b, k⟩ h.2

theorem splitAtChar_sep (c : Char) (w r : List Char) (h : c ∉ w) : splitAtChar c (w ++ c :: r) = w :: splitAtChar c r := by
  induction w with
  | nil => simp [splitAtChar]
  | cons x w ih =>
    have hx : x ≠ c := fun e => h (e ▸ List.mem_cons_self ..)
    rw [List.cons_append, splitAtChar, if_neg hx, ih fun m => h (List.mem_cons_of_mem _ m)]

theorem splitAtChar_none (c : Char) (w : List Char) (h : c ∉ w) : splitAtChar c w = [w] := by
  induction w with
  | nil => rfl
  | cons x w ih =>
    have hx : x ≠ c := fun e => h (e ▸ List.mem_cons_self ..)
    rw [splitAtChar, if_neg hx, ih fun m => h (List.mem_cons_of_mem _ m)]

/-- The parts of a line hold no separator, and joined by it are the line. -/
theorem splitAtChar_join (c : Char) (l : List Char) :
    [c].intercalate (splitAtChar c l) = l ∧ splitAtChar c l ≠ [] ∧ ∀ w ∈ splitAtChar c l, c ∉ w := by
  induction l with
  | nil => simp [splitAtChar, List.intercalate]
  | cons x l ih =>
    unfold splitAtChar
    split
    · next h =>
      subst h
      cases e : splitAtChar x l with
      | nil => exact absurd e ih.2.1
      | cons y z =>
        rw [e] at ih
        refine ⟨?_, by simp, ?_⟩
        · have := ih.1
          simp [List.intercalate] at this ⊢
          exact this
        · intro w m
          rcases List.mem_cons.1 m with rfl | m
          · simp
          · exact ih.2.2 w m
    · next h =>
      cases e : splitAtChar c l with
      | nil => exact absurd e ih.2.1
      | cons y z =>
        rw [e] at ih
        refine ⟨?_, by simp, ?_⟩
        · have := ih.1
          cases z <;> simp [List.intercalate] at this ⊢ <;> exact this
        · intro w m
          rcases List.mem_cons.1 m with rfl | m
          · simp only [List.mem_cons, not_or]
            exact ⟨fun e => h e.symm, ih.2.2 y (List.mem_cons_self ..)⟩
          · exact ih.2.2 w (List.mem_cons_of_mem _ m)

theorem splitAtChar_intercalate (c : Char) : ∀ (l : List (List Char)), l ≠ [] → (∀ w ∈ l, c ∉ w) →
    splitAtChar c ([c].intercalate l) = l
  | [], h, _ => absurd rfl h
  | [w], _, k => by
    simp [List.intercalate]
    exact splitAtChar_none c w (k w (List.mem_cons_self ..))
  | w :: v :: l, _, k => by
    have e : [c].intercalate (w :: v :: l) = w ++ c :: [c].intercalate (v :: l) := by
      simp [List.intercalate]
    rw [e, splitAtChar_sep _ _ _ (k w (List.mem_cons_self ..)),
      splitAtChar_intercalate c (v :: l) (by simp) fun x m => k x (List.mem_cons_of_mem _ m)]

theorem key_no_equals (k : List Char) (h : ∀ c ∈ k, isSmall c = true ∨ c = '_') : '=' ∉ k := by
  intro m
  rcases h _ m with e | e
  · exact absurd e (by decide +kernel)
  · exact absurd e (by decide)

theorem fieldOf_some (w k v : List Char) :
    fieldOf w = some (k, v) ↔ w = k ++ '=' :: v ∧ k ≠ [] ∧ (∀ c ∈ k, isSmall c = true ∨ c = '_') ∧ '=' ∉ v := by
  constructor
  · intro h
    unfold fieldOf at h
    split at h
    · next k' v' e =>
      split at h
      · next c =>
        simp only [Option.some.injEq, Prod.mk.injEq] at h
        obtain ⟨rfl, rfl⟩ := h
        simp only [Bool.and_eq_true, Bool.not_eq_true', List.all_eq_true, Bool.or_eq_true, beq_iff_eq] at c
        have j := splitAtChar_join '=' w
        rw [e] at j
        refine ⟨?_, fun n => ?_, c.2, j.2.2 v' (by simp)⟩
        · have := j.1
          simp [List.intercalate] at this
          exact this.symm
        · rw [n] at c
          cases c.1
      · cases h
    · cases h
  · rintro ⟨rfl, hk, hs, hv⟩
    have e : splitAtChar '=' (k ++ '=' :: v) = [k, v] := by
      rw [splitAtChar_sep _ _ _ (key_no_equals k hs), splitAtChar_none _ _ hv]
    unfold fieldOf
    rw [e]
    have hne : k.isEmpty = false := by cases k with | nil => exact absurd rfl hk | cons => rfl
    have ha : (k.all fun c => isSmall c || c == '_') = true := by
      rw [List.all_eq_true]
      intro c m
      rcases hs c m with e | e <;> simp [e]
    simp [hne, ha]

theorem lookup_none (fs : Fields) (k : List Char) : (fs.lookup k).isNone = true ↔ k ∉ fs.map (·.1) := by
  rw [Option.isNone_iff_eq_none, List.lookup_eq_none_iff]
  simp only [bne_iff_ne, List.mem_map, not_exists, not_and]
  exact ⟨fun h x m e => h x m (e ▸ rfl), fun h x m e => h x m e.symm⟩

/-- A field as it is written. -/
def fieldText (f : List Char × List Char) : List Char := f.1 ++ '=' :: f.2

/-- What the parts of a line spell (R189, test 4). -/
theorem splitParts_some (l ws : List (List Char)) (fs : Fields) :
    splitParts l = some (ws, fs) ↔
      l = ws ++ fs.map fieldText ∧ (∀ w ∈ ws, w ≠ [] ∧ '=' ∉ w)
        ∧ (∀ f ∈ fs, f.1 ≠ [] ∧ (∀ c ∈ f.1, isSmall c = true ∨ c = '_') ∧ '=' ∉ f.2) ∧ (fs.map (·.1)).Nodup := by
  induction l generalizing ws fs with
  | nil =>
    unfold splitParts
    constructor
    · intro h
      simp only [Option.some.injEq, Prod.mk.injEq] at h
      obtain ⟨rfl, rfl⟩ := h
      exact ⟨rfl, by simp, by simp, by simp⟩
    · rintro ⟨h, -⟩
      have h := h.symm
      rw [List.append_eq_nil_iff, List.map_eq_nil_iff] at h
      rw [h.1, h.2]
  | cons w l ih =>
    constructor
    · intro h
      unfold splitParts at h
      split at h
      · cases h
      · next ws' fs' e =>
        obtain ⟨hl, hw, hf, hn⟩ := (ih ws' fs').1 e
        split at h
        · cases h
        · next hne =>
          split at h
          · split at h
            · cases h
            · next x hx =>
              split at h
              · next c =>
                simp only [Option.some.injEq, Prod.mk.injEq] at h
                obtain ⟨rfl, rfl⟩ := h
                rw [Bool.and_eq_true, List.isEmpty_iff, lookup_none] at c
                obtain ⟨rfl, hk⟩ := c
                obtain ⟨h1, h2, h3, h4⟩ := (fieldOf_some w x.1 x.2).1 hx
                refine ⟨?_, by simp, ?_, ?_⟩
                · rw [hl, h1]; rfl
                · intro f m
                  rcases List.mem_cons.1 m with rfl | m
                  · exact ⟨h2, h3, h4⟩
                  · exact hf f m
                · exact List.nodup_cons.2 ⟨hk, hn⟩
              · cases h
          · next heq =>
            simp only [Option.some.injEq, Prod.mk.injEq] at h
            obtain ⟨rfl, rfl⟩ := h
            refine ⟨by rw [hl]; rfl, ?_, hf, hn⟩
            intro v m
            rcases List.mem_cons.1 m with rfl | m
            · exact ⟨fun n => hne (by rw [n]; rfl), heq⟩
            · exact hw v m
    · rintro ⟨hl, hw, hf, hn⟩
      cases ws with
      | cons v ws =>
        obtain ⟨rfl, rfl⟩ := List.cons.inj hl
        have e := (ih ws fs).2 ⟨rfl, fun v m => hw v (List.mem_cons_of_mem _ m), hf, hn⟩
        have hv := hw w (List.mem_cons_self ..)
        unfold splitParts
        rw [e]
        have hne : w.isEmpty = false := by cases w with | nil => exact absurd rfl hv.1 | cons => rfl
        simp [hne, hv.2]
      | nil =>
        cases fs with
        | nil => cases hl
        | cons f fs =>
          obtain ⟨rfl, rfl⟩ := List.cons.inj hl
          have hh := hf f (List.mem_cons_self ..)
          have hk := List.nodup_cons.1 hn
          have e := (ih [] fs).2 ⟨rfl, by simp, fun g m => hf g (List.mem_cons_of_mem _ m), hk.2⟩
          have ef := (fieldOf_some (fieldText f) f.1 f.2).2 ⟨rfl, hh.1, hh.2.1, hh.2.2⟩
          unfold splitParts
          rw [e]
          have hne : (fieldText f).isEmpty = false := by
            unfold fieldText
            cases f.1 with | nil => rfl | cons => rfl
          have hm : '=' ∈ fieldText f := by simp [fieldText]
          have hz := (lookup_none fs f.1).2 hk.1
          simp only [hne, hm, ef, hz]
          rfl

theorem uncheckedRest_some (l rest r : List Char) (t : Tag) (h : Tagged l t rest) :
    uncheckedRest l rest = some r ↔
      (∃ body a b, l = body ++ ['*', a, b] ∧ rest = r ++ [' ', '*', a, b])
        ∨ rest = r ∧ ¬∃ body a b, l = body ++ ['*', a, b] := by
  obtain ⟨d, hl, -⟩ := h
  unfold uncheckedRest
  cases e : checkOf l with
  | none =>
    have n := (checkOf_none l).1 e
    constructor
    · intro k
      exact Or.inr ⟨Option.some.inj k, n⟩
    · rintro (⟨body, a, b, k, -⟩ | k)
      · exact absurd ⟨body, a, b, k⟩ n
      · exact congrArg some k.1
  | some x =>
    obtain ⟨body, a, b⟩ := x
    have k := (checkOf_some l body a b).1 e
    constructor
    · intro hr
      dsimp only at hr
      split at hr
      · next r' e' =>
        have e' := congrArg List.reverse e'
        rw [List.reverse_reverse, List.reverse_cons] at e'
        cases hr
        have hlen : (rest.take (rest.length - 3)).length = r'.length + 1 := by rw [e']; simp
        rw [List.length_take] at hlen
        have hsplit := List.take_append_drop (rest.length - 3) rest
        have hd : (rest.drop (rest.length - 3)).length = 3 := by rw [List.length_drop]; omega
        have hj : (d ++ ' ' :: rest.take (rest.length - 3)) ++ rest.drop (rest.length - 3) = body ++ ['*', a, b] := by
          rw [List.append_assoc, List.cons_append, hsplit, ← hl, k]
        have hb := (List.append_inj' hj (by rw [hd]; rfl)).2
        refine Or.inl ⟨body, a, b, k, ?_⟩
        rw [← hsplit, hb, e']
        simp
      · cases hr
    · rintro (⟨body', a', b', -, rfl⟩ | n)
      · have e' : ((r ++ [' ', '*', a', b']).take ((r ++ [' ', '*', a', b']).length - 3)).reverse = ' ' :: r.reverse := by
          rw [show (r ++ [' ', '*', a', b']).length - 3 = (r ++ [' ']).length by simp,
            show r ++ [' ', '*', a', b'] = (r ++ [' ']) ++ ['*', a', b'] by simp, List.take_left']
          · simp
          · rfl
        dsimp only
        rw [e']
        simp
      · exact absurd ⟨body, a, b, k⟩ n.2

/-- What the decoder of a line finds is what R189's test 4 asks of it. -/
theorem grammatical_iff (l rest : List Char) (t : Tag) (h : Tagged l t rest) (ws : List (List Char)) (fs : Fields) :
    Grammatical l rest ws fs ↔
      ∃ r, uncheckedRest l rest = some r ∧ '*' ∉ r ∧ splitParts (splitAtChar ' ' r) = some (ws, fs) ∧ ws ≠ []
        ∧ fs.all (fieldInForm ((formatOf ws formats).map (·.1))) = true := by
  constructor
  · rintro ⟨⟨r, hstar, hr, hrest⟩, hne, hw, hf, hn, hform⟩
    refine ⟨r, (uncheckedRest_some l rest r t h).2 hrest, hstar, ?_, hne, List.all_eq_true.2 hform⟩
    have hs : splitAtChar ' ' r = ws ++ fs.map fieldText := by
      rw [hr]
      refine splitAtChar_intercalate ' ' _ (by simp [hne]) fun w m => ?_
      rcases List.mem_append.1 m with m | m
      · exact (hw w m).2.1
      · obtain ⟨f, mf, rfl⟩ := List.mem_map.1 m
        intro q
        rcases List.mem_append.1 q with q | q
        · rcases (hf f mf).2.1 _ q with z | z
          · exact absurd z (by decide +kernel)
          · exact absurd z (by decide)
        · rcases List.mem_cons.1 q with z | q
          · exact absurd z (by decide)
          · exact (hf f mf).2.2.1 q
    rw [hs]
    exact (splitParts_some _ _ _).2
      ⟨rfl, fun w m => ⟨(hw w m).1, (hw w m).2.2⟩, fun f m => ⟨(hf f m).1, (hf f m).2.1, (hf f m).2.2.2⟩, hn⟩
  · rintro ⟨r, hu, hstar, hp, hne, hform⟩
    obtain ⟨hl, hw, hf, hn⟩ := (splitParts_some _ _ _).1 hp
    have hj := splitAtChar_join ' ' r
    rw [hl] at hj
    refine ⟨⟨r, hstar, hj.1.symm, (uncheckedRest_some l rest r t h).1 hu⟩, hne,
      fun w m => ⟨(hw w m).1, hj.2.2 w (List.mem_append_left _ m), (hw w m).2⟩,
      fun f m => ⟨(hf f m).1, (hf f m).2.1, ?_, (hf f m).2.2⟩, hn, List.all_eq_true.1 hform⟩
    intro q
    exact hj.2.2 (fieldText f) (List.mem_append_right _ (List.mem_map_of_mem m))
      (List.mem_append_right _ (List.mem_cons_of_mem _ q))

/-- R189, tests 4 and 5. -/
theorem readRest_spells (p : Port) (t : Tag) (l rest : List Char) (h : Tagged l t rest) :
    ((¬∃ ws fs, Grammatical l rest ws fs) → (uncheckedRest l rest).bind (readRest p t) = none)
    ∧ ∀ ws fs, Grammatical l rest ws fs →
      (formatOf ws formats = none → (uncheckedRest l rest).bind (readRest p t) = some none)
      ∧ ∀ g w, formatOf ws formats = some (g, w) →
        (uncheckedRest l rest).bind (readRest p t) =
          some (some (g.build { port := p, tag := t, extra := fs.any fun x => (keyForm g x.1).isNone } w fs)) := by
  constructor
  · intro n
    cases e : uncheckedRest l rest with
    | none => rfl
    | some r =>
      show readRest p t r = none
      unfold readRest
      split
      · rfl
      · next hs =>
        split
        · rfl
        · rfl
        · next ws fs hw e' =>
          dsimp only
          split
          · rfl
          · next hform =>
            refine absurd ⟨ws, fs, (grammatical_iff l rest t h ws fs).2 ⟨r, e, hs, e', ?_, ?_⟩⟩ n
            · exact hw
            · simpa using hform
  · intro ws fs hg
    obtain ⟨r, hu, hstar, hp, hne, hform⟩ := (grammatical_iff l rest t h ws fs).1 hg
    have e : (uncheckedRest l rest).bind (readRest p t) = readRest p t r := by rw [hu]; rfl
    rw [e]
    unfold readRest
    rw [if_neg hstar, hp]
    cases ws with
    | nil => exact absurd rfl hne
    | cons v ws =>
      dsimp only
      rw [hform]
      refine ⟨fun k => ?_, fun g w k => ?_⟩
      · rw [k]; rfl
      · rw [k]; rfl

end Sys2Proof.Machine
end

