-- ==== Sys2Proof/Laws/Tick.lean ====
section
/-! SUPPORT. What one cycle of the RC clock and the sense counters can do, for the parts of it in which nothing falls
due. -/

namespace Sys2Proof.Machine

/-- Where no event of a list is due, none takes place. -/
theorem occurDue_none {l : List Due} {s : State} (h : ∀ d ∈ l, d s = none) : occurDue l s = s := by
  induction l with
  | nil => rfl
  | cons d l ih =>
    have hd : occurDue (d :: l) s = occurDue l s := by
      simp only [occurDue, List.foldl_cons, h d (List.mem_cons_self ..)]
    rw [hd, ih fun e he => h e (List.mem_cons_of_mem _ he)]

theorem tick_off {s : State} (h : s.run = .off) : tick s = s := by simp [tick, h]

theorem clockEdge_steady {s : State} (h : s.clock.passing = false) : clockEdge s = s := by simp [clockEdge, h]

theorem senseCycle_outside_charge {s : State} (h : s.tests.feeder.phase ≠ .charge) : senseCycle s = s := by
  unfold senseCycle
  split
  · exact absurd (by assumption) h
  · rfl

/-- The end of a measurement changes the test sequencer, and what it delivers. -/
theorem endMeasurement_frame (s : State) (v : Verdict) (why : Option TestReason) (res : TestResults) :
    endMeasurement s v why res =
      { s with tests := (endMeasurement s v why res).tests, signals := (endMeasurement s v why res).signals } := by
  unfold endMeasurement
  split
  · rfl
  · rfl

theorem feederEnd_frame (s : State) :
    feederEnd s = { s with tests := (feederEnd s).tests, signals := (feederEnd s).signals } := by
  unfold feederEnd
  split
  · rfl
  · split
    · rfl
    · exact endMeasurement_frame ..

/-- An event of a feeder line changes the test sequencer, and what it delivers. -/
theorem feederEvent_frame (s : State) (i : FeederLine) (n : Nat) (f : Nat → FeederCount → FeederCount) :
    feederEvent s i n f =
      { s with tests := (feederEvent s i n f).tests, signals := (feederEvent s i n f).signals } := by
  unfold feederEvent
  split
  · rfl
  · split
    · split
      · rfl
      · rw [feederEnd_frame]
        rfl
    · rfl

end Sys2Proof.Machine
end

