-- ==== Sys2Proof/Laws/Units.lean ====
section
/-! SUPPORT. The timing selector's choice among the sources (R89), and the frames of the loop tester (R163). -/

namespace Sys2Proof.Machine

/-! ## Selection -/

theorem selectable_iff (s : State) (i : Source) : s.timing.selectable i = true ↔ Selectable s i := by
  simp [Timing.selectable, Selectable]

theorem preferredTo_iff (s : State) (i j : Source) : s.timing.preferredTo i j = true ↔ Before s i j := by
  simp [Timing.preferredTo, Before]

/-- No source may be selected. -/
theorem preferred_none (s : State) : s.timing.preferred = none ↔ ∀ i, ¬Selectable s i := by
  have h : (∀ i, ¬Selectable s i) ↔ ∀ i, s.timing.selectable i = false := by
    simp only [← selectable_iff, Bool.not_eq_true]
  rw [h]
  constructor
  · intro e i
    unfold Timing.preferred allSources at e
    cases a : s.timing.selectable .gnss <;> cases b : s.timing.selectable .link
      <;> cases c : s.timing.selectable .aux <;> simp only [List.filter, List.foldl, a, b, c] at e
      <;> first | (cases i <;> assumption) | (revert e; repeat' split) <;> simp
  · intro e
    simp [Timing.preferred, allSources, List.filter, e]

theorem forall_source (P : Source → Prop) : (∀ i, P i) ↔ P .gnss ∧ P .link ∧ P .aux :=
  ⟨fun h => ⟨h _, h _, h _⟩, fun h i => match i with
    | .gnss => h.1
    | .link => h.2.1
    | .aux => h.2.2⟩

/-- The preferred source is the one that stands before every other that may be selected. -/
theorem preferred_some (s : State) (i : Source) : s.timing.preferred = some i ↔ Preferred s i := by
  unfold Preferred
  simp only [← selectable_iff, Before, forall_source]
  unfold Timing.preferred allSources
  by_cases p : s.timing.latch.priority.get .link < s.timing.latch.priority.get .gnss
    <;> by_cases q : s.timing.latch.priority.get .aux < s.timing.latch.priority.get .gnss
    <;> by_cases r : s.timing.latch.priority.get .aux < s.timing.latch.priority.get .link
    <;> cases a : s.timing.selectable .gnss <;> cases b : s.timing.selectable .link
    <;> cases c : s.timing.selectable .aux <;> cases i
    <;> simp [List.filter, Source.index, *] <;> omega

theorem preferred_selectable (t : Timing) (i : Source) (h : t.preferred = some i) : t.selectable i = true := by
  unfold Timing.preferred allSources at h
  cases a : t.selectable .gnss <;> cases b : t.selectable .link <;> cases c : t.selectable .aux
    <;> simp only [List.filter, List.foldl, a, b, c] at h
    <;> cases i <;> first | assumption | (exfalso; revert h; repeat' split) <;> simp

theorem select_selected (t : Timing) (new : Option Source) : (t.select new).selected = new := by
  unfold Timing.select
  split
  · next e => exact e.symm
  · split <;> rfl

theorem lose_keeps (t : Timing) :
    t.lose.sources = t.sources ∧ t.lose.latch = t.latch ∧ t.lose.jumpReq = t.jumpReq := by
  unfold Timing.lose
  split
  · split <;> exact ⟨rfl, rfl, rfl⟩
  · split <;> exact ⟨rfl, rfl, rfl⟩
  · exact ⟨rfl, rfl, rfl⟩

/-- A change of selection leaves the sources' records, the latched settings and the jump request. -/
theorem select_keeps (t : Timing) (new : Option Source) :
    (t.select new).sources = t.sources ∧ (t.select new).latch = t.latch ∧ (t.select new).jumpReq = t.jumpReq := by
  unfold Timing.select
  split
  · exact ⟨rfl, rfl, rfl⟩
  · split
    · exact lose_keeps t
    · exact ⟨rfl, rfl, rfl⟩

/-- What the selection after an event can be: the one before it, the preferred source, or the source that has just
become QUALIFIED. -/
theorem reselect_cases (t : Timing) (became : Option Source) (boundary : Bool) :
    (∃ i, t.selected = some i ∧ t.selectable i = true ∧ (t.reselect became boundary).1 = t)
      ∨ (t.selected = none ∧ (t.reselect became boundary).1 = t)
      ∨ (t.reselect became boundary).1 = t.select t.preferred
      ∨ ∃ j, became = some j ∧ (t.reselect became boundary).1 = t.select (some j) := by
  unfold Timing.reselect
  cases hs : t.selected with
  | none =>
    cases boundary
    · cases became with
      | none => exact .inr (.inl ⟨rfl, rfl⟩)
      | some j => exact .inr (.inr (.inr ⟨j, rfl, rfl⟩))
    · exact .inr (.inr (.inl rfl))
  | some i =>
    cases hq : t.selectable i
    · exact .inr (.inr (.inl (by simp [hq])))
    · dsimp only
      rw [if_neg (by simp [hq])]
      split
      · exact .inr (.inr (.inl rfl))
      · cases became with
        | none => exact .inl ⟨i, rfl, hq, rfl⟩
        | some j =>
          dsimp only
          split
          · exact .inr (.inr (.inr ⟨j, rfl, rfl⟩))
          · exact .inl ⟨i, rfl, hq, rfl⟩

/-- R89: the source that is selected after an event may be selected. -/
theorem reselect_selectable (t : Timing) (became : Option Source) (boundary : Bool)
    (h : ∀ j, became = some j → t.selectable j = true) (i : Source)
    (k : (t.reselect became boundary).1.selected = some i) : t.selectable i = true := by
  rcases reselect_cases t became boundary with ⟨j, hj, hq, e⟩ | ⟨hn, e⟩ | e | ⟨j, hj, e⟩ <;> rw [e] at k
  · rw [hj] at k
    exact Option.some.inj k ▸ hq
  · rw [hn] at k
    cases k
  · rw [select_selected] at k
    exact preferred_selectable t i k
  · rw [select_selected] at k
    exact Option.some.inj k ▸ h j hj

/-! ## Frames of the loop tester -/

@[simp] theorem frameContent_length (k : TestKind) (length seq : Nat) :
    (frameContent k length seq).length = length + 3 := by
  simp [frameContent]

@[simp] theorem frameWire_length (content : List Byte) : (frameWire content).length = content.length + 4 := by
  simp [frameWire]

end Sys2Proof.Machine
end

