-- ==== Sys2Proof/Tests/Slice0.lean ====
section
/-! SUPPORT. Small tests on fixed states: each check of WellFormed refuses a term; single commands do what their rules
say; and for every statement with hypotheses a state and operands that meet them. -/

namespace Sys2Proof.Tests

open Sys2Proof Sys2Proof.Machine

set_option maxRecDepth 100000
set_option Elab.async false

/-! ## Small states and operands -/

def svc : Req := { port := .service, tag := { value := 7, width := 1 }, extra := false }

def mainRq : Req := { port := .main, tag := { value := 12, width := 4 }, extra := false }

/-- A tag of five digits, which no line can spell. -/
def badRq : Req := { port := .main, tag := { value := 12345, width := 5 }, extra := false }

/-- The reset state with the service port at a level. -/
def atLevel (l : AccessLevel) : State := State.reset.onPort .service fun x => { x with access := l }

def site : State := atLevel .site

def after (c : Instr) (s : State) : State :=
  match exec c s with
  | .next t => t
  | _ => s

/-- The last line of a port's transmit queue. -/
def lastLine (s : State) (p : Port) : Option TxLine := (s.port p).txq.getLast?

/-- The words and pairs of the last line, its lead left out. -/
def lastSaid (s : State) : List String × List Pair :=
  match lastLine s .service with
  | none => ([], [])
  | some l => (l.words, l.pairs)

def no (r : Reason) : List String × List Pair := (["NO", r.word], [])

def chars (t : String) : List RxChar := t.toList.map fun c => .code (BitVec.ofNat 8 c.toNat)

def cal0 : LevelCalArgs := { range := none, scale := none, shift := none, offset := none, xover := none, mode := none }
def ind0 : IndicatorArgs := { floor := none, span := none, polarity := none }
def prof0 : ProfileArgs := { enabled := none, cap := none, up := none, down := none, code := none }
def tmpl0 : TemplateArgs := { addr := none, bytes := none, pos := none }
def link0 : LinkSetArgs :=
  { high := none, low := none, fade := none, restore := none, upshift := none, reserve := none, autostart := none }
def xfer0 : XferArgs := { addr := some 58, write := [0x10], read := none, flags := none }
def pulse0 : PulseArgs := { width := none, polarity := none, squelch := none, auxDiv := none }
def src0 : SourceArgs :=
  { enabled := none, priority := none, tol := none, qualify := none, fail := none, stability := none
    allowance := none }
def timing0 : TimingArgs :=
  { jump := none, slew := none, window := none, lockcount := none, holdover := none, drift := none, tdd := none
    revertive := none }
def tenant0 : TenantArgs := { defined := none, floor := none, ceiling := none, weight := none }
def carrier0 : CarrierArgs :=
  { tenant := none, sector := none, duplex := none, cls := none, min := none, permit := none, defined := none }
def test0 : TestArgs :=
  { lines := none, clock := none, discharge := none, reload := none, length := none, count := none, allowed := none
    widthTol := none, offset := none, addr := none, reg := none, read := none, expect := none, mask := none }
def feeder0 : FeederArgs := { expect := none, lo := none, hi := none, openLimit := none }
def cred0 (k : Option Cred) : CredArgs := { level := some (.known .site), tenant := none, cred := k }
def key8 : List Char := ['A', 'B', 'C', 'D', 'E', 'F', 'G', 'H']

/-- Eleven digits: more than a line may carry in a number. -/
def big : Option Int := some 10000000000

/-! ## WellFormed refuses an ill-formed term for each check -/

theorem test_wf_tag_width : WellFormed (.levelRead badRq) = false := by decide
theorem test_wf_tag_value : WellFormed (.stage { svc with tag := { value := 12, width := 1 } }) = false := by decide
theorem test_wf_bus_bytes : WellFormed (.byteStretchTimeout 25 []) = false := by decide
theorem test_wf_bus_data : WellFormed (.byteStretchTimeout 0 (List.replicate 25 0)) = false := by decide
theorem test_wf_complete_ok : WellFormed (.transactionComplete (.ok (List.replicate 25 0))) = false := by decide
theorem test_wf_complete_nak : WellFormed (.transactionComplete (.nak 25)) = false := by decide
theorem test_wf_complete_arb : WellFormed (.transactionComplete (.arbLost 25 [])) = false := by decide
theorem test_wf_complete_arb_data :
    WellFormed (.transactionComplete (.arbLost 0 (List.replicate 25 0))) = false := by decide
theorem test_wf_window : WellFormed (.oscCheckWindowEnd (65536 * 1024)) = false := by decide
theorem test_wf_ticks : WellFormed (.comparatorTrip .f0 4096) = false := by decide
theorem wf_long_content (l : List Byte) (h : 65535 < l.length) : WellFormed (.frameReceived l) = false :=
  decide_eq_false (Nat.not_le.mpr h)
theorem test_wf_content : WellFormed (.frameReceived (List.replicate 65536 0)) = false :=
  wf_long_content _ (by rw [List.length_replicate]; omega)
theorem test_wf_line_feed : WellFormed (.lineComplete .main [.code 0x0A]) = false := by decide
theorem test_wf_not_request : WellFormed (.lineNotRequest .main (.badCheck { value := 1, width := 0 })) = false := by
  decide
theorem test_wf_history : WellFormed (.levelHistory svc big none) = false := by decide
theorem test_wf_cal : WellFormed (.levelCal svc { cal0 with scale := big }) = false := by decide
theorem test_wf_align : WellFormed (.alignStart svc big) = false := by decide
theorem test_wf_indicator : WellFormed (.indicatorSet svc { ind0 with floor := big }) = false := by decide
theorem test_wf_profile : WellFormed (.profileSet svc (some 1) { prof0 with cap := big }) = false := by decide
theorem test_wf_template_bytes :
    WellFormed (.templateSet svc none { tmpl0 with bytes := some (List.replicate 60 0) }) = false := by decide
theorem test_wf_template_addr : WellFormed (.templateSet svc none { tmpl0 with addr := big }) = false := by decide
theorem test_wf_link : WellFormed (.linkSet svc { link0 with high := big }) = false := by decide
theorem test_wf_xfer_bytes : WellFormed (.busXfer svc { xfer0 with write := List.replicate 60 0 }) = false := by
  decide
theorem test_wf_pulse : WellFormed (.pulseSet svc { pulse0 with width := big }) = false := by decide
theorem test_wf_source : WellFormed (.sourceSet svc big src0) = false := by decide
theorem test_wf_timing : WellFormed (.timingSet svc { timing0 with jump := big }) = false := by decide
theorem test_wf_tenant : WellFormed (.tenantSet svc big tenant0) = false := by decide
theorem test_wf_carrier : WellFormed (.carrierDefine svc (some 0) { carrier0 with min := big }) = false := by decide
theorem test_wf_permit :
    WellFormed (.carrierDefine svc (some 0) { carrier0 with permit := some (.line 10000000000) }) = false := by decide
theorem test_wf_index : WellFormed (.profileRead svc big) = false := by decide
theorem test_wf_demand : WellFormed (.carrierRequest svc (some 0) big) = false := by decide
theorem test_wf_test_number : WellFormed (.testAdd svc none { test0 with count := big }) = false := by decide
theorem test_wf_test_bytes : WellFormed (.testAdd svc none { test0 with mask := some (List.replicate 60 0) }) = false := by
  decide
theorem test_wf_feeder : WellFormed (.feederSet svc none { feeder0 with lo := big }) = false := by decide
theorem test_wf_cred : WellFormed (.unlock svc (cred0 (some (.text ['a', '=', 'b'])))) = false := by decide
theorem test_wf_cred_empty : WellFormed (.credSet svc (cred0 (some (.text [])))) = false := by decide
theorem test_wf_count_index : WellFormed (.countRead svc none (some (.num 10000000000))) = false := by decide
theorem test_wf_passes : WellFormed (.busXfer mainRq xfer0) = true := by decide

/-! ## Resets and the queue -/

theorem test_power_on : powerOn State.reset = State.reset := by decide +kernel
theorem test_pin_reset_holds : (after .pinReset site).run = .held := by decide +kernel
theorem test_pin_reset_ends : (after .pinResetEnd (after .pinReset site)).site.cause = .pin := by decide +kernel
theorem test_supply_loss : (after .supplyLoss site).run = .off := by decide +kernel
theorem test_queue_front : (match step { State.reset with pending := [.supplyLoss, .powerOnReset] } with
    | .next t => t.pending
    | _ => []) = [.powerOnReset] := by decide +kernel

/-! ## Lines -/

/-- The text of the RESET notice with its check (section 11.2). -/
theorem test_line_text :
    (resetLine "POWER" true).text = "! SITE RESET cause=POWER *34".toList := by decide +kernel

/-- A line on the service port acts as the request that it spells. -/
theorem test_line_acts : after (.lineComplete .service (chars "7 LEVEL READ")) site = after (.levelRead svc) site := by
  decide +kernel
theorem test_line_unknown : lastSaid (after (.lineComplete .service (chars "7 LEVEL WRITE")) site) = no .noUnknown := by
  decide +kernel
/-- The main port requires a check. -/
theorem test_line_check :
    (lastLine (after (.lineComplete .main (chars "0012 LEVEL READ")) site) .main).map (·.words) = some ["NO", "CHECK"] := by
  decide +kernel
theorem test_not_request : lastSaid (after (.lineNotRequest .service .noTag) site) = no .noSyntax := by decide +kernel
/-- A sent line ends with a carriage return and a line feed (R191). -/
theorem test_serial_out :
    serialOut site .service = "! SITE RESET cause=POWER".toList ++ ['\r', '\n'] := by decide +kernel
/-- A tag that is a value is written as an integer, without the zeros that the reply's lead keeps (R202). -/
theorem test_tag_value :
    (kv "tag" (.tag { value := 42, width := 4 })).val.text = ['4', '2'] ∧ (Lead.tag { value := 42, width := 4 }).text
      = "0042".toList := by decide +kernel
/-- A key foreign to the kind of TEST ADD is none of its form: NO RANGE (R190, R201). -/
theorem test_foreign_kind_key :
    lastSaid (after (.lineComplete .service (chars "7 TEST ADD FEEDER lines=F1 expect=ANY")) site) = no .noRange := by
  decide +kernel
/-- A number of eleven digits is in no form (R201). -/
theorem test_long_number :
    lastSaid (after (.lineComplete .service (chars "7 CARRIER DEFINE 1 permit=12345678901")) site) = no .noSyntax := by
  decide +kernel
theorem test_line_sent : (after (.transmitLineSent .service) site).ports.service.txq = [] := by decide +kernel
theorem test_low_access : lastSaid (after (.levelCal svc cal0) State.reset) = no .noLevel := by decide +kernel
theorem test_foreign_key : lastSaid (after (.stage { svc with extra := true }) site) = no .noRange := by decide +kernel

/-! ## Level monitor -/

def tenth : State := site.onLevel fun v => { v with samples := 9, window := List.replicate 9 (-500) }

theorem test_sample_value : (after (.sample 2048) site).level.last.map (·.value) =
    some (clampLevel ((2048 * Settings.factory.level.coarse.scale / 2 ^ (8 + Settings.factory.level.coarse.shift) : Nat)
      + Settings.factory.level.coarse.offset)) := by decide +kernel
theorem test_sample_report : (after (.sample 2048) tenth).level.history.length = 1 := by decide +kernel
theorem test_level_read : (lastSaid (after (.levelRead svc) site)).1 = ["OK"] := by decide +kernel
theorem test_level_history_range : lastSaid (after (.levelHistory svc (some 32) none) site) = no .noRange := by
  decide +kernel
theorem test_level_cal :
    (after (.levelCal svc { cal0 with range := some (.known .fine), offset := some (-900) }) site).cfg.level.fine.offset
      = -900 := by decide +kernel
theorem test_indicator_set :
    (after (.indicatorSet svc { ind0 with span := some 10 }) site).cfg.level.span = 10 := by decide +kernel

def aligned : State := after (.alignStart svc none) site

theorem test_align_start : aligned.level.align.map (·.owner) = some (.port .service) := by decide +kernel
theorem test_align_stop : (after (.alignStop svc) aligned).level.align = none := by decide +kernel
theorem test_align_mark : (lastSaid (after (.alignMark svc) aligned)).1 = ["OK"] := by decide +kernel
theorem test_align_read : (lastSaid (after (.alignRead svc) aligned)).1 = ["OK"] := by decide +kernel

/-! ## Discrete inputs -/

theorem test_mast_asserts : (after (.mastMovingChange true) site).level.align.map (·.owner) = some .mast := by
  decide +kernel
theorem test_mast_deasserts : (after (.mastMovingChange false) (after (.mastMovingChange true) site)).level.align = none := by
  decide +kernel
theorem test_odu_lock : (after (.oduLockChange true) site).link.lockLevel = true := by decide +kernel
theorem test_svc_asserts : (after .svcConnectAssert site).site.inputs.svcConnect.filtered = true := by decide +kernel
theorem test_svc_deasserts : ((after .svcConnectDeassert (after .svcConnectAssert site)).port .service).access = .opened := by
  decide +kernel
/-- ODU_LOCK is high since the last tick: a pin's change alone puts nothing under test (R174). -/
def pinHigh : State := after (.inputPinChange .oduLock true) site

theorem test_pin_level : pinHigh.site.inputs.oduLock = { pin := true, filtered := false, change := none } := by
  decide +kernel
theorem test_pin_seen : (msTick pinHigh).site.inputs.oduLock.change = some (true, 0) := by decide +kernel
/-- A filter time of 0 is met at the tick that first sees the change. -/
theorem test_pin_unfiltered :
    (msTick (pinHigh.settings fun cfg => { cfg with filters := { cfg.filters with oduLock := 0 } })).link.lockLevel
      = true := by decide +kernel
/-- An excursion between two ticks is not seen. -/
theorem test_pin_returned :
    (msTick (after (.inputPinChange .oduLock false) pinHigh)).site.inputs.oduLock.change = none := by decide +kernel
theorem test_input_set : (after (.inputSet svc (some (.known .oduLock)) (some 100)) site).cfg.filters.oduLock = 100 := by
  decide +kernel
theorem test_input_read : (lastSaid (after (.inputRead svc) site)).1 = [] := by decide +kernel

/-! ## Link supervisor -/

def started : State := after (.linkStart svc) site

/-- The link UP on profile 2, with nothing waiting on the bus. -/
def linkUp : State := site.onLink fun k => { k with state := .up, confirmed := some 2, base := 160, lockLevel := true }

def fading : State := linkUp.onLink fun k => { k with state := .fade, fadeTimer := some 2000 }

def acquiring : State := site.onLink fun k => { k with state := .acquire, lockLevel := true, restoreTimer := some 5000 }

theorem test_link_start : started.link.state = .acquire ∧ started.bus.current.map (·.txn.purpose) = some (some .init) := by
  decide +kernel
theorem test_link_stop : (after (.linkStop svc) linkUp).link.state = .off ∧ (after (.linkStop svc) linkUp).share.base = 0 := by
  decide +kernel
theorem test_fade_timer : (after .fadeTimerExpiry fading).link.state = .lost := by decide +kernel
/-- A failed write of the init sequence is handed back with its bytes, whatever the profile table says by then (R21). -/
theorem test_init_retry :
    let second := after (.transactionComplete (.ok [])) started
    let set := after (.profileSet svc (some 0) { prof0 with code := some 255 }) second
    (set.cfg.profiles.get 0).code = 255
      ∧ (after (.transactionComplete (.nak 0)) set).bus.current.map (fun x => (x.txn.attempt, x.txn.write))
        = some (2, profileBytes second.cfg 0) ∧ profileBytes set.cfg 0 ≠ profileBytes second.cfg 0 := by decide +kernel
theorem test_restore_timer : (after .restoreTimerExpiry acquiring).bus.current.map (·.txn.confirm) = some true := by
  decide +kernel
theorem test_upshift :
    (after .upshiftHoldExpiry (linkUp.onLink fun k => { k with upshiftTimer := some 1 })).link.pending = some 3 := by
  decide +kernel
theorem test_profile_set :
    ((after (.profileSet svc (some 1) { prof0 with cap := some 90 }) site).cfg.profiles.get 1).cap = 90 := by
  decide +kernel
theorem test_template_set :
    (after (.templateSet svc (some (.known .loopOn)) { tmpl0 with addr := some 59 }) site).cfg.templates.loopOn.addr = 59 := by
  decide +kernel
theorem test_link_set : (after (.linkSet svc { link0 with reserve := some 8 }) site).share.reserve = 8 := by
  decide +kernel
theorem test_link_read : (lastSaid (after (.linkRead svc) site)).2 ≠ [] := by decide +kernel
theorem test_profile_read : lastSaid (after (.profileRead svc (some 8)) site) = no .noRange := by decide +kernel
theorem test_template_read : lastSaid (after (.templateRead svc (some .other)) site) = no .noRange := by decide +kernel

/-! ## ODU bus controller -/

def onBus : State := after (.busXfer svc xfer0) site

def onBusOpen : State := onBus.onBus fun b => { b with current := b.current.map fun x => { x with started := true } }

theorem test_bus_xfer : onBus.bus.current.map (·.txn.write) = some [0x10] := by decide +kernel
theorem test_bus_start : (after .busFreeStart onBus).bus = onBusOpen.bus := by decide +kernel
theorem test_bus_free_timeout : (after .busFreeTimeout onBus).counts.busTimeout = 1 := by decide +kernel
theorem test_bus_stretch : (after (.byteStretchTimeout 0 []) onBusOpen).bus.current = none := by decide +kernel
theorem test_bus_ok : (after (.transactionComplete (.ok [])) onBusOpen).counts.busOk = 1 := by decide +kernel
theorem test_bus_nak : (after (.transactionComplete (.nak 1)) onBusOpen).counts.busNak = 1 := by decide +kernel
theorem test_bus_hold :
    (after .holdDeadlineExpiry (site.onBus fun b =>
      { b with hold := some { port := .service, left := 1, phase := .write } })).bus.hold = none := by decide +kernel
theorem test_bus_result : lastSaid (after (.busResult svc (some 10000)) site) = no .noRange := by decide +kernel
/-- With a tag the reply carries the records with that tag alone (R60). -/
theorem test_bus_result_tag :
    (lastSaid (after (.busResult svc (some 7)) site)).2 = []
      ∧ (lastSaid (after (.busResult svc none) site)).2.map (·.key) = ["held"] := by decide +kernel
theorem test_bus_read : (lastSaid (after (.busRead svc) site)).1 = ["OK"] := by decide +kernel

/-! ## Site clock and timing selector -/

def onLo : State :=
  (site.onClock fun k => { k with oscBad := false, grade := .unfit }).onTiming fun t =>
    { t with oscCopy := false, grade := .unfit, linkCopy := .up }

/-- GNSS selected and LOCKED, with a fresh capture 40 ns late. -/
def locked : State :=
  onLo.onTiming fun t =>
    { t with state := .locked, selected := some .gnss
             sources := t.sources.put .gnss
               { t.sources.gnss with state := .qualified, lastOffset := some 40, fresh := some 40, watch := some 1500 } }

def locking (x : Int) : State :=
  locked.onTiming fun t =>
    { t with state := .locking, sources := t.sources.put .gnss { t.sources.gnss with fresh := some x } }

theorem test_second : (after .secondBoundary onLo).clock.sec = 1 := by decide +kernel
theorem test_start_hold :
    (after .startHoldEnd (onLo.onClock fun k => { k with startHold := some 50 })).clock.startHold = none := by
  decide +kernel
theorem test_pulse_end :
    (after .pulseWidthEnd (onLo.onClock fun k => { k with ppsActive := true, pulseLeft := some 0 })).clock.ppsActive
      = false := by decide +kernel
theorem test_steering : (after .steeringPoint locked).clock.steer = some (-40) := by decide +kernel
theorem test_jump_request : (after .steeringPoint (locking 5000)).clock.jump = some (-5000) := by decide +kernel
theorem test_osc_sets : (after (.oscCheckWindowEnd 0) onLo).timing.grade = .oscFail := by decide +kernel
theorem test_osc_clears :
    (after (.oscCheckWindowEnd 1250000) (site.onClock fun k => { k with goodRun := 7 })).clock.oscBad = false := by
  decide +kernel
theorem test_edge : (after (.ppsEdge .gnss .rise 3) onLo).clock.captures.gnss.last = some { sec := 0, ns := 30 } := by
  decide +kernel
theorem test_missing : (after (.missing .gnss) locked).counts.srcMissing.gnss = 1 := by decide +kernel
theorem test_pulse_set : (after (.pulseSet svc { pulse0 with width := some 20 }) site).cfg.pulse.width = 20 := by
  decide +kernel
theorem test_source_set : (after (.sourceSet svc (some 0) { src0 with enabled := some false }) site).timing.sources.gnss.state
    = .off := by decide +kernel
theorem test_timing_set : (after (.timingSet svc { timing0 with slew := some 100 }) site).cfg.timing.slew = 100 := by
  decide +kernel
theorem test_time_read : (lastSaid (after (.timeRead svc) site)).2 ≠ [] := by decide +kernel
theorem test_capture_read : lastSaid (after (.captureRead svc (some 3)) site) = no .noRange := by decide +kernel
theorem test_source_read : lastSaid (after (.sourceRead svc (some 3)) site) = no .noRange := by decide +kernel
theorem test_timing_read : (lastSaid (after (.timingRead svc) site)).2 ≠ [] := by decide +kernel

/-! ## Share engine -/

def tenantArgs : TenantArgs := { tenant0 with defined := some true, floor := some 5 }

def tenanted : State := site.settings fun cfg =>
  { cfg with tenants := cfg.tenants.set 1 ((cfg.tenants.get 1).with tenantArgs) }

def carrierArgs : CarrierArgs := { carrier0 with tenant := some 1, min := some 2, permit := some (.line 3) }

def carrierDef : CarrierDef := { tenant := 1, sector := 0, duplex := .fdd, cls := 3, min := 2, permit := some 3 }

def definedSite : State := tenanted.settings fun cfg => { cfg with carriers := cfg.carriers.set 4 (some carrierDef) }

/-- LIVE with base 12 and a good timing grade. -/
def liveSite : State :=
  let s := definedSite.onSite fun x => { x with phase := .live }
  { s with share := { s.share with phase := .live, base := 12, grade := .tddOk } }

def withCarrier (c : Carrier) (permit : Bool) : State :=
  { liveSite with share := { liveSite.share with
      carriers := liveSite.share.carriers.set 4 c, orders := 1, permits := liveSite.share.permits.set 3 permit } }

def onAirSite : State := withCarrier { Carrier.idle with state := .active, demand := 6, grant := 6, order := some 1 } true

def heldSite : State :=
  withCarrier { Carrier.idle with state := .held, demand := 6, order := some 1, hold := some (.ms 1) } false

def waitingSite : State :=
  withCarrier { Carrier.idle with state := .waiting, demand := 6, order := some 1, restore := some 1
                                  reason := some .restore } false

theorem test_tenant_set : ((after (.tenantSet svc (some 1) tenantArgs) site).cfg.tenants.get 1).floor = 5 := by
  decide +kernel
theorem test_carrier_define : (after (.carrierDefine svc (some 4) carrierArgs) tenanted).cfg.carriers.get 4 = some carrierDef := by
  decide +kernel
theorem test_carrier_undefine :
    (after (.carrierDefine svc (some 4) { carrier0 with defined := some false }) definedSite).cfg.carriers.get 4 = none := by
  decide +kernel
theorem test_carrier_request :
    (after (.carrierRequest svc (some 4) (some 6)) liveSite).share.permits.get 3 = true := by decide +kernel
theorem test_carrier_staging : ((after (.carrierRequest svc (some 4) (some 6)) definedSite).share.carriers.get 4).reason
    = some .phase := by decide +kernel
theorem test_carrier_hold : (after (.carrierHold svc (some 4) (some 1000)) onAirSite).share.permits.get 3 = false := by
  decide +kernel
theorem test_carrier_release : (after (.carrierRelease svc (some 4)) onAirSite).share.carriers.get 4 = .idle := by
  decide +kernel
/-- A HOLD that only begins its timer anew changes no result: no SHARE notice (R131). -/
theorem test_hold_again :
    let once := after (.carrierHold svc (some 4) (some 1000)) onAirSite
    let shares (s : State) : Nat := (s.ports.main.txq.filter fun l => l.words == ["SHARE", "SHARE"]).length
    shares once = 1 ∧ shares (after (.carrierHold svc (some 4) (some 1000)) once) = 1 := by decide +kernel
/-- The replies hold the records as they stand, the results of the reshare among them (R108, R110). -/
theorem test_records_reply :
    let keys (s : State) : List String := s.ports.service.txq.flatMap fun l => l.pairs.map (·.key)
    "grant" ∈ keys (after (.carrierDefine svc (some 4) carrierArgs) tenanted)
      ∧ "granted" ∈ keys (after (.tenantSet svc (some 1) tenantArgs) site) := by decide +kernel
theorem test_hold_end : ((after (.holdTimerExpiry 4) heldSite).share.carriers.get 4).state = .active := by decide +kernel
theorem test_restore_end : ((after (.carrierRestoreExpiry 4) waitingSite).share.carriers.get 4).state = .active := by
  decide +kernel
theorem test_share_set : (after (.shareSet svc none (some 0)) site).cfg.restoreHold = 0 := by decide +kernel
theorem test_tenant_read : lastSaid (after (.tenantRead svc (some 4)) site) = no .noRange := by decide +kernel
theorem test_carrier_read : lastSaid (after (.carrierRead svc (some 16)) site) = no .noRange := by decide +kernel
theorem test_share_read : (lastSaid (after (.shareRead svc) site)).2 ≠ [] := by decide +kernel

/-! ## Test sequencer -/

def feederArgs : TestArgs := { test0 with lines := some [.known .f1, .known .f2] }

/-- A FEEDER test on F1 and F2 in DISCHARGE. -/
def feeding : State := after (.testAdd svc (some (.known .feeder)) feederArgs) onLo

def charging : State := after .dischargeTimerExpiry feeding

def probeArgs : TestArgs := { test0 with addr := some 58, expect := some [0x01] }

def farRec : TestRec :=
  { number := 9, kind := .loopFar, owner := .service, params := .loopFar 64 2 0, state := .deferred, pending := none
    reason := none, loopOffFailed := false, results := none, start := some 0, finish := none }

def deferred : State :=
  let s := site.onTests fun t => { t with current := some farRec, deferTimer := some 1 }
  { s with share := { s.share with borrow := .waiting 2 9 } }

/-- A LOOP_FAR test whose tester has sent no frame yet. -/
def looping : State :=
  startTester (site.onTests fun t => { t with current := some { farRec with state := .running } })

def frameOut : State := after .frameSent looping

def pulseRec : TestRec := { farRec with kind := .pulse, params := .pulse 2 1 1000, state := .running }

def pulsing : State := beginMeasurement (site.onTests fun t => { t with current := some pulseRec }) pulseRec

theorem test_test_add : feeding.tests.feeder.phase = .discharge ∧ feeding.tests.feeder.opened.f1 = true := by
  decide +kernel
theorem test_discharge : charging.tests.feeder.lines.f1.state = some .counting := by decide +kernel
theorem test_trip : (after (.comparatorTrip .f1 300) charging).tests.feeder.lines.f1.state = some (.tripped 300) := by
  decide +kernel
theorem test_overflow : (after (.feederCounterOverflow .f2) (after (.comparatorTrip .f1 300) charging)).tests.log.map (·.state)
    = [.fail] := by decide +kernel
theorem test_cancel : (after (.testCancel svc (some 1)) feeding).tests.log.map (·.state) = [.aborted] := by
  decide +kernel
theorem test_defer : (after .deferTimerExpiry deferred).tests.log.map (·.reason) = [some .capacity] := by decide +kernel
theorem test_frame_sent : frameOut.tests.tester.sent = 1 := by decide +kernel
theorem test_frame_ok : (after (.frameReceived (frameContent .loopFar 64 0)) frameOut).tests.tester.ok = 1 := by
  decide +kernel
theorem test_frame_lost : (after .returnTimerExpiry frameOut).tests.tester.lost = 1 := by decide +kernel
theorem test_edge_watch : (after .edgeWatchExpiry pulsing).tests.log.map (·.reason) = [some .noPulse] := by
  decide +kernel
theorem test_test_read : lastSaid (after (.testRead svc (some 5)) site) = no .noState := by decide +kernel
theorem test_result_read : lastSaid (after (.resultRead svc (some 5)) site) = no .noState := by decide +kernel
theorem test_accept_set : (after (.acceptSet svc (some [.known .probe])) site).cfg.acceptMask = [.probe] := by
  decide +kernel
theorem test_accept_read : (lastSaid (after (.acceptRead svc) site)).1 = ["OK"] := by decide +kernel
theorem test_feeder_set :
    (after (.feederSet svc (some (.known .f3)) { feeder0 with lo := some 5 }) site).cfg.feeders.f3.lo = 5 := by
  decide +kernel
theorem test_feeder_read : lastSaid (after (.feederRead svc (some .other)) site) = no .noRange := by decide +kernel

/-! ## Site supervisor -/

/-- The link UP and the oscillator good: fit to go live when forced. -/
def fit : State :=
  { onLo with link := { onLo.link with state := .up, confirmed := some 2, base := 160, lockLevel := true } }

theorem test_go_live : (after (.goLive svc true) fit).share.phase = .live := by decide +kernel
theorem test_go_live_unproven : lastSaid (after (.goLive svc false) fit) = no .noPhase := by decide +kernel
theorem test_stage : (after (.stage svc) onAirSite).share.permits.get 3 = false := by decide +kernel
theorem test_quiet_half : (after .quietHalf site).site.halfSent = true := by decide +kernel
theorem test_quiet_expired : (after .quietExpired liveSite).site.phase = .autonomous := by decide +kernel
theorem test_quiet_set : (after (.quietSet svc (some 0)) site).cfg.quiet = 0 := by decide +kernel
theorem test_restart : (after (.restart svc) site).site.restart.map (·.lines) = some 2 := by decide +kernel
theorem test_restart_takes_place :
    (after .restartTakesPlace (after (.restart svc) fit)).site.cause = .restart := by decide +kernel
theorem test_site_read : (lastSaid (after (.siteRead svc) site)).2 ≠ [] := by decide +kernel

/-! ## Ports -/

theorem test_unlock : ((after (.unlock svc (cred0 (some (.text key8)))) (after .svcConnectAssert State.reset)).port .service).access
    = .site := by decide +kernel
theorem test_unlock_fails : lastSaid (after (.unlock svc (cred0 (some (.text key8)))) State.reset) = no .noLevel := by
  decide +kernel
theorem test_lock : ((after (.lock svc) site).port .service).access = .opened := by decide +kernel
theorem test_cred_set : (after (.credSet svc (cred0 (some (.text key8)))) site).cfg.siteCred = some key8 := by
  decide +kernel
theorem test_access_set : (after (.accessSet svc (some (.known .bus)) (some (.known .opened))) site).cfg.minima.bus = .opened := by
  decide +kernel
theorem test_check_set : (after (.checkSet svc (some (.known .required))) site).cfg.ports.service.check = .required := by
  decide +kernel
theorem test_notice_set : (after (.noticeSet svc (some [.known .site])) site).cfg.ports.service.mask = [.site] := by
  decide +kernel
theorem test_summary : (after (.summary svc) site).ports.service.spacingTimer = some 1000 := by decide +kernel
theorem test_summary_set : (after (.summarySet svc (some 0) none) site).ports.service.intervalTimer = none := by
  decide +kernel
theorem test_interval : (after (.intervalTimerExpiry .service) site).ports.service.spacingTimer = some 1000 := by
  decide +kernel
theorem test_spacing :
    (after (.spacingTimerExpiry .service) (site.onPort .service fun x => { x with spacingTimer := some 1 })).ports.service.spacingTimer
      = none := by decide +kernel
theorem test_lockout :
    (after (.lockoutTimerExpiry .service) (site.onPort .service fun x =>
      { x with lockout := some 1, mismatches := 3 })).ports.service.mismatches = 0 := by decide +kernel
theorem test_count_read : (lastSaid (after (.countRead svc (some (.known .reshares)) none) site)).1 = ["OK"] := by
  decide +kernel
theorem test_count_clear : (after (.countClear svc none none) site).counts.reshares = 0 := by decide +kernel

/-- An interval and a spacing that end in one ms: one summary is sent, which restarts the interval. -/
def bothTimers : State := State.reset.onPort .service fun x =>
  { x with intervalTimer := some 1, spacingTimer := some 1, changePending := true, txq := [] }

theorem test_tick_one_summary :
    (msTick bothTimers).ports.service.txq.length
        = (noticeLines State.reset .service ["PORT", "SUMMARY"] (State.reset.port .service).summary.pairs).length
      ∧ (msTick bothTimers).ports.service.intervalTimer = some 10000 := by decide +kernel

/-- ODU_LOCK stands at the other level for its 10 ms. -/
theorem test_tick_filter :
    (msTick (State.reset.setInput .oduLock { pin := true, filtered := false, change := some (true, 9) })).link.lockLevel
      = true := by decide +kernel

/-! ## Settings store -/

def saving : State := after (.save svc) site

def saved : State := after (.saveWriteEnd true) saving

theorem test_save : saving.store.writing.map (·.number) = some 1 := by decide +kernel
theorem test_save_end : saved.store.image.good = true ∧ saved.store.blank = false := by decide +kernel
theorem test_load : (lastSaid (after (.load svc) saved)).1 = ["OK"] := by decide +kernel
theorem test_store_read : (lastSaid (after (.storeRead svc) saved)).1 = ["OK"] := by decide +kernel

/-! ## Witnesses: for every statement with hypotheses, states and operands that meet them, clause by clause -/

def executesSvc (s : State) (n : Need) : Bool :=
  decide (s.run = .running) && canTake s .service && n.met (portLine s .service) .service

theorem executes_svc {s : State} {n : Need} (h : executesSvc s n = true) : Executes s svc n := by
  simp only [executesSvc, Bool.and_eq_true, decide_eq_true_eq] at h
  exact ⟨⟨h.1.1, h.1.2⟩, rfl, h.2⟩

theorem site_executes (g : Group) : Executes site svc (.group g) :=
  executes_svc (by cases g <;> decide +kernel)

theorem site_takes : Takes site svc := (site_executes .view).1

/-- The state in which the service port judges its line. -/
abbrev lined (s : State) : State := portLine s .service

/-- The service port is OPEN and VIEW asks for more. -/
def shut : State := State.reset.settings fun cfg => { cfg with minima := cfg.minima.put .view .site }

def off : State := after .supplyLoss site

def heldReset : State := after .pinReset site

def lowReset : State := State.reset.setInput .resetN { pin := false, filtered := true, change := none }

def mast : State := after (.mastMovingChange true) site

theorem witness_StepTakesFrontCommand : { site with pending := [.lock svc] }.pending = .lock svc :: [] := rfl

/-- `site` with its millisecond accumulator at `ms`. -/
def msAt (s : State) (ms : Nat) : State := { s with rc := { s.rc with ms := ms } }

theorem witness_EmptyQueueRunsOneClockCycle :
    site.pending = [] ∧ site.run = .running ∧ off.pending = [] ∧ off.run = .off
      ∧ heldReset.run = .held ∧ heldReset.rc.ms < 31768 ∧ 31768 ≤ (msAt heldReset 31768).rc.ms
      ∧ ((after (.inputPinChange .resetN false) heldReset).site.inputs.resetN.pin = false)
      ∧ site.clock.ns ≤ 999999990 ∧ site.clock.passing = false ∧ site.clock.ahead < 1000000000
      ∧ site.clock.oscBad = true ∧ site.clock.rcCycle < 32767 ∧ site.clock.pulseLeft = none ∧ site.clock.windowRc < 4095
      ∧ (site.clock.rcCycle + 1) * 1000000000 / 32768 / 10 * 10 < 600000000
      ∧ site.tests.feeder.phase ≠ .charge ∧ site.site.restart = none ∧ site.rc.ms < 31768
      ∧ 31768 ≤ (msAt site 32767).rc.ms ∧ (site.onClock fun k => { k with windowRc := 4095 }).clock.windowRc = 4095
      ∧ (tickDue.all fun d => (d (quietTick (lowerInputs (lowerTimers site)))).isNone) = true := by decide +kernel

/-- On the RC clock at cycle `n` of the second, `units` already passed, a pulse of `left` units under way. -/
def rcAt (n units left : Nat) : State := site.onClock fun k =>
  { k with rcCycle := n, ns := n * 1000000000 / 32768 / 10 * 10, ahead := units, ppsActive := true
           pulseLeft := some left }

/-- A cycle in which a pulse ends, one with the steering point, one with the boundary, and one whose time has passed
already. -/
theorem witness_EmptyQueueRunsOneClockCycle_due :
    (rcAt 5 0 1000000000).clock.pulseLeft = some (0 + 1000000000) ∧ (rcAt 5 0 1000000001).clock.rcCycle < 32767
      ∧ (rcAt 19660 0 9).clock.ns < 600000000 ∧ 600000000 ≤ 19661 * 1000000000 / 32768 / 10 * 10
      ∧ (rcAt 32767 999999999 9).clock.ns ≤ 999999990 ∧ (rcAt 32767 999999999 9).clock.ahead < 1000000000
      ∧ (rcAt 32767 1000000000 9).clock.ahead = 1000000000 ∧ onLo.clock.oscBad = false ∧ onLo.clock.ns ≤ 999999990 := by
  decide +kernel

theorem test_cycle_due :
    (tick (rcAt 5 0 1000000000)).clock.ppsActive = false ∧ (tick (rcAt 5 0 1000000001)).clock.pulseLeft = some 1
      ∧ (tick (rcAt 32767 0 2000000000)).clock.sec = 1 ∧ (tick (rcAt 32767 1000000000 2000000000)).clock.sec = 0
      ∧ (tick (rcAt 32767 1000000000 2000000000)).clock.ahead = 0 := by decide +kernel

theorem witness_StepKeepsQueuesBounded :
    QueuesBounded { site with pending := [.lock svc] } ∧ ∃ t, step { site with pending := [.lock svc] } = .next t :=
  ⟨fun p => by cases p <;> decide +kernel, after (.lock svc) site, rfl⟩

theorem permits_onAir : PermitsAgree { onAirSite with pending := [.stage svc] } := by
  intro l
  constructor
  · intro h
    have hl : ∀ l, onAirSite.share.permits.get l = true → l = 3 := by decide +kernel
    cases hl l h
    exact ⟨4, carrierDef, rfl, rfl, .inl rfl⟩
  · rintro ⟨c, d, hd, hl, -⟩
    have hc : ∀ c, onAirSite.cfg.carriers.get c ≠ none → c = 4 := by decide +kernel
    have h4 : onAirSite.cfg.carriers.get 4 = some carrierDef := by decide +kernel
    cases hc c (by intro h; rw [h] at hd; cases hd)
    have hd' : d = carrierDef := Option.some.inj (hd.symm.trans h4)
    subst hd'
    cases hl
    decide +kernel

theorem witness_StepKeepsPermitsAgree :
    PermitsAgree { onAirSite with pending := [.stage svc] }
      ∧ ∃ t, step { onAirSite with pending := [.stage svc] } = .next t :=
  ⟨permits_onAir, after (.stage svc) onAirSite, rfl⟩

/-- A selected timing source that is QUALIFIED and not under test. -/
theorem witness_BaseIsLeastCapacity_selection :
    SelectionQualified { locked with pending := [.missing .gnss] }
      ∧ ∃ t, step { locked with pending := [.missing .gnss] } = .next t := by
  refine ⟨fun i h => ?_, after (.missing .gnss) locked, rfl⟩
  have e : locked.timing.selected = some .gnss := by decide +kernel
  cases Option.some.inj (h.symm.trans e)
  exact ⟨by decide +kernel, by decide +kernel⟩

/-- `onAirSite` keeps sound records. -/
theorem shares_onAir : SharesSound { onAirSite with pending := [.stage svc] } where
  onAir c d hd _ := by
    have h : ∀ c : Fin 16, ∀ d ∈ onAirSite.cfg.carriers.get c,
        d.min ≤ (onAirSite.share.carriers.get c).grant
          ∧ (onAirSite.share.carriers.get c).grant ≤ (onAirSite.share.carriers.get c).demand := by decide +kernel
    exact h c d hd
  offAir c hc := by
    have h : ∀ c : Fin 16, c ≠ 4 → (onAirSite.share.carriers.get c).grant = 0 := by decide +kernel
    exact h c fun e => hc (by subst e; exact .inl rfl)
  demand c d hd _ := by
    have h : ∀ c : Fin 16, ∀ d ∈ onAirSite.cfg.carriers.get c, d.min ≤ (onAirSite.share.carriers.get c).demand := by
      decide +kernel
    exact h c d hd
  undefined c hc := by
    have h : ∀ c : Fin 16, onAirSite.cfg.carriers.get c = none → onAirSite.share.carriers.get c = .idle := by
      decide +kernel
    exact h c hc
  pool := by decide +kernel

theorem witness_ResharePermitsAgree :
    SharesSound { onAirSite with pending := [.stage svc] }
      ∧ (∃ t, step { onAirSite with pending := [.stage svc] } = .next t)
      ∧ (∀ k : Fin 4, (onAirSite.cfg.tenants.get k).floor ≤ (onAirSite.cfg.tenants.get k).ceiling) :=
  ⟨shares_onAir, ⟨after (.stage svc) onAirSite, rfl⟩, by decide +kernel⟩

theorem witness_PowerOnResets :
    State.reset.site.inputs.resetN.pin = true ∧ lowReset.site.inputs.resetN.pin = false := ⟨rfl, rfl⟩

theorem witness_PinResetEndResets : heldReset.run = .held := by decide +kernel

theorem witness_PinResetHoldsPart : site.run = .running := rfl

theorem witness_SupplyLossStopsPart : Instr.lock svc ≠ .powerOnReset := by decide

def restartNow : State := after (.restart svc) fit

/-- A RESTART pending with a good image in which the link starts by itself, under an asserted MAST_MOVING. -/
def restartAuto : State :=
  let s := restartNow.setInput .mastMoving { pin := true, filtered := true, change := none }
  let cfg := { s.cfg with link := { s.cfg.link with autostart := true } }
  { s with store := { s.store with image := { settings := cfg, number := 1, good := true } } }

theorem witness_RestartKeepsTiming :
    restartNow.run = .running ∧ restartNow.site.restart.isSome = true
      ∧ restartNow.site.inputs.mastMoving.filtered = false ∧ (restartSettings restartNow).link.autostart = false
      ∧ restartAuto.run = .running ∧ restartAuto.site.restart.isSome = true
      ∧ restartAuto.site.inputs.mastMoving.filtered = true
      ∧ (restartSettings restartAuto).link.autostart = true := by decide +kernel

/-- A RESTART ends diversion with the AUX capture record cleared, and keeps the rest of the clock (R68). -/
theorem test_restart_clock :
    let s := restartNow.onClock fun k => { k with divert := some 9, auxCount := 1, goodRun := 5 }
    (after .restartTakesPlace s).clock.divert = none ∧ (after .restartTakesPlace s).clock.goodRun = 5 := by
  decide +kernel

/-- The tenth sample, of raw value 0 in COARSE, forms the report; nine samples of value `v` stand in the window. -/
def reporting (s : State) (v : Int) : State :=
  s.onLevel fun x => { x with samples := 9, window := List.replicate 9 v }

/-- The smoothed level that the tenth sample forms. -/
def levelOf (s : State) : Int := (keepLast 10 (s.level.window ++ [-1100])).sum / 10

def onProfile (c : Fin 8) : State := linkUp.onLink fun k => { k with confirmed := some c }

def awaiting : State := acquiring.onLink fun k => { k with restoreTimer := none }

theorem witness_SampleCalibrates :
    site.run = .running ∧ (site.level.samples + 1) % 10 ≠ 0 ∧ (tenth.level.samples + 1) % 10 = 0
      ∧ tenth.level.align = none ∧ (reporting aligned 0).level.align.isSome = true ∧ tenth.link.state = .off
      ∧ (reporting linkUp 0).link.state = .up
      ∧ levelOf (reporting linkUp (-1200)) < linkUp.cfg.link.low ∧ currentTarget linkUp.link = 2
      ∧ currentTarget (onProfile 0).link = 0
      ∧ linkUp.cfg.link.low ≤ levelOf (reporting linkUp (-789))
      ∧ levelOf (reporting linkUp (-789)) < (linkUp.cfg.profiles.get 2).down
      ∧ downTarget linkUp.cfg 2 (levelOf (reporting linkUp (-789))) = 0
      ∧ downTarget linkUp.cfg 3 (levelOf (reporting linkUp (-655))) = 2
      ∧ (linkUp.cfg.profiles.get 2).down ≤ levelOf (reporting linkUp (-655))
      ∧ levelOf (reporting linkUp (-655)) < (linkUp.cfg.profiles.get 3).up
      ∧ (linkUp.cfg.profiles.get 3).up ≤ levelOf (reporting linkUp 0)
      ∧ fading.link.state = .fade ∧ fading.cfg.link.high ≤ levelOf (reporting fading 0)
      ∧ levelOf (reporting fading (-789)) < fading.cfg.link.high
      ∧ awaiting.link.state = .acquire ∧ awaiting.link.lockLevel = true ∧ awaiting.link.restoreTimer = none
      ∧ confirmationWaits awaiting = false ∧ acquiring.link.restoreTimer.isSome = true
      ∧ (awaiting.onLink fun k => { k with state := .lost, lockLevel := false }).link.lockLevel = false := by
  decide +kernel

theorem witness_LevelReadsReply :
    Takes site svc ∧ inGroup (lined site) .service .view = true ∧ inRange 0 31 (some 31) = true
      ∧ inRange 1 12 (some 12) = true ∧ inRange 0 31 (some 32) = false ∧ inRange 1 12 (some 13) = false
      ∧ Takes shut svc ∧ inGroup (lined shut) .service .view = false :=
  ⟨site_takes, by decide +kernel, rfl, rfl, rfl, rfl, ⟨rfl, by decide +kernel⟩, by decide +kernel⟩

theorem witness_LevelSettingsSet :
    Executes site svc (.group .linkCfg)
      ∧ (let a : LevelCalArgs := { cal0 with range := some (.known .fine), scale := some 65535, shift := some 7
                                             offset := some (-32768) }
         calFields a = true ∧ rangeFields a = false ∧ calFieldsOk a = true)
      ∧ (let a : LevelCalArgs := { cal0 with xover := some 4095, mode := some (.known .forceFine) }
         a.range = none ∧ calFields a = false ∧ rangeFields a = true ∧ inRange 0 4095 a.xover = true
           ∧ nameOk a.mode = true)
      ∧ (let a : IndicatorArgs := { floor := some (-1200), span := some 600, polarity := some (.known .inverted) }
         inRange (-1200) 0 a.floor = true ∧ inRange 10 600 a.span = true ∧ nameOk a.polarity = true) :=
  ⟨site_executes _, by decide, by decide, by decide⟩

def mastAfter : State :=
  aligned.onLevel fun v => { v with align := v.align.map fun a => { a with mastFlag := true } }

/-- The alignment record stands with the main port. -/
def otherAligned : State :=
  aligned.onLevel fun v => { v with align := v.align.map fun a => { a with owner := .port .main } }

theorem witness_AlignmentRequests :
    Executes site svc (.group .align) ∧ inRange 1 50 (some 50) = true ∧ (lined site).site.phase = .staging
      ∧ (lined site).level.align = none ∧ Executes aligned svc (.group .align)
      ∧ (lined aligned).level.align.map (fun a => (a.owner, a.mastFlag)) = some (.port .service, false)
      ∧ Executes mastAfter svc (.group .align)
      ∧ (lined mastAfter).level.align.map (fun a => (a.owner, a.mastFlag)) = some (.port .service, true)
      ∧ Executes mast svc (.group .align) ∧ (lined mast).level.align.map (·.owner) = some .mast
      ∧ Executes otherAligned svc (.group .align)
      ∧ (lined otherAligned).level.align.map (·.owner) = some (.port .main)
      ∧ Executes liveSite svc (.group .align) ∧ (lined liveSite).site.phase ≠ .staging :=
  ⟨site_executes _, rfl, by decide +kernel, by decide +kernel, executes_svc (by decide +kernel), by decide +kernel,
    executes_svc (by decide +kernel), by decide +kernel, executes_svc (by decide +kernel), by decide +kernel,
    executes_svc (by decide +kernel), by decide +kernel, executes_svc (by decide +kernel), by decide +kernel⟩

def linkTest : State := site.onLink fun k => { k with state := .test }

theorem witness_LinkStartsAndStops :
    Executes site svc (.group .linkCfg) ∧ (lined site).link.state = .off ∧ (lined site).link.discardInit = false
      ∧ (lined site).bus.internalSlot = none ∧ Executes linkUp svc (.group .linkCfg)
      ∧ (lined linkUp).link.state = .up ∧ Executes linkTest svc (.group .linkCfg)
      ∧ (lined linkTest).link.state = .test :=
  ⟨site_executes _, by decide +kernel, by decide +kernel, by decide +kernel, executes_svc (by decide +kernel),
    by decide +kernel, executes_svc (by decide +kernel), by decide +kernel⟩

theorem witness_LinkSettingsSet :
    Executes site svc (.group .linkCfg) ∧ (lined site).link.state = .off
      ∧ (let a : ProfileArgs := { prof0 with cap := some 100, up := some (-721), down := some (-1200), code := some 255 }
         profileArgsOk 1 a = true
           ∧ tableOk ((lined site).cfg.profiles.set 1 (((lined site).cfg.profiles.get 1).with a)) = true)
      ∧ (let a : TemplateArgs := { tmpl0 with addr := some 127 }
         templateOk .loopOn a (((lined site).cfg.templates.get .loopOn).with a) = true)
      ∧ (let a : LinkSetArgs := { link0 with high := some 0, low := some (-1200), reserve := some 63 }
         linkArgsOk a = true ∧ ((lined site).cfg.link.with a).low < ((lined site).cfg.link.with a).high
           ∧ ((lined site).cfg.link.with a).reserve ≠ (lined site).cfg.link.reserve)
      ∧ (let a : LinkSetArgs := { link0 with restore := some 60 }
         linkArgsOk a = true ∧ ((lined site).cfg.link.with a).reserve = (lined site).cfg.link.reserve) :=
  ⟨site_executes _, by decide +kernel, by decide +kernel, by decide +kernel, by decide +kernel, by decide +kernel⟩

theorem witness_FadeTimerEndsInLost :
    fading.run = .running ∧ fading.link.state = .fade ∧ fading.link.fadeTimer.isSome = true := by decide +kernel

/-- A write of the init sequence has just ended. -/
def initEnding (second : Bool) (attempt : Nat) (due : Bool) : State :=
  acquiring.onLink fun k => { k with
    init := some { second := second, attempt := attempt, place := .offered, formed := some (58, [0x20, 0x00]) }
    restoreDue := due }

def initEnd (st : BusStatus) : Txn := { linkTxn .init none 1 false 58 [0x20, 0x00] with status := some st }

/-- The completion of the profile write to `p`. -/
def profileEnd (p : Fin 8) (confirm : Bool) (attempt : Nat) (st : BusStatus) : Txn :=
  { profileWrite site.cfg p confirm with attempt := attempt, status := some st }

def confirming : State := acquiring.onLink fun k => { k with restoreTimer := none, unbroken := true, pending := some 0 }

def newerWaits : State := linkUp.onBus fun b => { b with profileSlot := some (profileWrite site.cfg 0 false) }

theorem witness_LinkTimersIssueWrites :
    acquiring.run = .running ∧ acquiring.link.restoreTimer.isSome = true ∧ acquiring.link.init = none
      ∧ started.link.init.isSome = true
      ∧ (started.onLink fun k => { k with restoreTimer := some 1 }).link.restoreTimer.isSome = true
      ∧ linkUp.link.pending = none ∧ upCandidate linkUp.cfg linkUp.link = some 3
      ∧ (linkUp.onLink fun k => { k with upshiftTimer := some 1 }).link.upshiftTimer.isSome = true
      ∧ (initEnd .nak).purpose = some .init ∧ (initEnd .nak).status ≠ some .ok ∧ (initEnd .ok).status = some .ok
      ∧ ((initEnding false 2 false).link.init.map fun w => (w.second, w.attempt, w.formed.isSome)) = some (false, 2, true)
      ∧ ((initEnding true 3 true).link.init.map fun w => (w.second, w.attempt)) = some (true, 3)
      ∧ (initEnding true 3 true).link.discardInit = false ∧ (initEnding true 3 true).bus.internalSlot = none
      ∧ (initEnding true 3 true).link.restoreDue = true ∧ (initEnding true 3 false).link.restoreDue = false
      ∧ (profileEnd 3 false 2 .nak).purpose = some .profile ∧ linkUp.link.discardProfile = false
      ∧ (profileEnd 3 false 2 .nak).target = some 3 ∧ (profileEnd 0 true 1 .ok).confirm = true
      ∧ confirming.link.unbroken = true ∧ confirming.link.state = .acquire
      ∧ (confirming.onLink fun k => { k with unbroken := false }).link.unbroken = false
      ∧ newerWaits.bus.profileSlot.isSome = true ∧ linkUp.bus.profileSlot = none
      ∧ (profileEnd 3 false 2 .nak).attempt < 3 ∧ 3 ≤ (profileEnd 3 false 3 .nak).attempt := by
  decide +kernel

theorem witness_BaseIsLeastCapacity :
    site.link.state = .off ∧ site.link.confirmed = none ∧ linkUp.link.state = .up ∧ linkUp.link.confirmed = some 2
      ∧ (linkUp.onLink fun k => { k with pending := some 0, guard := some 7 }).link.guard = some 7
      ∧ BaseAgrees { linkUp with pending := [.linkStop svc] }
      ∧ ∃ t, step { linkUp with pending := [.linkStop svc] } = .next t :=
  ⟨by decide +kernel, by decide +kernel, by decide +kernel, by decide +kernel, by decide +kernel,
    by unfold BaseAgrees; decide +kernel, after (.linkStop svc) linkUp, rfl⟩

def claimed : State :=
  { site with
    tests := { site.tests with current := some { farRec with state := .running } }
    link := { site.link with claim := some 9 } }

def svcIn : State := after .svcConnectAssert site

def lockHigh : State := after (.oduLockChange true) linkUp

/-- A port's alignment with MAST_MOVING asserted after it began. -/
def mastLater : State := after (.mastMovingChange true) aligned

def mastAlone : State := mast.onLevel fun v => { v with align := none }

def lockedIn (st : LinkState) : State := lockHigh.onLink fun k => { k with state := st }

/-- The service port is connected and owns the alignment record. -/
def svcAligned : State := after .svcConnectAssert aligned

theorem witness_InputChangesTaken :
    site.run = .running ∧ site.site.inputs.mastMoving.filtered = false ∧ site.level.align = none
      ∧ site.tests.current = none ∧ claimed.link.claim = some farRec.number
      ∧ claimed.tests.current.map (fun r => (r.state, r.pending)) = some (.running, none)
      ∧ aligned.site.inputs.mastMoving.filtered = false ∧ aligned.level.align.map (·.owner) = some (.port .service)
      ∧ looping.tests.current.map (·.number) = some 9 ∧ looping.link.claim ≠ some 9
      ∧ mast.site.inputs.mastMoving.filtered = true ∧ mast.level.align.map (·.owner) = some .mast
      ∧ mastLater.site.inputs.mastMoving.filtered = true
      ∧ mastLater.level.align.map (·.owner) = some (.port .service)
      ∧ mastAlone.site.inputs.mastMoving.filtered = true ∧ mastAlone.level.align = none
      ∧ linkUp.site.inputs.oduLock.filtered = !true ∧ lockHigh.site.inputs.oduLock.filtered = !false
      ∧ lockHigh.link.state = .up ∧ (lockedIn .lost).site.inputs.oduLock.filtered = !false
      ∧ (lockedIn .lost).link.state = .lost ∧ (lockedIn .test).link.state = .test
      ∧ svcIn.site.inputs.svcConnect.filtered = true ∧ svcIn.bus.current = none
      ∧ svcIn.level.align.map (·.owner) ≠ some (.port .service)
      ∧ svcAligned.site.inputs.svcConnect.filtered = true
      ∧ svcAligned.level.align.map (·.owner) = some (.port .service)
      ∧ site.site.inputs.svcConnect.filtered = false := by decide +kernel

theorem witness_PinLevelsGoUnderTest :
    (let x := site.site.inputs.get .oduLock
     x.pin = x.filtered)
      ∧ (let x := pinHigh.site.inputs.get .oduLock
         x.pin ≠ x.filtered ∧ x.change = none)
      ∧ (let x := (msTick pinHigh).site.inputs.get .oduLock
         x.pin ≠ x.filtered ∧ x.change = some (true, 0))
      ∧ site.cfg.filters.get .oduLock ≠ 0 := by decide +kernel

def portTxn (start : Bool) : Txn :=
  { requester := .port .service, tag := some svc.tag, purpose := none, target := none, attempt := 1, confirm := false
    addr := 58, write := [0x10], read := 24, start := start, stop := true, ackLast := false, cont := false
    status := none, written := 0, data := [] }

/-- Four transactions wait while one is in progress. -/
def fullFifo : State := onBus.onBus fun b => { b with fifo := List.replicate 4 (portTxn true) }

def holding : State := site.onBus fun b => { b with hold := some { port := .service, left := 1, phase := .write } }

def linkSlot : Txn := linkTxn .init none 1 false 58 [0x20, 0x00]

/-- Something waits in a place of the controller, with nothing in progress. -/
def queuedBus (profile internal : Option Txn) (fifo : List Txn) (hold : Option Hold) : State :=
  site.onBus fun b => { b with profileSlot := profile, internalSlot := internal, fifo := fifo, hold := hold }

/-- The first transaction of the service port behind one of the main port. -/
def mixedFifo : List Txn := [{ portTxn true with requester := .port .main }, portTxn true]

def svcHold : Hold := { port := .service, left := 1, phase := .write }

theorem witness_BusXferQueues_choice :
    onBus.bus.current.isSome = true ∧ (queuedBus none none [] none).bus.current = none
      ∧ (queuedBus (some (profileWrite site.cfg 3 false)) none [] none).bus.hold = none
      ∧ (profileWrite site.cfg 3 false).start = true ∧ linkSlot.start = true ∧ (portTxn false).start = false
      ∧ (queuedBus none (some linkSlot) [] none).bus.internalSlot = some linkSlot
      ∧ (queuedBus none none mixedFifo none).bus.fifo.length = 2
      ∧ (queuedBus none none [portTxn false] none).bus.fifo = [portTxn false]
      ∧ (portTxn false).requester = .port .service
      ∧ (queuedBus none none mixedFifo (some svcHold)).bus.hold = some svcHold
      ∧ mixedFifo = [{ portTxn true with requester := .port .main }] ++ portTxn true :: []
      ∧ ({ portTxn true with requester := .port .main } : Txn).requester ≠ .port svcHold.port
      ∧ ({ portTxn false with read := 0 } : Txn).read = 0 ∧ svcHold.phase = .write
      ∧ ({ svcHold with phase := .readAcked } : Hold).phase = .readAcked := by decide +kernel

theorem witness_BusXferQueues :
    Executes site svc (.group .bus) ∧ (lined site).bus.fifo.length < 4
      ∧ xferCause { xfer0 with addr := some 127, write := List.replicate 24 0, read := some 24 } [.start, .stop] = none
      ∧ Executes fullFifo svc (.group .bus) ∧ 4 ≤ (lined fullFifo).bus.fifo.length
      ∧ xferCause { xfer0 with addr := some 128 } [.start, .stop] = some "ADDRESS" :=
  ⟨site_executes _, by decide +kernel, by decide, executes_svc (by decide +kernel), by decide +kernel, by decide⟩

/-- The service port's transaction in progress keeps its hold. -/
def onBusCont (expiry : Option HoldCause) (hold : Option Hold) : State :=
  onBusOpen.onBus fun b => { b with
    current := b.current.map fun x => { x with txn := { x.txn with cont := true, stop := false }, expiry := expiry }
    hold := hold }

theorem witness_BusTransactionsEnd :
    onBus.run = .running ∧ onBus.bus.current.map (·.started) = some false
      ∧ (onBus.bus.current.map fun x => ([] : List Byte).length == x.txn.read) = some true
      ∧ (onBus.bus.current.map fun x => ([0] : List Byte).length == x.txn.read) = some false
      ∧ onBusOpen.bus.current.map (·.started) = some true
      ∧ onBus.bus.current.map (·.txn.requester) = some (.port .service)
      ∧ started.bus.current.map (·.txn.requester) = some .link
      ∧ onBusOpen.bus.current.map (·.txn.cont) = some false
      ∧ (onBusCont none none).bus.current.map (fun x => (x.txn.cont, x.expiry)) = some (true, none)
      ∧ (onBusCont (some .lock) none).bus.current.map (·.expiry.isSome) = some true
      ∧ ((onBusCont none (some { svcHold with left := 0 })).bus.hold.any fun h => h.left == 0) = true
      ∧ ((onBusCont none (some svcHold)).bus.hold.any fun h => h.left == 0) = false := by decide +kernel

theorem witness_BusHoldExpires :
    holding.run = .running ∧ holding.bus.hold = some { port := .service, left := 1, phase := .write }
      ∧ holding.bus.current = none := by decide +kernel

def jumping : State := locked.onClock fun k => { k with permitted := true, jump := some (-5000) }

/-- HOLDOVER for `n` seconds with an entry bound of `e` ns; no source may be selected. -/
def heldOver (e n : Nat) : State := onLo.onTiming fun t =>
  { t with state := .holdover, entryBound := some e, holdSecs := some n, bound := some e }

theorem witness_SecondBoundaryAdvances :
    site.run = .running ∧ jumping.clock.dueJump = some (-5000) ∧ site.clock.dueJump = none ∧ site.clock.owed = 0
      ∧ jumping.timing.state ≠ .holdover ∧ (heldOver 100 3).timing.state = .holdover
      ∧ (heldOver 100 3).timing.selected = none
      ∧ (∀ i : Fin 3, ((heldOver 100 3).timing.sources.get (sourceAt i)).state ≠ .qualified)
      ∧ 100 + site.cfg.timing.drift * (3 + 1) ≤ site.cfg.timing.holdover
      ∧ site.cfg.timing.holdover < site.cfg.timing.holdover + site.cfg.timing.drift * (3 + 1) := by decide +kernel

/-- GNSS and AUX are QUALIFIED and `sel` is selected, LOCKED, with a jump request of its own; GNSS is preferred. -/
def twoQualified (sel : Option Source) (revertive : Bool) : State :=
  let s := locked.settings fun cfg => { cfg with timing := { cfg.timing with revertive := revertive } }
  s.onTiming fun t =>
    { t with selected := sel, jumpReq := sel.map fun i => { amount := 5000, source := i }
             latch := { t.latch with revertive := revertive }
             sources := t.sources.put .aux { t.sources.aux with state := .qualified, watch := some 1500 } }

theorem twoQualified_prefers (sel : Option Source) (revertive : Bool) :
    Preferred (twoQualified sel revertive) .gnss := by
  refine ⟨⟨rfl, rfl⟩, fun j h hs => ?_⟩
  cases j with
  | gnss => exact absurd rfl h
  | link => exact absurd hs.1 (show locked.timing.sources.link.state ≠ .qualified by decide +kernel)
  | aux =>
    exact show locked.timing.latch.priority.gnss < locked.timing.latch.priority.aux
      ∨ locked.timing.latch.priority.gnss = locked.timing.latch.priority.aux ∧ Source.index .gnss < Source.index .aux
      by decide +kernel

/-- The next state of a second boundary keeps the two sources QUALIFIED: no selection with one preferred, the selected
one not selectable, another preferred to it, and none selectable. -/
theorem witness_SecondBoundaryAdvances_selection :
    (twoQualified none false).timing.selected = none ∧ (twoQualified (some .link) false).timing.selected = some .link
      ∧ ((twoQualified (some .link) false).timing.sources.get .link).state ≠ .qualified
      ∧ (twoQualified (some .aux) true).cfg.timing.revertive = true ∧ Source.gnss ≠ .aux
      ∧ (twoQualified (some .aux) false).cfg.timing.revertive = false
      ∧ (twoQualified (some .aux) false).clock.dueJump = none
      ∧ (twoQualified (some .aux) true).timing.jumpReq.isSome = true
      ∧ (∀ i : Fin 3, (onLo.timing.sources.get (sourceAt i)).state ≠ .qualified) := by decide +kernel

/-- A second boundary selects afresh (R89), and a change of the selection cancels the jump request (R102). -/
theorem test_boundary_selects :
    (after .secondBoundary (twoQualified none false)).timing.selected = some .gnss
      ∧ (after .secondBoundary (twoQualified (some .link) false)).timing.selected = some .gnss
      ∧ (after .secondBoundary (twoQualified (some .aux) true)).timing.selected = some .gnss
      ∧ (after .secondBoundary (twoQualified (some .aux) true)).timing.jumpReq = none
      ∧ (after .secondBoundary (twoQualified (some .aux) false)).timing.selected = some .aux
      ∧ (after .secondBoundary (twoQualified (some .aux) false)).timing.jumpReq.isSome = true := by decide +kernel

/-- A pulse ends in 100 ns; a start hold of `h` ns runs. -/
def pulseIn (h : Option Nat) : State :=
  onLo.onClock fun k => { k with ppsActive := true, pulseLeft := some (100 * 32768), startHold := h }

theorem witness_ClockHoldsEnd :
    site.run = .running ∧ (onLo.onClock fun k => { k with startHold := some 10 }).clock.startHold.isSome = true
      ∧ (pulseIn none).clock.pulseLeft = some (100 * 32768) ∧ (pulseIn none).clock.startHold = none
      ∧ 10 * (100 * 32768 / 327680) < 110 ∧ (pulseIn (some 110)).clock.startHold = some 110
      ∧ 100 ≤ 10 * (100 * 32768 / 327680) ∧ (pulseIn (some 100)).clock.startHold = some 100
      ∧ site.clock.pulseLeft = none := by decide +kernel

/-- LOCKING with a fresh offset `x`, a jump request of `j` ns present. -/
def jumpAsked (x j : Int) : State :=
  (locking x).onTiming fun t => { t with jumpReq := some { amount := j, source := .gnss }, lastJump := some j }

theorem witness_SteeringPointCorrects :
    locked.run = .running ∧ site.timing.selected = none ∧ site.timing.state = .freerun
      ∧ (heldOver 100 3).timing.state = .holdover ∧ locked.timing.selected = some .gnss
      ∧ (locked.timing.sources.get .gnss).fresh = some 40 ∧ locked.timing.state = .locked
      ∧ (40 : Int).natAbs ≤ locked.cfg.timing.window ∧ 0 < locked.cfg.timing.lockcount
      ∧ locked.cfg.timing.window < (110 : Int).natAbs ∧ locked.cfg.timing.lockcount ≤ min 60 (4 + 1)
      ∧ min 60 (3 + 1) < locked.cfg.timing.lockcount
      ∧ (locking 1000).timing.state = .locking ∧ (locking 1000).timing.jumpReq = none
      ∧ (locking 1000).cfg.timing.jump = 1000
      ∧ ((locking 1000).timing.sources.get .gnss).fresh = some 1000
      ∧ ((locking 1010).timing.sources.get .gnss).fresh = some 1010
      ∧ (jumpAsked 1010 (-1010)).timing.jumpReq.map (·.amount) = some (-1010)
      ∧ (jumpAsked 1010 (-2000)).timing.jumpReq.map (·.amount) ≠ some (-1010) := by decide +kernel

/-- The fifth offset within the window in a row locks; the fifth beyond it unlocks (R91, R92). -/
theorem test_lock_runs :
    (after .steeringPoint ((locking 40).onTiming fun t => { t with lockRun := 4 })).timing.state = .locked
      ∧ (after .steeringPoint ((locking 110).onTiming fun t =>
          { t with state := .locked, unlockRun := 4 })).timing.state = .locking := by decide +kernel

theorem witness_OscillatorChecked :
    site.run = .running ∧ onLo.clock.oscBad = false ∧ site.clock.oscBad = true
      ∧ (site.onClock fun k => { k with goodRun := 7 }).clock.goodRun = 7 ∧ site.clock.goodRun < 7
      ∧ min 65535 (999 * 1024 / 1024) < 1000 ∧ min 65535 (1450 * 1024 / 1024) ≤ 1450
      ∧ 1100 ≤ min 65535 (1100 * 1024 / 1024) ∧ 1350 < min 65535 (1351 * 1024 / 1024) := by decide +kernel

/-- OSC_BAD has set; counting passes to the RC clock at the next RC cycle edge. -/
def passingAt (ns : Nat) : State := site.onClock fun k => { k with passing := true, ns := ns }

theorem witness_OscillatorChecked_passing :
    (passingAt 30510).clock.passing = true ∧ (passingAt 30510).signals = []
      ∧ (30510 ≤ 1 * 1000000000 / 32768 / 10 * 10) ∧ (∀ j, j < 1 → j * 1000000000 / 32768 / 10 * 10 < 30510)
      ∧ (∀ j, j < 32768 → j * 1000000000 / 32768 / 10 * 10 < 999999990) ∧ site.clock.passing = false :=
  ⟨rfl, by decide +kernel, by decide, fun j h => by omega, fun j h => by omega, rfl⟩

theorem test_clock_edge :
    (clockEdge (passingAt 30511)).clock.rcCycle = 2 ∧ (clockEdge (passingAt 30511)).clock.ns = 61030 := by
  decide +kernel

/-- A capture of GNSS 400 ms ago. -/
def captured : State := onLo.onClock fun k =>
  let r : CaptureRec :=
    { last := some (SiteTime.mk 0 0), interval := none, coarse := false, elapsed := 400000000 * unitsPerNs }
  { k with captures := k.captures.put .gnss r }

/-- AUX enabled with the divider 2. -/
def divided : State :=
  (onLo.settings fun cfg => { cfg with auxDiv := 2 }).onClock fun k => { k with enabled := k.enabled.put .aux true }

/-- GNSS in state `st` with `n` pulses of its run counted, captured `ns` nanoseconds ago. -/
def running (st : SourceState) (n ns : Nat) : State :=
  let src : SourceRec :=
    { onLo.timing.sources.gnss with state := st, goodRun := n, badRun := n, anchor := some { min := 0, max := 50 } }
  let cap : CaptureRec :=
    { last := some (SiteTime.mk 0 0), interval := none, coarse := false, elapsed := ns * unitsPerNs }
  (onLo.onTiming fun t => { t with sources := t.sources.put .gnss src }).onClock fun k =>
    { k with captures := k.captures.put .gnss cap }

/-- The interval of GNSS that an edge finds. -/
def seen (s : State) : Interval := intervalOf ((s.clock.advance 0).captures.get .gnss).elapsed

theorem witness_EdgesCaptured :
    onLo.run = .running ∧ onLo.clock.enabled.get .gnss = true ∧ (onLo.clock.captures.get .gnss).last = none
      ∧ captured.clock.enabled.get .gnss = true ∧ isEarly (seen captured) = true
      ∧ divided.clock.enabled.get .aux = true ∧ divided.clock.divert = none
      ∧ divided.clock.auxCount + 1 < divided.cfg.auxDiv ∧ onLo.clock.enabled.get .aux = false
      ∧ onLo.clock.divert = none
      ∧ (onLo.onClock fun k => { k with divert := some 9 }).clock.divert.isSome = true
      ∧ (onLo.timing.sources.get .aux).state = .off ∧ (onLo.timing.sources.get .gnss).state = .check
      ∧ onLo.timing.oscCopy = false ∧ onLo.timing.linkCopy = .up ∧ onLo.clock.oscBad = false
      ∧ (onLo.timing.sources.get .gnss).mark = none ∧ site.timing.oscCopy = true
      ∧ seen (running .failed 0 1000001000) = .ns 1000001000
      ∧ 1000001000 ≤ 1000000000 + onLo.cfg.sources.gnss.tol
      ∧ seen (running .failed 0 1000001010) = .ns 1000001010
      ∧ 1000000000 + onLo.cfg.sources.gnss.tol < 1000001010
      ∧ (running .qualifying 3 1000000000).timing.sources.gnss.anchor.isSome = true
      ∧ 3 + 1 < onLo.cfg.sources.gnss.qualify ∧ onLo.cfg.sources.gnss.qualify ≤ 9 + 1
      ∧ max 50 0 - min 0 0 ≤ onLo.cfg.sources.gnss.stability
      ∧ onLo.cfg.sources.gnss.stability < max 50 onLo.cfg.sources.gnss.stability + 10 - min 0 0
      ∧ 1 + 1 < onLo.cfg.sources.gnss.fail ∧ onLo.cfg.sources.gnss.fail ≤ 2 + 1 := by decide +kernel

/-- Diverted to the PULSE test, with `n` pulses of 100 ms measured and the leading edge of the next taken. -/
def measuring (n : Nat) : State :=
  (pulsing.onClock fun k => { k with oscBad := false, divert := some 9, ns := 100000000 }).onTests fun t =>
    { t with pulse := t.pulse.map fun m =>
        { m with lead := some ({ sec := 0, ns := 0 }, 0), count := n, sum := 100000000 * n } }

theorem witness_EdgesCaptured_pulse :
    (measuring 0).clock.divert.isSome = true ∧ (measuring 0).tests.current = some pulseRec
      ∧ pulseRec.kind = .pulse ∧ pulseRec.state = .running ∧ pulseRec.pending = none
      ∧ pulseRec.params = .pulse 2 1 1000 ∧ (measuring 0).tests.pulse.map (·.polarity) = some .activeHigh
      ∧ (measuring 0).tests.pulse.map (·.count) = some 0 ∧ (measuring 1).tests.pulse.map (·.count) = some 1
      ∧ ((site.onClock fun k => { k with divert := some 9 }).tests.pulse = none) := by decide +kernel

/-- The second pulse of 100 ms ends the test with PASS; a second pulse of 102 ms ends it with FAIL LIMIT (R170). -/
theorem test_pulse_verdict :
    (after (.ppsEdge .aux .fall 0) (measuring 1)).tests.log.map (fun r => (r.state, r.reason)) = [(.pass, none)]
      ∧ (after (.ppsEdge .aux .fall 0) ((measuring 1).onClock fun k => { k with ns := 104000000 })).tests.log.map
          (fun r => (r.state, r.reason)) = [(.fail, some .limit)] := by decide +kernel

/-- The tenth good pulse of the run makes GNSS QUALIFIED, and the selector takes it (R84, R89). -/
theorem test_qualifies :
    (after (.ppsEdge .gnss .rise 0) (running .qualifying 9 1000000000)).timing.selected = some .gnss := by
  decide +kernel

/-- `running` with AUX QUALIFIED beside GNSS, `sel` selected and a jump request present. -/
def besideAux (st : SourceState) (n : Nat) (sel : Source) (revertive : Bool) : State :=
  (running st n 1000000000).onTiming fun t =>
    { t with selected := some sel, state := .locked, jumpReq := some { amount := 5000, source := sel }
             latch := { t.latch with revertive := revertive }
             sources :=
               (t.sources.put .aux { t.sources.aux with state := .qualified, watch := some 1500 }).put .gnss
                 { t.sources.gnss with watch := some 1 } }

/-- Another source is selected while GNSS becomes QUALIFIED, or GNSS is selected and fails. -/
theorem witness_EdgesCaptured_selection :
    (besideAux .qualifying 9 .aux true).timing.latch.revertive = true
      ∧ (besideAux .qualifying 9 .aux false).timing.latch.revertive = false
      ∧ (besideAux .qualifying 9 .aux true).timing.selected = some .aux
      ∧ ((besideAux .qualifying 9 .aux true).timing.sources.get .gnss).state ≠ .qualified
      ∧ (besideAux .qualifying 9 .aux true).timing.latch.priority.get .gnss
          ≤ (besideAux .qualifying 9 .aux true).timing.latch.priority.get .aux
      ∧ Source.index .gnss < Source.index .aux
      ∧ (besideAux .qualified 2 .gnss false).timing.selected = some .gnss
      ∧ ((besideAux .qualified 2 .gnss false).timing.sources.get .aux).state = .qualified
      ∧ (besideAux .qualified 2 .gnss false).timing.jumpReq.isSome = true := by decide +kernel

/-- Case 3 of R89 under revertive ON alone; a lost source is replaced at once, and the jump request goes with it. -/
theorem test_selection_follows :
    (after (.ppsEdge .gnss .rise 0) (besideAux .qualifying 9 .aux true)).timing.selected = some .gnss
      ∧ (after (.ppsEdge .gnss .rise 0) (besideAux .qualifying 9 .aux false)).timing.selected = some .aux
      ∧ (after (.missing .gnss) (besideAux .qualified 2 .gnss false)).timing.selected = some .aux
      ∧ (after (.missing .gnss) (besideAux .qualified 2 .gnss false)).timing.jumpReq = none := by decide +kernel

def qualifying : State := onLo.onTiming fun t =>
  { t with sources := t.sources.put .gnss { t.sources.gnss with state := .qualifying, watch := some 1, goodRun := 5 } }

theorem witness_MissingCounted :
    qualifying.run = .running ∧ (qualifying.timing.sources.get .gnss).watch.isSome = true
      ∧ (qualifying.timing.sources.get .gnss).state = .qualifying
      ∧ (qualifying.timing.sources.get .link).watch = none ∧ (qualifying.timing.sources.get .gnss).mark = none
      ∧ qualifying.timing.oscCopy = false ∧ locked.timing.sources.gnss.watch.isSome = true
      ∧ locked.timing.sources.gnss.state = .qualified ∧ 0 + 1 < locked.cfg.sources.gnss.fail
      ∧ locked.cfg.sources.gnss.fail ≤ 2 + 1 ∧ (running .failed 0 0).timing.sources.gnss.state = .failed := by
  decide +kernel

theorem witness_TimingSettingsSet :
    Executes site svc (.group .timingCfg)
      ∧ pulseArgsOk { pulse0 with width := some 1000, auxDiv := some 16 } = true
      ∧ pulseArgsOk { pulse0 with width := some 0 } = true
      ∧ timingArgsOk { timing0 with jump := some 100000, slew := some 1000, holdover := some 10000000 } = true :=
  ⟨site_executes _, by decide, by decide, by decide⟩

theorem witness_SourceSettingsSet :
    Executes site svc (.group .timingCfg) ∧ sourceArgsOk { src0 with enabled := some false } = true
      ∧ sourceArgsOk { src0 with enabled := some true, priority := some 7 } = true
      ∧ ((lined site).timing.sources.get (sourceAt 2)).state = .off
      ∧ (lined site).cfg.sources.aux.enabled = false
      ∧ ((lined site).timing.sources.get (sourceAt 0)).state ≠ .off
      ∧ (lined site).cfg.sources.gnss.enabled = true
      ∧ Executes onLo svc (.group .timingCfg) ∧ (lined onLo).timing.oscCopy = false :=
  ⟨site_executes _, by decide, by decide, by decide +kernel, by decide +kernel, by decide +kernel, by decide +kernel,
    executes_svc (by decide +kernel), by decide +kernel⟩

def tddLive : State := liveSite.settings fun cfg =>
  { cfg with carriers := cfg.carriers.set 4 (some { carrierDef with duplex := .tdd }) }

/-- `liveSite` with the carrier requesting 6 CU in state `st`, its restore timer at `restore`. -/
def requesting (st : CarrierState) (restore : Option Nat) : State :=
  withCarrier { Carrier.idle with state := st, demand := 6, order := some 1, restore := restore } false

/-- Its tenant's ceiling lies below the carrier's minimum. -/
def ceilinged (st : CarrierState) : State := (requesting st none).settings fun cfg =>
  { cfg with tenants := cfg.tenants.set 1 { cfg.tenants.get 1 with floor := 0, ceiling := 1 } }

def resharedCarrier (s : State) : Carrier := (reshare s s.share none false).share.carriers.get 4

theorem witness_ReshareBlocks :
    definedSite.cfg.carriers.get 4 = some carrierDef ∧ definedSite.share.phase = .staging
      ∧ ({ liveSite.share with grade := .oscFail } : Share).grade = .oscFail
      ∧ tddLive.cfg.carriers.get 4 = some { carrierDef with duplex := .tdd }
      ∧ ({ tddLive.share with grade := .unfit } : Share).grade ≠ .tddOk
      ∧ ({ tddLive.share with jump := true } : Share).jump = true
      ∧ (liveSite.share.carriers.get 4).state = .idle ∧ (heldSite.share.carriers.get 4).state = .held
      ∧ ((requesting .waiting none).share.carriers.get 4).state = .waiting
      ∧ (requesting .waiting none).share.phase ≠ .staging ∧ (requesting .waiting none).share.grade ≠ .oscFail
      ∧ (waitingSite.share.carriers.get 4).restore.isSome = true
      ∧ (resharedCarrier (requesting .waiting none)).state = .active
      ∧ (resharedCarrier (ceilinged .waiting)).state = .waiting
      ∧ ((ceilinged .active).share.carriers.get 4).state = .active
      ∧ (resharedCarrier (ceilinged .active)).state = .waiting ∧ (ceilinged .active).cfg.restoreHold ≠ 0
      ∧ ((ceilinged .active).settings fun cfg => { cfg with restoreHold := 0 }).cfg.restoreHold = 0 := by
  decide +kernel

/-- A carrier that the floor pass admits, one that the ceiling pass admits, and one that neither does. -/
theorem witness_ReshareBlocks_passes :
    (liveSite.cfg.tenants.get 1).floor = 5 ∧ 0 + carrierDef.min ≤ 5 ∧ 0 + carrierDef.min ≤ 12
      ∧ (resharedCarrier ((requesting .waiting none).settings fun cfg =>
          { cfg with tenants := cfg.tenants.set 1 { cfg.tenants.get 1 with floor := 0 } })).state = .active
      ∧ ((ceilinged .waiting).cfg.tenants.get 1).ceiling < 0 + carrierDef.min := by decide +kernel

/-- A demand beyond the pool of 10 CU leaves the carrier THROTTLED with the whole pool. -/
theorem witness_ReshareBlocks_throttled :
    let s := withCarrier { Carrier.idle with state := .active, demand := 60, order := some 1 } true
    (∀ c : Fin 16, ∀ d ∈ s.cfg.carriers.get c, d.min ≤ (s.share.carriers.get c).demand)
      ∧ (resharedCarrier s).state = .throttled ∧ (resharedCarrier s).grant = 10 := by decide +kernel

/-- `onAirSite` with a borrow, under a base of `base` CU. -/
def lending (b : Borrow) (base : Nat) : State :=
  { onAirSite with share := { onAirSite.share with borrow := b, base := base } }

/-- The carrier on the air with the borrow taken off the pool. -/
def lentState (n base : Nat) : CarrierState :=
  (resharedCarrier (lending .absent (base - n))).state

theorem witness_ReshareAcknowledgesJump :
    (lending .absent 12).share.borrow = .absent
      ∧ (lending (.waiting 2 9) 12).share.borrow = .waiting 2 9 ∧ (lending (.held 2 9) 12).share.borrow = .held 2 9
      ∧ 2 ≤ 12 - onAirSite.share.reserve ∧ lentState 2 12 = .active
      ∧ lentState 9 12 = .waiting ∧ 12 - onAirSite.share.reserve < 11 := by decide +kernel

/-- CARRIER DEFINE with the tenant alone. -/
def tenantOnly : CarrierArgs := { carrier0 with tenant := some 1 }

theorem witness_ShareSettingsSet :
    Executes tenanted svc (.group .tenantCfg) ∧ Executes definedSite svc (.group .tenantCfg)
      ∧ tenantArgsOk { tenant0 with floor := some 4000, weight := some 16 } = true
      ∧ (((lined tenanted).cfg.tenants.get 1).with { tenant0 with floor := some 4000 }).floor
          ≤ (((lined tenanted).cfg.tenants.get 1).with { tenant0 with floor := some 4000 }).ceiling
      ∧ (lined tenanted).cfg.carriers.get 4 = none ∧ carrierArgs.tenant = some ((1 : Fin 4).val : Int)
      ∧ carrierArgsOk carrierArgs = true ∧ carrierArgs.defined ≠ some false ∧ carrierArgsOk tenantOnly = true
      ∧ (∀ c : Fin 16, (lined tenanted).cfg.carriers.get c = none)
      ∧ ((lined tenanted).cfg.tenants.get 1).defined = true
      ∧ (lined definedSite).cfg.carriers.get 4 = some carrierDef
      ∧ (∀ c : Fin 16, c ≠ 4 → (lined definedSite).cfg.carriers.get c = none)
      ∧ ((lined definedSite).share.carriers.get 4).state = .idle
      ∧ carrierArgsOk { carrier0 with sector := some 1, permit := some .noLine } = true
      ∧ inRange 1 16 (some 16) = true ∧ inRange 0 120 (some 120) = true :=
  ⟨executes_svc (by decide +kernel), executes_svc (by decide +kernel), by decide, by decide +kernel,
    by decide +kernel, by decide, by decide, by decide, by decide, by decide +kernel, by decide +kernel,
    by decide +kernel, by decide +kernel, by decide +kernel, by decide, rfl, rfl⟩

/-- Tenant 1 is named by carrier 4 and may not be made undefined (R108). -/
theorem witness_ShareSettingsSet_named :
    tenantArgsOk { tenant0 with defined := some false } = true
      ∧ (lined definedSite).cfg.carriers.get 4 = some carrierDef ∧ carrierDef.tenant = 1
      ∧ lastSaid (after (.tenantSet svc (some 1) { tenant0 with defined := some false }) definedSite) = no .noState := by
  decide +kernel

/-- No tenant 2 carrier is defined, so tenant 2 may be made undefined. -/
theorem witness_ShareSettingsSet_undefine :
    ∀ c d, (lined definedSite).cfg.carriers.get c = some d → d.tenant ≠ 2 := by
  intro c d h
  have hc : ∀ c, (lined definedSite).cfg.carriers.get c ≠ none → c = 4 := by decide +kernel
  have h4 : (lined definedSite).cfg.carriers.get 4 = some carrierDef := by decide +kernel
  cases hc c (by intro e; rw [e] at h; cases h)
  cases Option.some.inj (h.symm.trans h4)
  decide

theorem lines_defined : LinesApart definedSite.cfg := by
  intro x y dx dy l hxy hx hy
  have hc : ∀ c, definedSite.cfg.carriers.get c ≠ none → c = 4 := by decide +kernel
  exact absurd ((hc x (by intro e; rw [e] at hx; cases hx)).trans
    (hc y (by intro e; rw [e] at hy; cases hy)).symm) hxy

theorem lines_factory : LinesApart .factory := by
  intro x y dx dy l _ hx _
  have hc : ∀ c, Settings.factory.carriers.get c = none := by decide +kernel
  rw [hc x] at hx
  cases hx

theorem witness_CarrierDefineKeepsLinesApart :
    LinesApart definedSite.cfg ∧ LinesApartIn { definedSite with pending := [.save svc] }
      ∧ ∃ t, step { definedSite with pending := [.save svc] } = .next t :=
  ⟨lines_defined, ⟨lines_defined, lines_factory, fun _ h => nomatch h⟩, after (.save svc) definedSite, rfl⟩

theorem witness_CarrierRequestsAct :
    Executes liveSite svc (.group .carrier) ∧ inScope (lined liveSite) .service carrierDef.tenant = true
      ∧ (lined liveSite).cfg.carriers.get 4 = some carrierDef ∧ carrierDef.min = 2 ∧ 2 ≤ 4000 ∧ 4000 < 4001
      ∧ (1 : Nat) ≠ 0 ∧ 1 < carrierDef.min
      ∧ ((lined liveSite).share.carriers.get 4).state = .idle ∧ (lined liveSite).share.orders < 2 ^ 32 - 1
      ∧ Executes onAirSite svc (.group .carrier) ∧ ((lined onAirSite).share.carriers.get 4).state = .active
      ∧ inScope (lined onAirSite) .service carrierDef.tenant = true
      ∧ (lined onAirSite).cfg.carriers.get 4 = some carrierDef
      ∧ Executes heldSite svc (.group .carrier) ∧ ((lined heldSite).share.carriers.get 4).state = .held
      ∧ inScope (lined heldSite) .service carrierDef.tenant = true
      ∧ (lined heldSite).cfg.carriers.get 4 = some carrierDef ∧ 65535 < 65536 :=
  ⟨executes_svc (by decide +kernel), by decide +kernel, by decide +kernel, by decide, by decide, by decide, by decide,
    by decide, by decide +kernel, by decide +kernel, executes_svc (by decide +kernel), by decide +kernel,
    by decide +kernel, by decide +kernel, executes_svc (by decide +kernel), by decide +kernel, by decide +kernel,
    by decide +kernel, by decide⟩

/-- The orders have run out: two carriers hold 7 and 2^32 - 1. -/
def lastOrder : State :=
  let other : Carrier := { Carrier.idle with state := .waiting, demand := 3, order := some (2 ^ 32 - 1) }
  let h := { onAirSite.share with orders := 2 ^ 32 - 1, carriers := onAirSite.share.carriers.set 5 other }
  { onAirSite with share := h.setCarrier 4 fun r => { r with order := some 7 } }

theorem witness_CarrierRequestsAct_orders :
    ¬lastOrder.share.orders < 2 ^ 32 - 1 ∧ (lastOrder.share.carriers.get 4).order = some 7
      ∧ (lastOrder.share.carriers.get 5).order = some (2 ^ 32 - 1)
      ∧ ((renumbered lastOrder.share).carriers.get 4).order = some 1
      ∧ ((renumbered lastOrder.share).carriers.get 5).order = some 2
      ∧ (renumbered lastOrder.share).orders = 2 := by decide +kernel

/-- The demand is tested against the minimum and 4000, and 0 releases (R112, R113). -/
theorem test_carrier_demand :
    lastSaid (after (.carrierRequest svc (some 4) (some 1)) liveSite) = no .noRange
      ∧ lastSaid (after (.carrierRequest svc (some 4) (some 4001)) liveSite) = no .noRange
      ∧ after (.carrierRequest svc (some 4) (some 0)) onAirSite = after (.carrierRelease svc (some 4)) onAirSite := by
  decide +kernel

/-- Tenant 0 on the service port of the site with the carrier of tenant 1 on the air. -/
def stranger : State := onAirSite.onPort .service fun x => { x with access := .tenant 0 }

def openPort : State := onAirSite.onPort .service fun x => { x with access := .opened }

/-- The CARRIER group lowered to OPEN. -/
def openGroup : State := openPort.settings fun cfg => { cfg with minima := cfg.minima.put .carrier .opened }

theorem witness_CarrierReleaseActs :
    (Takes openGroup svc ∧ inGroup (lined openGroup) .service .carrier = true
      ∧ ((lined openGroup).port .service).access = .opened ∧ indexOf 16 (some 16) = none)
      ∧ Takes openPort svc ∧ inGroup (lined openPort) .service .carrier = false
      ∧ Takes onAirSite svc ∧ inGroup (lined onAirSite) .service .carrier = true
      ∧ ((lined onAirSite).port .service).access ≠ .opened ∧ (lined onAirSite).cfg.carriers.get 15 = none
      ∧ Takes stranger svc ∧ inGroup (lined stranger) .service .carrier = true
      ∧ inScope (lined stranger) .service carrierDef.tenant = false
      ∧ inScope (lined onAirSite) .service carrierDef.tenant = true
      ∧ (lined onAirSite).cfg.carriers.get 4 = some carrierDef
      ∧ ((lined onAirSite).share.carriers.get 4).state = .active
      ∧ ((lined liveSite).share.carriers.get 4).state = .idle :=
  ⟨⟨⟨rfl, by decide +kernel⟩, by decide +kernel, by decide +kernel, by decide⟩,
    ⟨rfl, by decide +kernel⟩, by decide +kernel, ⟨rfl, by decide +kernel⟩, by decide +kernel, by decide +kernel,
    by decide +kernel, ⟨rfl, by decide +kernel⟩, by decide +kernel, by decide +kernel, by decide +kernel,
    by decide +kernel, by decide +kernel, by decide +kernel⟩

theorem witness_CarrierTimersExpire :
    waitingSite.run = .running ∧ (waitingSite.share.carriers.get 4).restore.isSome = true
      ∧ heldSite.run = .running ∧ (heldSite.share.carriers.get 4).restore = none
      ∧ (heldSite.share.carriers.get 4).state = .held ∧ (heldSite.share.carriers.get 4).hold = some (.ms 1)
      ∧ (waitingSite.share.carriers.get 4).state ≠ .held
      ∧ ((withCarrier { Carrier.idle with state := .held, hold := some .untilCancelled } false).share.carriers.get
          4).hold = some .untilCancelled := by decide +kernel

/-- A hold until cancelled has no timer to expire (R114, R115). -/
theorem test_hold_until_cancelled :
    let s := withCarrier { Carrier.idle with state := .held, hold := some .untilCancelled } false
    after (.holdTimerExpiry 4) s = s := by decide +kernel

/-- A FEEDER test queued behind the LOOP_FAR test that waits for its borrow. -/
def queued : State := after (.testAdd svc (some (.known .feeder)) feederArgs) deferred

/-- A test of kind `k` at the head of the queue of `fit`, in STAGING or LIVE, with MAST_MOVING as it stands. -/
def heading (k : TestKind) (x : TestParams) (s : State) : State :=
  s.onTests fun t => { t with queue := [{ farRec with kind := k, params := x, state := .queued }] }

/-- In cleanup. -/
def cleaning : State := feeding.onTests fun t =>
  { t with current := t.current.map fun r => { r with pending := some (.aborted, some .cancel) } }

theorem witness_TestRequestsAct :
    Executes site svc (.group .test) ∧ testParams .feeder feederArgs ≠ none ∧ testParams .probe probeArgs ≠ none
      ∧ (lined site).tests.queue.length < 8 ∧ (lined site).tests.log.length ≤ 24
      ∧ (lined site).tests.lastNumber ≤ 999 ∧ Executes queued svc (.group .test)
      ∧ ((lined queued).tests.queue.find? fun x => x.number == 1).map (mayCancel (lined queued) .service) = some true
      ∧ (lined queued).tests.current.map (·.number) = some 9 ∧ Executes feeding svc (.group .test)
      ∧ (lined feeding).tests.current.map (fun r => (r.number, r.state, r.pending)) = some (1, .running, none)
      ∧ (lined feeding).tests.current.map (mayCancel (lined feeding) .service) = some true
      ∧ Executes deferred svc (.group .test)
      ∧ (lined deferred).tests.current.map (fun r => (r.number, r.state)) = some (9, .deferred)
      ∧ (lined deferred).tests.current.map (mayCancel (lined deferred) .service) = some true
      ∧ Executes cleaning svc (.group .test)
      ∧ (lined cleaning).tests.current.map (fun r => (r.state, r.pending.isSome)) = some (.running, true) :=
  ⟨site_executes _, by decide +kernel, by decide +kernel, by decide +kernel, by decide +kernel, by decide +kernel,
    executes_svc (by decide +kernel), by decide +kernel, by decide +kernel, executes_svc (by decide +kernel),
    by decide +kernel, by decide +kernel, executes_svc (by decide +kernel), by decide +kernel, by decide +kernel,
    executes_svc (by decide +kernel), by decide +kernel⟩

/-- The start checks of R137, one after the other. -/
theorem witness_TestRequestsAct_start :
    deferred.tests.current.isSome = true ∧ site.tests.queue = []
      ∧ (heading .probe farRec.params fit).tests.current = none
      ∧ (heading .probe farRec.params fit).tests.queue.length = 1
      ∧ (heading .loopNear farRec.params liveSite).site.phase ≠ .staging
      ∧ (heading .loopFar farRec.params site).link.state ≠ .up ∧ (heading .loopFar farRec.params fit).link.state = .up
      ∧ (heading .feeder (.feeder [.f1] 4 5 2047) locked).timing.selected = some .gnss
      ∧ (heading .pulse pulseRec.params
          (locked.onTiming fun t => { t with selected := some .aux })).timing.selected = some .aux
      ∧ (heading .loopNear farRec.params site).link.state = .off
      ∧ (heading .loopNear farRec.params (mast.onLink fun k => { k with state := .up })).site.inputs.mastMoving.filtered
          = true
      ∧ fit.site.phase = .staging ∧ fit.site.inputs.mastMoving.filtered = false ∧ fit.bus.internalSlot = none
      ∧ fit.timing.selected = none ∧ fit.share.borrow = .absent := by decide +kernel

/-- The write or the probe of the current test is on the bus. -/
def outstanding (r : TestRec) (p : Purpose) (n : Nat) (settling : Bool) (stage : Stage) : State :=
  let o : Outstanding := { purpose := p, attempt := n, place := .offered, settling := settling }
  site.onTests fun t => { t with current := some r, outstanding := some o, stage := stage }

def probeRec : TestRec := { farRec with kind := .probe, params := .probe 58 [] 1 [0x01] [0xFF], state := .running }

/-- The verdict PASS stands; the cleanup goes on. -/
def passing (k : TestKind) : TestRec := { farRec with kind := k, state := .running, pending := some (.pass, none) }

def probeEnd (st : BusStatus) (data : List Byte) : Txn :=
  { linkTxn .probe none 1 false 58 [] with requester := .test, read := 1, status := some st, data := data }

theorem witness_TestTimersExpire :
    deferred.run = .running ∧ deferred.tests.current = some farRec ∧ farRec.state = .deferred
      ∧ deferred.tests.deferTimer.isSome = true ∧ deferred.link.claim ≠ some 9 ∧ deferred.clock.divert ≠ some 9
      ∧ (deferred.timing.sources.map (·.mark)) = { gnss := none, link := none, aux := none }
      ∧ (pulsing.tests.current = some pulseRec ∧ pulseRec.state = .running ∧ pulseRec.pending = none)
      ∧ (pulsing.tests.pulse.map (·.watch.isSome)) = some true
      ∧ (outstanding (passing .probe) .probe 1 true .settling).tests.outstanding.map (·.settling) = some true
      ∧ (passing .loopNear).kind = .loopNear ∧ (outstanding (passing .loopNear) .loopOn 1 true .settling).bus.internalSlot
          = none
      ∧ probeRec.state = .running ∧ probeRec.pending = none ∧ (probeEnd .ok [0x01]).data.length = 1
      ∧ (probeEnd .ok [0x01]).status = some .ok ∧ (probeEnd .nak []).status = some .nak
      ∧ (probeEnd .ok [0x01]).data[0]?.map (· &&& 0xFF) = ([0x01] : List Byte)[0]?.map (· &&& 0xFF)
      ∧ (probeEnd .ok [0x03]).data[0]?.map (· &&& 0xFF) ≠ ([0x01] : List Byte)[0]?.map (· &&& 0xFF)
      ∧ (outstanding (passing .loopNear) .loopOff 3 false .loopOff).tests.stage = .loopOff
      ∧ (outstanding (passing .loopNear) .loopOff 3 false .loopOff).tests.current.map (·.pending)
          = some (some (.pass, none))
      ∧ (site.onTests fun t => { t with current := some (passing .feeder) }).tests.stage = .measuring
      ∧ (site.onTests fun t => { t with current := some (passing .loopFar) }).tests.outstanding = none := by
  decide +kernel

/-- The cleanup of a LOOP_NEAR test begins, its LOOPON write in place `place`. -/
def nearEnding (place : Place) : State :=
  (outstanding (passing .loopNear) .loopOn 1 false .measuring).onTests fun t =>
    { t with outstanding := t.outstanding.map fun o => { o with place := place } }

/-- The internal transaction slot holds `x`, and something waits for it to be free. -/
def slotHolds (x : Txn) (s : State) : State := s.onBus fun b => { b with internalSlot := some x, noteLink := true }

theorem witness_TestTimersExpire_cleanup :
    (let s := site.onTests fun t => { t with current := some (passing .loopNear) }
     s.tests.outstanding = none ∧ s.tests.stage = .measuring ∧ s.bus.internalSlot = none
       ∧ (slotHolds linkSlot s).bus.internalSlot.isSome = true)
      ∧ (nearEnding .keptBack).tests.stage = .measuring
      ∧ (nearEnding .keptBack).tests.current = some (passing .loopNear)
      ∧ (nearEnding .keptBack).tests.outstanding.map (·.place) = some .keptBack
      ∧ (nearEnding .offered).tests.outstanding.map (·.place) = some .offered
      ∧ (slotHolds (probeEnd .ok []) (nearEnding .offered)).bus.internalSlot = some (probeEnd .ok [])
      ∧ (probeEnd .ok []).requester = .test
      ∧ (nearEnding .offered).bus.internalSlot.map (·.requester) ≠ some .test
      ∧ (slotHolds linkSlot (nearEnding .offered)).bus.internalSlot.map (·.requester) ≠ some .test
      ∧ (nearEnding .keptBack).bus.internalSlot = none
      ∧ (outstanding probeRec .probe 1 false .measuring).tests.current = some probeRec
      ∧ probeRec.params = .probe 58 [] 1 [0x01] [0xFF] := by decide +kernel

/-- One kept back is dropped and LOOPOFF is offered; one that has started is waited for (R147). -/
theorem test_cleanup_settles :
    (deliver (nearEnding .keptBack) .cleanup).bus.internalSlot.map (·.purpose) = some (some .loopOff)
      ∧ (deliver (slotHolds (probeEnd .ok []) (nearEnding .offered)) .cleanup).bus.internalSlot.map (·.purpose)
          = some (some .loopOff)
      ∧ (deliver (nearEnding .offered) .cleanup).tests.outstanding.map (·.settling) = some true := by decide +kernel

/-- The LOOP_FAR test of `deferred` in state `st`. -/
def farIn (st : TestState) (pending : Option (Verdict × Option TestReason)) : State :=
  deferred.onTests fun t => { t with current := some { farRec with state := st, pending := pending } }

theorem witness_TestTimersExpire_delivered :
    (farIn .running none).tests.current.map (fun r => (r.state, r.pending)) = some (.running, none)
      ∧ (farIn .running (some (.pass, none))).tests.current.map (·.pending.isSome) = some true
      ∧ pulsing.tests.current.map (·.kind) = some .pulse ∧ LinkState.fade ≠ .up ∧ farRec.number ≠ 8
      ∧ deferred.tests.current = some farRec ∧ farRec.kind = .loopFar ∧ farRec.params = .loopFar 64 2 0 := by
  decide +kernel

/-- The link leaves UP, or the borrow is revoked: the test ends (R138, R143). -/
theorem test_far_ended :
    (settle (deliver (farIn .running none) (.linkToTests .fade))).tests.log.map (fun r => (r.state, r.reason))
        = [(.aborted, some .link)]
      ∧ (settle (deliver deferred (.linkToTests .fade))).tests.log.map (fun r => (r.state, r.reason))
        = [(.refused, some .link)]
      ∧ (settle (deliver (farIn .running none) (.borrowRevoked 9))).tests.log.map (fun r => (r.state, r.reason))
        = [(.aborted, some .capacity)] := by decide +kernel

/-- A test's five counts are gone with the test (R167). -/
theorem test_counts_not_kept :
    (after (.testCancel svc (some 9)) frameOut).tests.tester = .stopped := by decide +kernel

/-- In CHARGE on the RC clock itself, with the counters of F1 and F2 at `m` and `n`. -/
def sensing (m n : Nat) : State :=
  (charging.onTests fun t => { t with
    current := t.current.map fun r => { r with params := .feeder [.f1, .f2] 7 5 2047 } }).onTests fun t =>
      { t with feeder := { t.feeder with
          lines := (t.feeder.lines.put .f1 { counter := m, state := some .counting }).put .f2
            { counter := n, state := some .counting } } }

theorem witness_FeederUnitCounts :
    feeding.run = .running ∧ feeding.tests.current.map (·.kind) = some .feeder
      ∧ feeding.tests.current.map (·.state) = some .running ∧ feeding.tests.current.map (·.pending) = some none
      ∧ feeding.tests.current.map (·.params) = some (.feeder [.f1, .f2] 4 5 2047)
      ∧ feeding.tests.feeder.timer.isSome = true
      ∧ charging.tests.feeder.phase = .charge ∧ (charging.tests.feeder.lines.get .f1).state = some .counting
      ∧ (charging.tests.feeder.lines.get .f2).state = some .counting
      ∧ ((after (.comparatorTrip .f2 4095) charging).tests.feeder.lines.get .f2).state ≠ some .counting
      ∧ ((after (.comparatorTrip .f2 4095) charging).tests.feeder.lines.get .f2).state.isSome = true
      ∧ (sensing 4094 2048).tests.current.map (·.params) = some (.feeder [.f1, .f2] 7 5 2047)
      ∧ (sensing 4094 2048).tests.feeder.phase = .charge ∧ (sensing 4094 2048).tests.feeder.ahead = 0
      ∧ 4094 + 1 ≤ 4095 ∧ 4095 < (sensing 4095 2048).tests.feeder.lines.f1.counter + 1 := by
  decide +kernel

/-- Selector 7 counts the RC clock itself; the tick past 4095 overflows one line and is one tick for the other (R158,
R159). -/
theorem test_sense_cycle :
    (senseCycle (sensing 4094 2048)).tests.feeder.lines.f1 = { counter := 4095, state := some .counting }
      ∧ (senseCycle (sensing 4095 2048)).tests.feeder.lines.f1 = { counter := 4095, state := some .overflow }
      ∧ (senseCycle (sensing 4095 2048)).tests.feeder.lines.f2 = { counter := 2049, state := some .counting } := by
  decide +kernel

/-- The second and last frame is out. -/
def lastOut : State := after .frameSent (after (.frameReceived (frameContent .loopFar 64 0)) frameOut)

theorem witness_LoopFramesCounted :
    looping.run = .running ∧ looping.tests.current = some { farRec with state := .running }
      ∧ loopParams farRec.params = some (64, 2, 0) ∧ looping.tests.tester.running = true
      ∧ looping.tests.tester.outstanding = none ∧ frameOut.tests.tester.outstanding = some 0
      ∧ isReturnOf .loopFar 0 (frameContent .loopFar 64 0) = true
      ∧ isReturnOf .loopFar 0 (frameContent .loopFar 64 0 ++ [0]) = true
      ∧ frameContent .loopFar 64 0 ++ [0] ≠ frameContent .loopFar 64 0 ∧ isReturnOf .loopFar 0 [] = false
      ∧ frameOut.tests.tester.timer.isSome = true ∧ frameOut.tests.tester.sent < 2
      ∧ 2 ≤ lastOut.tests.tester.sent ∧ lastOut.tests.tester.timer.isSome = true
      ∧ lastOut.tests.tester.outstanding = some 1 ∧ site.tests.tester.running = false := by decide +kernel

theorem test_loop_verdict :
    (after (.frameReceived (frameContent .loopFar 64 1)) lastOut).tests.log.map (fun r => (r.state, r.reason))
        = [(.pass, none)]
      ∧ (after .returnTimerExpiry lastOut).tests.log.map (fun r => (r.state, r.reason)) = [(.fail, some .limit)] := by
  decide +kernel

/-- TEST READ shows the outstanding frame of the tester, or none (R164, R167; the worked sequence of section 8.2). -/
theorem test_test_read_outstanding :
    kv "outstanding" (.optNat none) ∈ testerPairs { farRec with state := .running } looping.tests.tester
      ∧ kv "outstanding" (.optNat (some 0)) ∈ testerPairs { farRec with state := .running } frameOut.tests.tester := by
  decide +kernel

/-- What SCH_TX sends (R163): the frame of the next sequence number, and nothing while one is outstanding. -/
theorem test_sch_tx :
    frameWire (frameContent .loopFar 2 0x1FF) = [0x7E, 0x00, 0x05, 0x46, 0x01, 0xFF, 0xFF, 0x00, 0x7E]
      ∧ (schTx looping).length = 64 + 7 ∧ schTx looping = frameWire (frameContent .loopFar 64 0)
      ∧ schTx frameOut = [] ∧ schTx site = [] := by decide +kernel

def quietSite : State := site.onSite fun x => { x with quietMs := 255000 }

theorem witness_SiteSettingsSet :
    Executes site svc (.group .sitePhase)
      ∧ feederArgsOk { feeder0 with lo := some 0, hi := some 4095, openLimit := some 4095 } = true
      ∧ (((lined site).cfg.feeders.get .f0).with { feeder0 with hi := some 4095 }).lo
          ≤ (((lined site).cfg.feeders.get .f0).with { feeder0 with hi := some 4095 }).hi
      ∧ halfDue ((lined site).settings fun cfg => { cfg with quiet := 0 }) = false
      ∧ expiryDue ((lined site).settings fun cfg => { cfg with quiet := 0 }) = false
      ∧ halfDue ((lined quietSite).settings fun cfg => { cfg with quiet := 255 }) = true
      ∧ expiryDue ((lined quietSite).settings fun cfg => { cfg with quiet := 255 }) = true :=
  ⟨site_executes _, by decide, by decide +kernel, by decide +kernel, by decide +kernel, by decide +kernel,
    by decide +kernel⟩

/-- `fit` with every kind of the acceptance mask recorded as passed. -/
def proven : State := fit.onTests fun t => { t with acceptance :=
  { feeder := .pass 1, loopNear := .pass 2, loopFar := .absent, pulse := .absent, probe := .pass 3 } }

def quietFit : State := fit.onSite fun x => { x with quietMs := 30000, expired := true }

theorem witness_PhaseRequestsAct :
    Executes fit svc (.group .sitePhase) ∧ Executes fit svc (.siteIn .sitePhase)
      ∧ (lined fit).site.phase = .staging ∧ (lined fit).tests.current = none ∧ (lined fit).link.state = .up
      ∧ (lined fit).timing.grade ≠ .oscFail ∧ mainQuiet (lined fit) = false ∧ mainQuiet (lined quietFit) = true
      ∧ Executes proven svc (.group .sitePhase) ∧ maskMet (lined proven) = true
      ∧ Executes onAirSite svc (.group .sitePhase) ∧ (lined onAirSite).site.phase ≠ .staging :=
  ⟨executes_svc (by decide +kernel), executes_svc (by decide +kernel), by decide +kernel, by decide +kernel,
    by decide +kernel, by decide +kernel, by decide +kernel, by decide +kernel, executes_svc (by decide +kernel),
    by decide +kernel, executes_svc (by decide +kernel), by decide +kernel⟩

/-- `fit` under the link claim of a LOOP_NEAR test. -/
def fitClaimed : State :=
  { fit with tests := claimed.tests, link := { fit.link with claim := some 9 } }

/-- Below SITE on the service port. -/
def fitTenant : State := fit.onPort .service fun x => { x with access := .tenant 0 }

theorem witness_PhaseRequestsAct_refused :
    Executes fitClaimed svc (.group .sitePhase) ∧ (lined fitClaimed).site.phase = .staging
      ∧ (lined fitClaimed).tests.current.map (·.number) = some 9 ∧ (lined fitClaimed).link.claim = some 9
      ∧ Executes site svc (.group .sitePhase) ∧ (lined site).site.phase = .staging
      ∧ (lined site).tests.current = none ∧ (lined site).link.state ≠ .up
      ∧ TestKind.probe ∈ (lined fit).cfg.acceptMask ∧ (lined fit).tests.acceptance.get .probe = .absent
      ∧ Takes fitTenant svc ∧ ((lined fitTenant).port .service).access ≠ .site
      ∧ Executes liveSite svc (.siteIn .sitePhase) ∧ (lined liveSite).site.phase ≠ .staging :=
  ⟨executes_svc (by decide +kernel), by decide +kernel, by decide +kernel, by decide +kernel,
    executes_svc (by decide +kernel), by decide +kernel, by decide +kernel, by decide +kernel, by decide +kernel,
    by decide +kernel, ⟨rfl, by decide +kernel⟩, by decide +kernel, executes_svc (by decide +kernel), by decide +kernel⟩

/-- A port below SITE that meets the minimum of SITE_PHASE: FORCE is refused with NO LEVEL before the key that it does
not take (R190). -/
theorem test_force_first :
    let s := (fit.onPort .service fun x => { x with access := .tenant 0 }).settings fun cfg =>
      { cfg with minima := cfg.minima.put .sitePhase .opened }
    lastSaid (after (.goLive { svc with extra := true } true) s) = no .noLevel
      ∧ lastSaid (after (.goLive { svc with extra := true } false) s) = no .noRange := by decide +kernel

/-- A RESTART that waits for the lines of the main port. -/
def restarting : State := site.onSite fun x => { x with restart := some { port := .main, lines := 1 } }

theorem witness_RestartNoted :
    Executes site svc (.siteIn .sitePhase) ∧ (lined site).site.restart = none
      ∧ Executes restarting svc (.siteIn .sitePhase) ∧ (lined restarting).site.restart.isSome = true :=
  ⟨executes_svc (by decide +kernel), by decide +kernel, executes_svc (by decide +kernel), by decide +kernel⟩

/-- The test of MAIN in state `st` with the quiet count at its period; one test of each port is queued. -/
def mainTest (st : TestState) (pending : Option (Verdict × Option TestReason)) (owner : Port) : State :=
  let s := { liveSite with share := { liveSite.share with borrow := .waiting 2 9 } }
  s.onTests fun t => { t with
    current := some { farRec with state := st, pending := pending, owner := owner }
    queue := [{ pulseRec with state := .queued, owner := .main, number := 10 }, { pulseRec with state := .queued }] }

/-- The tests of MAIN end as the site enters AUTONOMOUS, those of SERVICE run on (R150). -/
theorem test_main_tests_end :
    (after .quietExpired (mainTest .running none .main)).tests.log.map (fun r => (r.number, r.state, r.reason))
        = [(10, .aborted, some .quiet), (9, .aborted, some .quiet)]
      ∧ (after .quietExpired (mainTest .deferred none .main)).tests.log.map (fun r => (r.number, r.state, r.reason))
        = [(10, .aborted, some .quiet), (9, .aborted, some .quiet)]
      ∧ (after .quietExpired (mainTest .running none .service)).tests.log.map (·.number) = [10]
      ∧ (after .quietExpired (mainTest .running none .service)).tests.current.map (·.state) = some .running := by
  decide +kernel

theorem witness_QuietPointsReached_tests :
    (mainTest .running none .main).tests.current.map (fun r => (r.owner, r.state, r.pending))
        = some (.main, .running, none)
      ∧ (mainTest .deferred none .main).tests.current.map (fun r => (r.owner, r.state)) = some (.main, .deferred)
      ∧ (mainTest .running none .service).tests.current.map (·.owner) = some .service
      ∧ (mainTest .running none .main).site.phase = .live ∧ (mainTest .running none .main).run = .running := by
  decide +kernel

theorem witness_QuietPointsReached :
    site.run = .running ∧ 2 ≤ (site.settings fun cfg => { cfg with quiet := 2 }).cfg.quiet ∧ site.cfg.quiet ≠ 0
      ∧ site.site.expired = false ∧ site.site.phase ≠ .live ∧ liveSite.site.phase = .live
      ∧ liveSite.site.expired = false ∧ site.site.phase ≠ .autonomous
      ∧ (after .quietExpired liveSite).site.phase = .autonomous := by decide +kernel

theorem witness_PortOwnedRequestsAct : Executes site svc (.group .view) ∧ (60 : Nat) ≤ 60 :=
  ⟨site_executes _, by decide⟩

def lockedOut : State := site.onPort .service fun x => { x with lockout := some 30000, mismatches := 3 }

def twiceFailed : State := site.onPort .service fun x => { x with mismatches := 2 }

theorem witness_UnlockAndLockAct :
    Executes site svc .nothing ∧ namedLevel (cred0 none) = some none ∧ namedCred (some (.text key8)) = some (some key8)
      ∧ Executes lockedOut svc .nothing ∧ ((lined lockedOut).port .service).lockout.isSome = true
      ∧ Executes svcIn svc .nothing ∧ ((lined svcIn).port .service).lockout = none
      ∧ credMatches (lined svcIn) .service none key8 = true ∧ credMatches (lined site) .service none key8 = false
      ∧ ((lined site).port .service).mismatches < 2 ∧ Executes twiceFailed svc .nothing
      ∧ 2 ≤ ((lined twiceFailed).port .service).mismatches
      ∧ credMatches (lined twiceFailed) .service none key8 = false :=
  ⟨executes_svc (by decide +kernel), by decide, by decide, executes_svc (by decide +kernel), by decide +kernel,
    executes_svc (by decide +kernel), by decide +kernel, by decide +kernel, by decide +kernel, by decide +kernel,
    executes_svc (by decide +kernel), by decide +kernel, by decide +kernel⟩

/-- The minimum of ALIGN is SITE and tenant 1 has a credential. -/
def keyed (s : State) : State := s.settings fun cfg =>
  { cfg with minima := cfg.minima.put .align .site
             tenants := cfg.tenants.set 1 { cfg.tenants.get 1 with defined := true, cred := some key8 } }

/-- UNLOCK of tenant 1. -/
def asTenant : CredArgs := { cred0 (some (.text key8)) with level := some (.known .tenant), tenant := some 1 }

/-- `s` with the service port no longer SITE. -/
def dropped (s : State) : State := s.onPort .service fun x => { x with access := .opened }

/-- An UNLOCK that falls from SITE; alignment records that the drop ends, gives to MAST or leaves; and the port's bus
hold without a transaction, with one in progress, with its expiry noted and with its deadline passed. -/
theorem witness_UnlockAndLockAct_drops :
    Executes (keyed aligned) svc .nothing ∧ namedLevel asTenant = some (some 1)
      ∧ credMatches (lined (keyed aligned)) .service (some 1) key8 = true
      ∧ ((lined (keyed aligned)).port .service).access = .site
      ∧ Executes aligned svc .nothing ∧ Executes mastLater svc .nothing ∧ Executes holding svc .nothing
      ∧ Executes (onBusCont none (some svcHold)) svc .nothing
      ∧ (levelAfterDrop (dropped (keyed aligned)) .service).1.align = none
      ∧ (levelAfterDrop (dropped (keyed mastLater)) .service).1.align.map (·.owner) = some .mast
      ∧ (levelAfterDrop (dropped (keyed otherAligned)) .service).1 = (keyed otherAligned).level
      ∧ (levelAfterDrop (dropped site) .service).1 = site.level
      ∧ busAfterLock holding.bus .service = ({ holding.bus with hold := none }, true, [.busChoose])
      ∧ busAfterLock holding.bus .main = (holding.bus, false, [])
      ∧ (busAfterLock (onBusCont none (some svcHold)).bus .service).1.current.map (·.expiry) = some (some .lock)
      ∧ (busAfterLock (onBusCont none (some { svcHold with left := 0 })).bus .service).1.current.map (·.expiry)
          = some (some .deadline)
      ∧ (busAfterLock (onBusCont (some .deadline) none).bus .service).1.current.map (·.expiry)
          = some (some .deadline) :=
  ⟨executes_svc (by decide +kernel), by decide, by decide +kernel, by decide +kernel, executes_svc (by decide +kernel),
    executes_svc (by decide +kernel), executes_svc (by decide +kernel), executes_svc (by decide +kernel),
    by decide +kernel, by decide +kernel, by decide +kernel, by decide +kernel, by decide +kernel, by decide +kernel,
    by decide +kernel, by decide +kernel, by decide +kernel⟩

/-- LOCK ends the alignment and the bus hold of the port (R52, R197). -/
theorem test_lock_drops :
    (after (.lock svc) (keyed aligned)).level.align = none ∧ (after (.lock svc) holding).bus.hold = none
      ∧ (after (.lock svc) holding).counts.busHoldExpired = 1
      ∧ (after (.unlock svc asTenant) (keyed aligned)).level.align = none := by decide +kernel

theorem witness_AccessSettingsSet :
    Executes site svc .site ∧ AlignOwnersEntitled site ∧ AlignOwnersEntitled { aligned with pending := [.lock svc] }
      ∧ (∃ t, step { aligned with pending := [.lock svc] } = .next t)
      ∧ Executes otherAligned svc .site
      ∧ (lined otherAligned).level.align.map (·.owner) = some (.port .main)
      ∧ inGroup ((lined otherAligned).settings fun cfg => { cfg with minima := cfg.minima.put .align .opened }) .main
          .align = true
      ∧ namedCred (some .absent) = some none ∧ namedLevel (cred0 none) = some none
      ∧ namedLevel { cred0 none with level := some (.known .tenant), tenant := some 3 } = some (some 3)
      ∧ Group.view ≠ .align
      ∧ inGroup ((lined otherAligned).settings fun cfg => { cfg with minima := cfg.minima.put .align .site }) .main
          .align = false := by
  refine ⟨executes_svc (by decide +kernel), ?_, ?_, ⟨_, rfl⟩, executes_svc (by decide +kernel), by decide +kernel,
    by decide +kernel, by decide, by decide, by decide, by decide, by decide +kernel⟩
  · intro p a h _
    exact nomatch (show site.level.align = none by decide +kernel).symm.trans h
  · intro p a h ho
    have h' : ∀ a ∈ aligned.level.align, ∀ p ∈ [Port.main, .service], a.owner = .port p →
        inGroup aligned p .align = true := by decide +kernel
    exact h' a h p (by cases p <;> decide) ho

/-- The main port meets the minimum of ALIGN and owns the record: the premise of ACCESS SET's clauses. -/
theorem witness_AccessSettingsSet_owner :
    AlignOwnersEntitled (otherAligned.onPort .main fun x => { x with access := .site }) := by
  intro p a h ho
  have h' : ∀ a ∈ otherAligned.level.align, ∀ p ∈ [Port.main, .service], a.owner = .port p →
      inGroup (otherAligned.onPort .main fun x => { x with access := .site }) p .align = true := by decide +kernel
  exact h' a h p (by cases p <;> decide) ho

theorem witness_CountersReadAndCleared :
    Takes site svc ∧ inGroup (lined site) .service .view = true
      ∧ (lined site).counts.select .reshares = .plain 1
      ∧ (lined site).counts.select .srcGood = .source (lined site).counts.srcGood
      ∧ (lined site).counts.select .drops = .port (lined site).counts.drops ∧ atSite (lined site) .service = true :=
  ⟨site_takes, by decide +kernel, by decide +kernel, rfl, rfl, by decide +kernel⟩

def spaced (pending : Bool) : State :=
  site.onPort .service fun x => { x with spacingTimer := some 1, changePending := pending }

/-- The transmit queue of the service port holds `n` lines. -/
def txFilled (n : Nat) : State := site.onPort .service fun x => { x with txq := List.replicate n (resetLine "POWER" false) }

def summaryLines : Nat :=
  (noticeLines site .service ["PORT", "SUMMARY"] (site.port .service).summary.pairs).length

/-- Change mode ON, the spacing timer at `t`. -/
def changing (t : Option Nat) : State :=
  (site.settings fun cfg => { cfg with ports := cfg.ports.put .service { cfg.ports.get .service with change := true } }).onPort
    .service fun x => { x with spacingTimer := t, txq := [] }

theorem witness_PortTimersAndSending :
    site.run = .running ∧ (lockedOut.port .service).lockout.isSome = true
      ∧ (site.port .service).intervalTimer.isSome = true
      ∧ (site.port .service).txq.length + summaryLines + 3 ≤ 24
      ∧ 24 < ((txFilled 21).port .service).txq.length + summaryLines + 3
      ∧ ((spaced false).port .service).spacingTimer.isSome = true ∧ ((spaced false).port .service).changePending = false
      ∧ ((spaced true).port .service).changePending = true ∧ (site.port .service).txq ≠ []
      ∧ (site.port .service).rxq = []
      ∧ ((txFilled 20).port .service).txq.length + (noticeLines site .service ["SITE", "RESET"] []).length + 3 ≤ 24
      ∧ 24 < ((txFilled 21).port .service).txq.length + (noticeLines site .service ["SITE", "RESET"] []).length + 3
      ∧ NoticeClass.site ∈ (site.cfg.ports.get .service).mask
      ∧ EventFlag.jump ∉ (site.port .service).summary.events
      ∧ EventFlag.jump ∈ ((setFlag site .service .jump).port .service).summary.events
      ∧ (site.cfg.ports.get .service).change = false ∧ ((changing none).cfg.ports.get .service).change = true
      ∧ ((changing none).port .service).spacingTimer = none
      ∧ ((changing (some 5)).port .service).spacingTimer.isSome = true
      ∧ (site.port .service).summary.vals.val .phase = (currentVals site).val .phase
      ∧ (site.port .service).summary.vals.val .phase ≠ (currentVals liveSite).val .phase := by decide +kernel

/-- The service port's record in phase LIVE. -/
def liveRecord (s : State) : PortState :=
  let x := s.port .service
  { x with summary := { x.summary with vals := { x.summary.vals with phase := .live } } }

/-- A change of the site phase under change mode ON: the PHASE notice leaves before the SUMMARY with the new phase
(R178). -/
theorem test_phase_before_summary :
    let c := changing none
    let s : State := { c with
      site := { c.site with phase := .live }, share := { c.share with phase := .live }
      ports := { c.ports with service := liveRecord c } }
    ((after (.stage svc) s).port .service).txq.filterMap (fun l => l.words.head?) = ["SITE", "PORT", "OK"] := by
  decide +kernel

/-- A switch is written ON or OFF, but in enabled= and defined= (R202). -/
theorem test_switch_text :
    (lastSaid (after (.acceptRead svc) site)).2.getLast?.map (·.text) = some "met=OFF".toList
      ∧ Val.text (.yesNo true) = "yes".toList := by decide +kernel

def aLine : RxLine := { chars := "7 LOCK".toList, overlong := false, bad := false }

/-- The service port waits for the lines of its reply to leave, with `n` lines in its receive queue. -/
def busyPort (n : Nat) : State := site.onPort .service fun x =>
  { x with rxq := List.replicate n aLine, waiting := [resetLine "POWER" false] }

theorem witness_LinesTaken :
    site.run = .running
      ∧ ((([] : List RxChar).foldl Assembly.take (site.port .service).assembly).line).isEmpty = true
      ∧ (((chars "7 LOCK").foldl Assembly.take (site.port .service).assembly).line).isEmpty = false
      ∧ ((chars "7 LOCK").foldl Assembly.take (site.port .service).assembly).line = aLine
      ∧ canTake (busyPort 3) .service = false ∧ ((busyPort 3).port .service).rxq.length < 4
      ∧ canTake (busyPort 4) .service = false ∧ 4 ≤ ((busyPort 4).port .service).rxq.length
      ∧ canTake site .service = true ∧ (site.port .service).rxq = []
      ∧ judgeLine .service .optional aLine = .request (.lock svc) ∧ (requestOf (.lock svc)).isSome = true
      ∧ ((after (.lock svc) site).port .service).rxq = [] := by decide +kernel

def lineOf (t : String) : RxLine := { aLine with chars := t.toList }

/-- The service port has sent its last reply but one and holds the lines `l`. -/
def queuing (l : List String) (s : State) : State := s.onPort .service fun x =>
  { x with rxq := l.map lineOf, waiting := [resetLine "POWER" false], txq := [resetLine "POWER" false] }

theorem witness_PortTimersAndSending_lines :
    ((queuing ["7 LOCK"] site).port .service).rxq = [lineOf "7 LOCK"]
      ∧ ((queuing ["7 LOCK"] site).port .service).txq = resetLine "POWER" false :: []
      ∧ ((queuing ["7 LOCK"] site).port .service).waiting.drop (24 - ([] : List TxLine).length) = []
      ∧ (queuing ["7 LOCK"] site).site.restart = none
      ∧ ((queuing ["7 LOCK"] restarting).site.restart.map (·.port)) = some .main
      ∧ judgeLine .service .optional (lineOf "7 LOCK") = .request (.lock svc)
      ∧ judgeLine .service .optional (lineOf "7 NO SUCH") = .bad (.unknownVerb { value := 7, width := 1 })
      ∧ canTake (site.onPort .service fun x => { x with rxq := [lineOf "7 LOCK"] }) .service = true := by decide +kernel

/-- The end of a line that is sent takes the head of the receive queue, and the end of that line the next (R188). -/
theorem test_waiting_lines :
    let t := after (.transmitLineSent .service) (queuing ["7 NO SUCH", "8 LOCK"] site)
    (t.port .service).rxq = [] ∧ (t.port .service).access = .opened
      ∧ (t.port .service).txq.map (·.words) = [["SITE", "RESET"], ["NO", "UNKNOWN"], ["OK"]] := by decide +kernel

/-- GO LIVE leaves STAGING as a line that a port takes, and as one that waited; other lines do not (R177). -/
theorem test_phase_by_lines :
    (runLine proven .service (lineOf "7 GO LIVE")).site.phase = .live
      ∧ (after (.transmitLineSent .service) (queuing ["7 SITE READ", "8 GO LIVE"] proven)).site.phase = .live
      ∧ (after (.transmitLineSent .service) (queuing ["7 SITE READ"] proven)).site.phase = .staging := by decide +kernel

theorem witness_PhaseRequestsAct_lines :
    proven.site.phase = .staging
      ∧ (∀ x ∈ ((queuing ["7 SITE READ"] proven).port .service).rxq, ∀ mode rq force,
          judgeLine .service mode x ≠ .request (.goLive rq force))
      ∧ (∀ x ∈ (proven.port .service).rxq, ∀ mode rq force,
          judgeLine .service mode x ≠ .request (.goLive rq force)) := by
  refine ⟨by decide +kernel, fun x hx mode rq force => ?_, fun x hx => ?_⟩
  · cases List.mem_singleton.mp (show x ∈ [lineOf "7 SITE READ"] from hx)
    have h : judgeLine .service .optional (lineOf "7 SITE READ") = .request (.siteRead svc)
        ∧ judgeLine .service .required (lineOf "7 SITE READ") = .bad (.badCheck { value := 7, width := 1 }) := by
      decide +kernel
    cases mode
    · rw [h.2]; exact fun e => nomatch e
    · rw [h.1]; exact fun e => nomatch e
  · exact nomatch (show x ∈ ([] : List RxLine) from hx)

/-- The judgement of a line in check mode `mode`. -/
def judged (mode : CheckMode) (x : RxLine) : Judged := judgeLine .service mode x

def tag7 : Tag := { value := 7, width := 1 }

/-- The tests of R189 in their order: each line fails the test named and every later one that it can. -/
theorem witness_LinesTaken_judged :
    judged .required { lineOf "x LOCK" with overlong := true, bad := true } = .bad .noTag
      ∧ judged .required (lineOf "12345 LOCK") = .bad .noTag
      ∧ judged .required { lineOf "7 LOCK" with overlong := true, bad := true } = .bad (.overlong tag7)
      ∧ judged .required { lineOf "7 LOCK" with bad := true } = .bad (.badCheck tag7)
      ∧ judged .optional { lineOf "7 LOCK *00" with bad := true } = .bad (.badCheck tag7)
      ∧ judged .optional { lineOf "7 NO SUCH" with bad := true } = .bad (.badGrammar tag7)
      ∧ judged .optional (lineOf "7  NO") = .bad (.badGrammar tag7)
      ∧ judged .optional (lineOf "7 NO a=1 a=2") = .bad (.badGrammar tag7)
      ∧ judged .optional (lineOf "7 NO SUCH") = .bad (.unknownVerb tag7) := by decide +kernel

def lock : List Char := ['L', 'O', 'C', 'K']

theorem lock_unchecked : ¬∃ body a b, '7' :: ' ' :: lock = body ++ ['*', a, b] := by
  rintro ⟨body, a, b, h⟩
  have e : checkOf (body ++ ['*', a, b]) = some (body, a, b) := by simp [checkOf]
  rw [← h] at e
  exact nomatch e

theorem witness_LinesTaken_spelled :
    Tagged ('7' :: ' ' :: lock) tag7 lock ∧ CheckPasses .optional ('7' :: ' ' :: lock)
      ∧ Grammatical ('7' :: ' ' :: lock) lock [lock] []
      ∧ (formatOf [lock] formats).isSome = true ∧ (formatOf [['N', 'O']] formats).isNone = true :=
  ⟨⟨['7'], rfl, by decide, by decide, by simp [isDigit], by decide +kernel⟩, Or.inr ⟨rfl, lock_unchecked⟩,
    ⟨⟨lock, by decide, rfl, Or.inr ⟨rfl, lock_unchecked⟩⟩, by decide, by decide, by simp, by decide, by simp⟩,
    by decide +kernel, by decide +kernel⟩

theorem witness_RequestsRefused :
    (requestOf (.levelRead svc)).map (·.1.port) = some .service ∧ shut.run = .running
      ∧ canTake shut .service = true ∧ Need.met (lined shut) .service (.group .view) = false
      ∧ canTake site .service = true ∧ Need.met (lined site) .service (.group .view) = true
      ∧ (requestOf (.levelRead { svc with extra := true })).map (·.1.extra) = some true
      ∧ canTake (busyPort 0) .service = false := by decide +kernel

/-- In STAGING with the image that the end of SAVE left. -/
theorem witness_StoreRequestsAct :
    Executes site svc (.group .store) ∧ (lined site).store.writing = none
      ∧ (lined site).store.image.number < 2 ^ 32 - 1 ∧ Executes saving svc (.group .store)
      ∧ (lined saving).store.writing.isSome = true ∧ Executes saved svc (.group .store)
      ∧ (lined saved).site.phase = .staging ∧ (lined saved).store.writing = none ∧ (lined saved).tests.current = none
      ∧ (lined saved).store.image.good = true ∧ (lined saved).link.state = .off ∧ saving.run = .running
      ∧ saving.store.writing.map (·.port) = some .service :=
  ⟨site_executes _, by decide +kernel, by decide +kernel, executes_svc (by decide +kernel), by decide +kernel,
    executes_svc (by decide +kernel), by decide +kernel, by decide +kernel, by decide +kernel, by decide +kernel,
    by decide +kernel, by decide +kernel, by decide +kernel⟩

theorem witness_StoreReadReplies :
    Takes site svc ∧ inGroup (lined site) .service .store = true ∧ (lined site).store.writing = none
      ∧ Takes saving svc ∧ inGroup (lined saving) .service .store = true
      ∧ (lined saving).store.writing.map (·.number) = some 1
      ∧ Takes State.reset svc ∧ inGroup (lined State.reset) .service .store = false
      ∧ inGroup (lined site) .service .view = true :=
  ⟨site_takes, by decide +kernel, by decide +kernel, ⟨by decide +kernel, by decide +kernel⟩, by decide +kernel,
    by decide +kernel, ⟨rfl, by decide +kernel⟩, by decide +kernel, by decide +kernel⟩

/-- Two transactions of the service port have ended, the second with tag 7. -/
def reported : State :=
  let x : Txn := { probeEnd .nak [] with tag := some { value := 9999, width := 4 } }
  let y : Txn := { probeEnd .ok [1] with tag := some tag7 }
  site.onBus fun b => { b with results := b.results.put .service [x, y] }

def logging : State := after (.comparatorTrip .f2 300) (after (.comparatorTrip .f1 300) charging)

theorem witness_ReadsAnswer :
    Takes feeding svc ∧ inGroup (lined feeding) .service .view = true
      ∧ (lined feeding).tests.current.map (·.number) = some 1 ∧ (lined logging).tests.log.map (·.number) = [1]
      ∧ (∃ r, (lined queued).tests.queue.find? (fun x => x.number == 1) = some r ∧ r.number = 1)
      ∧ (lined queued).tests.current.map (·.number) ≠ some 1
      ∧ inGroup (lined site) .service .bus = true ∧ inRange 0 9999 (some 9999) = true
      ∧ ((lined reported).bus.results.get .service).length = 2
      ∧ inGroup (lined site) .service .carrier = true ∧ ((lined site).port .service).access = .site
      ∧ inGroup (lined stranger) .service .carrier = true ∧ ((lined stranger).port .service).access = .tenant 0 :=
  ⟨⟨by decide +kernel, by decide +kernel⟩, by decide +kernel, by decide +kernel, by decide +kernel,
    ⟨_, Option.eq_some_of_isSome (by decide +kernel), by decide +kernel⟩, by decide +kernel, by decide +kernel,
    rfl, by decide +kernel, by decide +kernel, by decide +kernel, by decide +kernel, by decide +kernel⟩

/-- `site` with a passed loop test of kind `k` in its log. -/
def looped (k : TestKind) : State := site.onTests fun t => { t with
  log := [{ farRec with kind := k, state := .pass, results := some (.loop none 2 2 0 0 0) }] }

/-- The LOOPON outcome is a result of LOOP_NEAR alone (R165, R166). -/
theorem test_loopon_near :
    (resultRecords .loopNear (some (.loop none 2 2 0 0 0))).1.map (·.key) = ["loopon", "sent", "ok", "errored", "lost", "stray"]
      ∧ ((lastSaid (after (.resultRead svc (some 9)) (looped .loopFar))).2.map (·.key)).contains "loopon" = false
      ∧ ((lastSaid (after (.resultRead svc (some 9)) (looped .loopNear))).2.map (·.key)).contains "loopon" = true := by
  decide +kernel

/-- The results of the port with a tag, alone. -/
theorem test_bus_result_of :
    (lastSaid (after (.busResult svc (some 7)) reported)).2.map (·.key)
      = ["tag", "status", "addr", "flags", "written", "read", "data"] := by decide +kernel

end Sys2Proof.Tests
end

section
/-! SUPPORT. The eligible order of a reshare (R119): sums over carriers, the sort, and which carriers stand in the
order and how. -/

namespace Sys2Proof.Machine

/-! ## Sums over the carriers -/

theorem sumOver_eq_sum (p : Fin 16 → Bool) (f : Fin 16 → Nat) : sumOver p f = ∑ c, if p c then f c else 0 :=
  (Fin.sum_univ_def _).symm

theorem sumOver_congr {p q : Fin 16 → Bool} {f g : Fin 16 → Nat} (hp : ∀ c, p c = q c)
    (hf : ∀ c, p c = true → f c = g c) : sumOver p f = sumOver q g := by
  rw [sumOver_eq_sum, sumOver_eq_sum]
  refine Finset.sum_congr rfl fun c _ => ?_
  rw [← hp c]
  split
  · next h => exact hf c h
  · rfl

theorem sumOver_add (p : Fin 16 → Bool) (f g : Fin 16 → Nat) :
    sumOver p (fun c => f c + g c) = sumOver p f + sumOver p g := by
  simp only [sumOver_eq_sum, ← Finset.sum_add_distrib]
  exact Finset.sum_congr rfl fun c _ => by split <;> rfl

/-- Equal sums of terms that do not exceed one another are equal term by term. -/
theorem eq_of_sumOver_eq {p : Fin 16 → Bool} {f g : Fin 16 → Nat} (hle : ∀ c, p c = true → f c ≤ g c)
    (h : sumOver p f = sumOver p g) (c : Fin 16) (hc : p c = true) : f c = g c := by
  rw [sumOver_eq_sum, sumOver_eq_sum] at h
  have hall := (Finset.sum_eq_sum_iff_of_le fun c _ => ?_).mp h c (Finset.mem_univ c)
  · rwa [if_pos hc, if_pos hc] at hall
  · split
    · next hp => exact hle c hp
    · exact le_rfl

/-- The sum along a list that holds each of its carriers once. -/
theorem sum_map_eq_sumOver {l : List (Fin 16)} (h : l.Nodup) (f : Fin 16 → Nat) :
    (l.map f).sum = sumOver (fun c => decide (c ∈ l)) f := by
  rw [sumOver_eq_sum, ← List.sum_toFinset f h]
  simp only [decide_eq_true_eq, ← List.mem_toFinset]
  rw [Finset.sum_ite_mem, Finset.univ_inter]

/-- The sum along the part of such a list that a test leaves. -/
theorem sum_map_filter_eq_sumOver {l : List (Fin 16)} (h : l.Nodup) (p : Fin 16 → Bool) (f : Fin 16 → Nat) :
    ((l.filter p).map f).sum = sumOver (fun c => decide (c ∈ l) && p c) f := by
  rw [sum_map_eq_sumOver (h.filter p)]
  exact sumOver_congr (fun c => by simp [List.mem_filter]) fun _ _ => rfl

/-! ## The sort -/

theorem mem_insertBy {α : Type} (le : α → α → Bool) (x y : α) (l : List α) :
    y ∈ insertBy le x l ↔ y = x ∨ y ∈ l := by
  induction l with
  | nil => simp [insertBy]
  | cons z l ih =>
    unfold insertBy
    split
    · simp
    · rw [List.mem_cons, ih, List.mem_cons]
      exact or_left_comm

theorem mem_sortBy {α : Type} (le : α → α → Bool) (y : α) (l : List α) : y ∈ sortBy le l ↔ y ∈ l := by
  induction l with
  | nil => rfl
  | cons z l ih => rw [sortBy, mem_insertBy, ih, List.mem_cons]

theorem insertBy_pairwise {α : Type} {R : α → α → Prop} (trans : ∀ x y z, R x y → R y z → R x z)
    (le : α → α → Bool) (x : α) (l : List α) (hl : l.Pairwise R)
    (hx : ∀ y ∈ l, if le x y then R x y else R y x) : (insertBy le x l).Pairwise R := by
  induction l with
  | nil => exact List.pairwise_singleton R x
  | cons y l ih =>
    have hy := hx y List.mem_cons_self
    obtain ⟨hyl, hl'⟩ := List.pairwise_cons.mp hl
    unfold insertBy
    split
    · next h =>
      rw [if_pos h] at hy
      refine List.pairwise_cons.mpr ⟨fun z hz => ?_, hl⟩
      rcases List.mem_cons.mp hz with rfl | hz
      · exact hy
      · exact trans _ _ _ hy (hyl z hz)
    · next h =>
      rw [if_neg h] at hy
      refine List.pairwise_cons.mpr ⟨fun z hz => ?_, ih hl' fun z hz => hx z (List.mem_cons_of_mem y hz)⟩
      rcases (mem_insertBy le x z l).mp hz with rfl | hz
      · exact hy
      · exact hyl z hz

/-- A stable sort: what holds between two elements as their keys put them, or as they stood where the keys are equal,
holds along the sorted list. -/
theorem sortBy_pairwise {α : Type} {R : α → α → Prop} (trans : ∀ x y z, R x y → R y z → R x z)
    (le : α → α → Bool) (l : List α) (h : l.Pairwise fun x y => if le x y then R x y else R y x) :
    (sortBy le l).Pairwise R := by
  induction l with
  | nil => exact List.Pairwise.nil
  | cons x l ih =>
    obtain ⟨hx, hl⟩ := List.pairwise_cons.mp h
    exact insertBy_pairwise trans le x _ (ih hl) fun y hy => hx y ((mem_sortBy le y l).mp hy)

/-! ## The eligible order -/

/-- The tables as a reshare takes them: the acknowledgement in line with the jump request. -/
def acked (s : State) : Share := { s.share with ack := s.share.jump }

/-- The eligible order of a reshare of `s`. -/
def admissionOrder (s : State) : List (Fin 16) := eligibleOrder s.cfg (acked s)

theorem precedes_trans (s : State) (x y z : Fin 16) (h : precedes s x y = true) (k : precedes s y z = true) :
    precedes s x z = true := by
  simp only [precedes, decide_eq_true_eq] at h k ⊢
  omega

theorem precedes_irrefl (s : State) (x : Fin 16) : precedes s x x = false := by
  simp [precedes]

theorem precedes_asymm (s : State) (x y : Fin 16) (h : precedes s x y = true) : precedes s y x = false := by
  cases k : precedes s y x with
  | false => rfl
  | true => exact (precedes_irrefl s x).symm.trans (precedes_trans s x y x h k) |>.symm

theorem sortKey_eq (s : State) (c : Fin 16) :
    sortKey s.cfg (acked s) c
      = (((s.cfg.carriers.get c).map (·.cls)).getD 0, ((s.share.carriers.get c).order).getD 0) := by
  unfold sortKey
  cases s.cfg.carriers.get c <;> rfl

/-- Of two carriers in index order the sort's key puts the one first that stands first (R119). -/
theorem keyBefore_precedes (s : State) (x y : Fin 16) (h : x < y) :
    if keyBefore (sortKey s.cfg (acked s) x) (sortKey s.cfg (acked s) y) then precedes s x y = true
    else precedes s y x = true := by
  rw [sortKey_eq, sortKey_eq]
  split
  · next k =>
    simp only [keyBefore, Bool.or_eq_true, Bool.and_eq_true, decide_eq_true_eq, beq_iff_eq] at k
    simp only [precedes, decide_eq_true_eq]
    omega
  · next k =>
    simp only [keyBefore, Bool.or_eq_true, Bool.and_eq_true, decide_eq_true_eq, beq_iff_eq] at k
    simp only [precedes, decide_eq_true_eq]
    omega

theorem admissionOrder_pairwise (s : State) : (admissionOrder s).Pairwise fun x y => precedes s x y = true :=
  sortBy_pairwise (precedes_trans s) _ _
    (((List.pairwise_lt_finRange 16).filter _).imp fun h => keyBefore_precedes s _ _ h)

theorem admissionOrder_nodup (s : State) : (admissionOrder s).Nodup :=
  (admissionOrder_pairwise s).imp fun {x y} h e => by
    rw [e, precedes_irrefl] at h
    cases h

/-- Of the carriers in a list in that order, those that stand before `c` are those that precede it. -/
theorem precedes_iff_mem {s : State} {pre post : List (Fin 16)} {c : Fin 16}
    (hp : (pre ++ c :: post).Pairwise fun x y => precedes s x y = true) {x : Fin 16} (hx : x ∈ pre ++ c :: post) :
    precedes s x c = true ↔ x ∈ pre := by
  obtain ⟨-, hc, hpre⟩ := List.pairwise_append.mp hp
  rcases List.mem_append.mp hx with hx | hx
  · exact ⟨fun _ => hx, fun hx => hpre x hx c List.mem_cons_self⟩
  · have hnot : precedes s x c = false := by
      rcases List.mem_cons.mp hx with rfl | hx
      · exact precedes_irrefl s x
      · exact precedes_asymm s c x ((List.pairwise_cons.mp hc).1 x hx)
    exact ⟨fun e => absurd (hnot.symm.trans e) Bool.false_ne_true, fun hx' => hpre x hx' c List.mem_cons_self⟩

theorem requesting_iff (s : State) (c : Fin 16) :
    (s.share.carriers.get c).state.requesting = true ↔ Requesting s c := by
  unfold Requesting OnAir
  cases (s.share.carriers.get c).state <;> simp [CarrierState.requesting]

theorem admitted_iff (s : State) (c : Fin 16) : (s.share.carriers.get c).state.admitted = true ↔ OnAir s c := by
  unfold OnAir
  cases (s.share.carriers.get c).state <;> simp [CarrierState.admitted]

/-- R119: why a carrier waits for its timing. -/
def Untimed (s : State) (d : CarrierDef) : Prop :=
  s.share.grade = .oscFail ∨ d.duplex = .tdd ∧ (s.share.grade ≠ .tddOk ∨ s.share.jump = true)

theorem blocked_phase (s : State) (d : CarrierDef) (r : Carrier) (h : s.share.phase = .staging) :
    blocked (acked s) d r = some .phase := if_pos h

theorem blocked_timing (s : State) (d : CarrierDef) (r : Carrier) (h : s.share.phase ≠ .staging)
    (k : Untimed s d) : blocked (acked s) d r = some .timing := (if_neg h).trans (if_pos k)

theorem blocked_restore (s : State) (d : CarrierDef) (r : Carrier) (h : s.share.phase ≠ .staging)
    (k : ¬Untimed s d) (m : r.restore.isSome) : blocked (acked s) d r = some .restore :=
  (if_neg h).trans ((if_neg k).trans (if_pos m))

/-- The reasons that block a carrier, none of them a reason of the ceiling pass. -/
theorem blocked_cases (s : State) (d : CarrierDef) (r : Carrier) :
    blocked (acked s) d r = some .phase ∧ s.share.phase = .staging
      ∨ blocked (acked s) d r = some .timing ∧ Untimed s d
      ∨ blocked (acked s) d r = some .restore ∧ r.restore.isSome
      ∨ blocked (acked s) d r = none ∧ s.share.phase ≠ .staging ∧ ¬Untimed s d ∧ r.restore = none := by
  by_cases h : s.share.phase = .staging
  · exact .inl ⟨blocked_phase s d r h, h⟩
  · by_cases k : Untimed s d
    · exact .inr (.inl ⟨blocked_timing s d r h k, k⟩)
    · cases m : r.restore with
      | some n =>
        have hm : r.restore.isSome := by rw [m]; rfl
        exact .inr (.inr (.inl ⟨blocked_restore s d r h k hm, rfl⟩))
      | none =>
        have hm : ¬r.restore.isSome := by rw [m]; exact Bool.false_ne_true
        exact .inr (.inr (.inr ⟨(if_neg h).trans ((if_neg k).trans (if_neg hm)), h, k, rfl⟩))

theorem blocked_none_iff (s : State) (d : CarrierDef) (r : Carrier) :
    blocked (acked s) d r = none ↔ s.share.phase ≠ .staging ∧ ¬Untimed s d ∧ r.restore = none := by
  rcases blocked_cases s d r with ⟨e, h⟩ | ⟨e, h⟩ | ⟨e, h⟩ | ⟨e, h⟩
  · simp [e, h]
  · simp [e, h]
  · simp [e, Option.isSome_iff_ne_none.mp h]
  · simp [e, h]

theorem eligible_iff (s : State) (c : Fin 16) (d : CarrierDef) :
    Eligible s c d ↔ s.cfg.carriers.get c = some d ∧ Requesting s c
      ∧ blocked (acked s) d (s.share.carriers.get c) = none := by
  rw [blocked_none_iff]
  rfl

theorem mem_admissionOrder (s : State) (c : Fin 16) : c ∈ admissionOrder s ↔ ∃ d, Eligible s c d := by
  simp only [eligible_iff, ← requesting_iff]
  unfold admissionOrder eligibleOrder
  rw [mem_sortBy, List.mem_filter]
  unfold eligible
  cases h : s.cfg.carriers.get c with
  | none => simp
  | some d => simp [acked]

theorem Eligible.mem {s : State} {c : Fin 16} {d : CarrierDef} (h : Eligible s c d) : c ∈ admissionOrder s :=
  (mem_admissionOrder s c).mpr ⟨d, h⟩

end Sys2Proof.Machine
end

section
/-! SUPPORT. Admission (R120, R121): what one test of a pass can do, and which carriers the two
passes over an order take. -/

namespace Sys2Proof.Machine

/-! ## One test of a pass -/

theorem get_set {α : Type} {n : Nat} (v : Vector α n) (i j : Fin n) (x : α) :
    (v.set i x).get j = if j = i then x else v.get j := by
  rw [Vector.get_eq_getElem, Vector.get_eq_getElem, Vector.getElem_set]
  simp only [Fin.ext_iff, eq_comm]

/-- The carrier is defined, and its minimum fits within its tenant's limit and the remaining pool. -/
def Admission.Room (cfg : Settings) (limit : Fin 4 → Nat) (a : Admission) (c : Fin 16) : Prop :=
  ∃ d, cfg.carriers.get c = some d ∧ a.totals.get d.tenant + d.min ≤ limit d.tenant ∧ d.min ≤ a.left

theorem Admission.room_iff {cfg : Settings} {limit : Fin 4 → Nat} {a : Admission} {c : Fin 16} {d : CarrierDef}
    (hd : cfg.carriers.get c = some d) :
    a.Room cfg limit c ↔ a.totals.get d.tenant + d.min ≤ limit d.tenant ∧ d.min ≤ a.left := by
  simp [Admission.Room, hd]

theorem Admission.not_room {cfg : Settings} {limit : Fin 4 → Nat} {a : Admission} {c : Fin 16}
    (hd : cfg.carriers.get c = none) : ¬a.Room cfg limit c := by
  simp [Admission.Room, hd]

/-- What a test of a pass does: it admits the carrier it tests where that has room, and it changes nothing else but the
reasons. -/
structure IsPass (cfg : Settings) (limit : Fin 4 → Nat) (test : Admission → Fin 16 → Admission) : Prop where
  outcome : ∀ a c, (∃ d, cfg.carriers.get c = some d ∧ d.min ≤ a.left ∧ test a c = a.take c d)
    ∨ ∃ rs, test a c = { a with reasons := rs }
  admits : ∀ a c, c ∈ (test a c).admitted ↔ c ∈ a.admitted ∨ a.Room cfg limit c

theorem mem_take (a : Admission) (c : Fin 16) (d : CarrierDef) : c ∈ (a.take c d).admitted :=
  List.mem_append_right _ List.mem_cons_self

def floorLimit (cfg : Settings) (k : Fin 4) : Nat := (cfg.tenants.get k).floor

def ceilingLimit (cfg : Settings) (k : Fin 4) : Nat := (cfg.tenants.get k).ceiling

/-- R120. -/
theorem floorTest_isPass (cfg : Settings) : IsPass cfg (floorLimit cfg) (floorTest cfg) where
  outcome a c := by
    unfold floorTest
    split
    · exact .inr ⟨_, rfl⟩
    · next d hd =>
      split
      · next h => exact .inl ⟨d, hd, h.2, rfl⟩
      · exact .inr ⟨_, rfl⟩
  admits a c := by
    unfold floorTest
    cases hd : cfg.carriers.get c with
    | none => simp [Admission.not_room hd]
    | some d =>
      rw [Admission.room_iff hd]
      dsimp only
      split
      · next h => exact ⟨fun _ => .inr h, fun _ => mem_take a c d⟩
      · next h => exact ⟨.inl, fun k => k.resolve_right h⟩

/-- R121. -/
theorem ceilingTest_isPass (cfg : Settings) : IsPass cfg (ceilingLimit cfg) (ceilingTest cfg) where
  outcome a c := by
    unfold ceilingTest
    split
    · exact .inr ⟨_, rfl⟩
    · split
      · exact .inr ⟨_, rfl⟩
      · next d hd =>
        split
        · split
          · next h => exact .inl ⟨d, hd, h, rfl⟩
          · exact .inr ⟨_, rfl⟩
        · exact .inr ⟨_, rfl⟩
  admits a c := by
    unfold ceilingTest
    by_cases hc : c ∈ a.admitted
    · simp [hc]
    rw [if_neg hc]
    cases hd : cfg.carriers.get c with
    | none => simp [Admission.not_room hd]
    | some d =>
      rw [Admission.room_iff hd]
      dsimp only
      split
      · next h =>
        split
        · next k => exact ⟨fun _ => .inr ⟨h, k⟩, fun _ => mem_take a c d⟩
        · next k => exact ⟨.inl, fun m => m.resolve_right fun r => k r.2⟩
      · next h => exact ⟨.inl, fun m => m.resolve_right fun r => h r.1⟩

/-- The admitted carriers after a test. -/
theorem IsPass.admitted {cfg : Settings} {limit : Fin 4 → Nat} {test : Admission → Fin 16 → Admission}
    (hp : IsPass cfg limit test) (a : Admission) (c : Fin 16) :
    (test a c).admitted = a.admitted ++ [c] ∨ (test a c).admitted = a.admitted := by
  rcases hp.outcome a c with ⟨d, -, -, h⟩ | ⟨rs, h⟩
  · exact .inl (congrArg Admission.admitted h)
  · exact .inr (h ▸ rfl)

theorem floorTest_reasons (cfg : Settings) (a : Admission) (c : Fin 16) :
    (floorTest cfg a c).reasons = a.reasons := by
  unfold floorTest
  split
  · rfl
  · split <;> rfl

/-- A test of the ceiling pass gives a reason to no other carrier. -/
theorem ceilingTest_reasons_other (cfg : Settings) (a : Admission) {x c : Fin 16} (h : c ≠ x) :
    (ceilingTest cfg a x).reasons.lookup c = a.reasons.lookup c := by
  have hx : ∀ w, (a.reasons ++ [(x, w)]).lookup c = a.reasons.lookup c := by
    intro w
    rw [List.lookup_append, List.lookup_cons, beq_false_of_ne h]
    exact Option.or_none
  unfold ceilingTest
  split
  · rfl
  · split
    · rfl
    · split
      · split
        · rfl
        · exact hx _
      · exact hx _

/-- The reason that the ceiling pass gives to a carrier it turns away. -/
theorem ceilingTest_reason (cfg : Settings) (a : Admission) {c : Fin 16} {d : CarrierDef}
    (hd : cfg.carriers.get c = some d) (hr : a.reasons.lookup c = none)
    (h : c ∉ (ceilingTest cfg a c).admitted) :
    (ceilingTest cfg a c).reasons.lookup c
      = some (if a.totals.get d.tenant + d.min ≤ ceilingLimit cfg d.tenant then .noCapacity else .ceiling) := by
  have hc : ∀ w, (a.reasons ++ [(c, w)]).lookup c = some w := by
    intro w
    rw [List.lookup_append, hr, List.lookup_cons, BEq.rfl]
    rfl
  rw [(ceilingTest_isPass cfg).admits, not_or] at h
  obtain ⟨hout, hroom⟩ := h
  unfold ceilingTest ceilingLimit
  rw [if_neg hout, hd]
  dsimp only
  split
  · next k =>
    split
    · next m => exact absurd ⟨d, hd, k, m⟩ hroom
    · exact hc _
  · exact hc _

/-! ## A pass over an order -/

section
variable {cfg : Settings} {limit : Fin 4 → Nat} {test : Admission → Fin 16 → Admission}

theorem IsPass.mem_foldl_of_mem (hp : IsPass cfg limit test) {c : Fin 16} (l : List (Fin 16)) :
    ∀ a : Admission, c ∈ a.admitted → c ∈ (l.foldl test a).admitted := by
  induction l with
  | nil => exact fun _ h => h
  | cons x l ih =>
    intro a h
    refine ih _ ?_
    rcases hp.admitted a x with e | e <;> rw [e]
    · exact List.mem_append_left _ h
    · exact h

theorem IsPass.mem_or_mem_of_foldl (hp : IsPass cfg limit test) {c : Fin 16} (l : List (Fin 16)) :
    ∀ a : Admission, c ∈ (l.foldl test a).admitted → c ∈ a.admitted ∨ c ∈ l := by
  induction l with
  | nil => exact fun _ h => .inl h
  | cons x l ih =>
    intro a h
    rcases ih _ h with h | h
    · rcases hp.admitted a x with e | e <;> rw [e] at h
      · rcases List.mem_append.mp h with h | h
        · exact .inl h
        · rw [List.mem_singleton.mp h]
          exact .inr List.mem_cons_self
      · exact .inl h
    · exact .inr (List.mem_cons_of_mem x h)

/-- A carrier is admitted by a pass where its own test does so, in the state that the tests before it leave. -/
theorem IsPass.mem_foldl_iff (hp : IsPass cfg limit test) (a : Admission) {pre post : List (Fin 16)} {c : Fin 16}
    (hn : (pre ++ c :: post).Nodup) :
    c ∈ ((pre ++ c :: post).foldl test a).admitted ↔ c ∈ a.admitted ∨ (pre.foldl test a).Room cfg limit c := by
  have hpre : c ∉ pre := fun h => (List.nodup_append.mp hn).2.2 c h c List.mem_cons_self rfl
  have hpost : c ∉ post := (List.nodup_cons.mp (List.nodup_append.mp hn).2.1).1
  rw [List.foldl_append, List.foldl_cons]
  constructor
  · intro h
    rcases hp.mem_or_mem_of_foldl post _ h with h | h
    · rcases (hp.admits _ c).mp h with h | h
      · exact .inl ((hp.mem_or_mem_of_foldl pre a h).resolve_right hpre)
      · exact .inr h
    · exact absurd h hpost
  · intro h
    refine hp.mem_foldl_of_mem post _ ((hp.admits _ c).mpr ?_)
    exact h.imp_left (hp.mem_foldl_of_mem pre a)

/-- What the first tests of a pass have admitted. -/
theorem IsPass.mem_foldl_before_iff (hp : IsPass cfg limit test) (a : Admission) {pre post : List (Fin 16)}
    {x : Fin 16} (hn : (pre ++ post).Nodup) :
    x ∈ (pre.foldl test a).admitted ↔ x ∈ a.admitted ∨ x ∈ pre ∧ x ∈ ((pre ++ post).foldl test a).admitted := by
  rw [List.foldl_append]
  constructor
  · intro h
    exact (hp.mem_or_mem_of_foldl pre a h).imp_right fun k => ⟨k, hp.mem_foldl_of_mem post _ h⟩
  · rintro (h | ⟨hx, h⟩)
    · exact hp.mem_foldl_of_mem pre a h
    · exact (hp.mem_or_mem_of_foldl post _ h).resolve_right
        fun k => (List.nodup_append.mp hn).2.2 x hx x k rfl

end

/-! ## Totals -/

/-- The remaining pool and the tenants' totals are what the minima of the admitted carriers make them. -/
structure Admission.Counts (cfg : Settings) (pool : Nat) (a : Admission) : Prop where
  left : a.left + (a.admitted.map (minOf cfg)).sum = pool
  totals : ∀ k, a.totals.get k = ((a.admitted.filter fun c => tenantOf cfg c == some k).map (minOf cfg)).sum

theorem Admission.start_counts (cfg : Settings) (pool : Nat) : (Admission.start pool).Counts cfg pool :=
  ⟨rfl, fun k => replicate_get 0 k⟩

theorem Admission.Counts.take {cfg : Settings} {pool : Nat} {a : Admission} (h : a.Counts cfg pool) {c : Fin 16}
    {d : CarrierDef} (hd : cfg.carriers.get c = some d) (hm : d.min ≤ a.left) : (a.take c d).Counts cfg pool := by
  have hmin : minOf cfg c = d.min := by unfold minOf; rw [hd]
  have hten : tenantOf cfg c = some d.tenant := by unfold tenantOf; rw [hd]; rfl
  refine ⟨?_, fun k => ?_⟩
  · have := h.left
    simp only [Admission.take, List.map_append, List.sum_append, List.map_cons, List.map_nil, List.sum_singleton, hmin]
    omega
  · simp only [Admission.take, get_set, List.filter_append, List.map_append, List.sum_append, h.totals]
    by_cases hk : k = d.tenant
    · subst hk
      simp [hten, hmin]
    · have : (tenantOf cfg c == some k) = false := by
        rw [hten]
        exact beq_false_of_ne fun e => hk (Option.some.inj e).symm
      simp [this, hk]

theorem IsPass.foldl_counts {cfg : Settings} {limit : Fin 4 → Nat} {test : Admission → Fin 16 → Admission}
    (hp : IsPass cfg limit test) {pool : Nat} (l : List (Fin 16)) :
    ∀ a : Admission, a.Counts cfg pool → (l.foldl test a).Counts cfg pool := by
  induction l with
  | nil => exact fun _ h => h
  | cons x l ih =>
    intro a h
    refine ih _ ?_
    rcases hp.outcome a x with ⟨d, hd, hm, e⟩ | ⟨rs, e⟩ <;> rw [e]
    · exact h.take hd hm
    · exact ⟨h.left, h.totals⟩

/-! ## The two passes -/

/-- The floor pass over the order. -/
def floored (cfg : Settings) (order : List (Fin 16)) (pool : Nat) : Admission :=
  order.foldl (floorTest cfg) (.start pool)

theorem admission_eq (cfg : Settings) (order : List (Fin 16)) (pool : Nat) :
    admission cfg order pool = order.foldl (ceilingTest cfg) (floored cfg order pool) := rfl

theorem floored_counts (cfg : Settings) (order : List (Fin 16)) (pool : Nat) :
    (floored cfg order pool).Counts cfg pool :=
  (floorTest_isPass cfg).foldl_counts order _ (Admission.start_counts cfg pool)

theorem admission_counts (cfg : Settings) (order : List (Fin 16)) (pool : Nat) :
    (admission cfg order pool).Counts cfg pool :=
  (ceilingTest_isPass cfg).foldl_counts order _ (floored_counts cfg order pool)

theorem floored_mem_order {cfg : Settings} {order : List (Fin 16)} {pool : Nat} {c : Fin 16}
    (h : c ∈ (floored cfg order pool).admitted) : c ∈ order :=
  ((floorTest_isPass cfg).mem_or_mem_of_foldl order _ h).resolve_left (List.not_mem_nil)

theorem admission_mem_order {cfg : Settings} {order : List (Fin 16)} {pool : Nat} {c : Fin 16}
    (h : c ∈ (admission cfg order pool).admitted) : c ∈ order :=
  ((ceilingTest_isPass cfg).mem_or_mem_of_foldl order _ h).elim floored_mem_order id

theorem floored_subset_admission {cfg : Settings} {order : List (Fin 16)} {pool : Nat} {c : Fin 16}
    (h : c ∈ (floored cfg order pool).admitted) : c ∈ (admission cfg order pool).admitted :=
  (ceilingTest_isPass cfg).mem_foldl_of_mem order _ h

theorem foldl_floorTest_nodup (cfg : Settings) (l : List (Fin 16)) :
    ∀ a : Admission, (a.admitted ++ l).Nodup → (l.foldl (floorTest cfg) a).admitted.Nodup := by
  induction l with
  | nil => intro a h; rwa [List.append_nil] at h
  | cons x l ih =>
    intro a h
    refine ih _ ?_
    rcases (floorTest_isPass cfg).admitted a x with e | e <;> rw [e]
    · rwa [List.append_assoc]
    · exact h.sublist (List.Sublist.append_left (List.sublist_cons_self x l) _)

theorem ceilingTest_nodup (cfg : Settings) (a : Admission) (c : Fin 16) (h : a.admitted.Nodup) :
    (ceilingTest cfg a c).admitted.Nodup := by
  by_cases hc : c ∈ a.admitted
  · unfold ceilingTest
    rwa [if_pos hc]
  · rcases (ceilingTest_isPass cfg).admitted a c with e | e <;> rw [e]
    · exact List.nodup_append.mpr ⟨h, List.nodup_singleton c, fun x hx y hy e =>
        hc (List.mem_singleton.mp hy ▸ e ▸ hx)⟩
    · exact h

theorem foldl_ceilingTest_nodup (cfg : Settings) (l : List (Fin 16)) :
    ∀ a : Admission, a.admitted.Nodup → (l.foldl (ceilingTest cfg) a).admitted.Nodup := by
  induction l with
  | nil => exact fun _ h => h
  | cons x l ih => exact fun a h => ih _ (ceilingTest_nodup cfg a x h)

theorem floored_nodup (cfg : Settings) {order : List (Fin 16)} (pool : Nat) (h : order.Nodup) :
    (floored cfg order pool).admitted.Nodup := foldl_floorTest_nodup cfg order _ h

theorem admission_nodup (cfg : Settings) {order : List (Fin 16)} (pool : Nat) (h : order.Nodup) :
    (admission cfg order pool).admitted.Nodup := foldl_ceilingTest_nodup cfg order _ (floored_nodup cfg pool h)

theorem floored_reasons (cfg : Settings) (order : List (Fin 16)) (pool : Nat) :
    (floored cfg order pool).reasons = [] := by
  have h : ∀ (l : List (Fin 16)) (a : Admission), (l.foldl (floorTest cfg) a).reasons = a.reasons := by
    intro l
    induction l with
    | nil => exact fun _ => rfl
    | cons x l ih => exact fun a => (ih _).trans (floorTest_reasons cfg a x)
  exact h order _

theorem foldl_ceilingTest_reasons_other (cfg : Settings) {c : Fin 16} (l : List (Fin 16)) (h : c ∉ l) :
    ∀ a : Admission, (l.foldl (ceilingTest cfg) a).reasons.lookup c = a.reasons.lookup c := by
  induction l with
  | nil => exact fun _ => rfl
  | cons x l ih =>
    intro a
    obtain ⟨hx, hl⟩ := not_or.mp (mt List.mem_cons.mpr h)
    exact (ih hl _).trans (ceilingTest_reasons_other cfg a hx)

/-- The reason that admission leaves a carrier it turns away: its tenant's ceiling, if that left no room for it when it
was tested, and else lack of capacity. -/
theorem admission_reason (cfg : Settings) (pool : Nat) {pre post : List (Fin 16)} {c : Fin 16} {d : CarrierDef}
    (hn : (pre ++ c :: post).Nodup) (hd : cfg.carriers.get c = some d)
    (h : c ∉ (admission cfg (pre ++ c :: post) pool).admitted) :
    (admission cfg (pre ++ c :: post) pool).reasons.lookup c
      = some (if (pre.foldl (ceilingTest cfg) (floored cfg (pre ++ c :: post) pool)).totals.get d.tenant + d.min
          ≤ ceilingLimit cfg d.tenant then .noCapacity else .ceiling) := by
  have hpre : c ∉ pre := fun k => (List.nodup_append.mp hn).2.2 c k c List.mem_cons_self rfl
  have hpost : c ∉ post := (List.nodup_cons.mp (List.nodup_append.mp hn).2.1).1
  rw [admission_eq] at h ⊢
  generalize hf : floored cfg (pre ++ c :: post) pool = a at h ⊢
  have hr : (pre.foldl (ceilingTest cfg) a).reasons.lookup c = none := by
    rw [foldl_ceilingTest_reasons_other cfg pre hpre, ← hf, floored_reasons]
    rfl
  rw [List.foldl_append, List.foldl_cons] at h ⊢
  rw [foldl_ceilingTest_reasons_other cfg post hpost]
  exact ceilingTest_reason cfg _ hd hr (mt ((ceilingTest_isPass cfg).mem_foldl_of_mem post _) h)

end Sys2Proof.Machine
end

section
/-! SUPPORT. The admission of a reshare as the statements write it: the carriers of each pass, and sums of minima. -/

namespace Sys2Proof.Machine

theorem minOf_eq_minimum (s : State) : minOf s.cfg = minimum s := by
  funext c
  unfold minOf minimum
  cases s.cfg.carriers.get c <;> rfl

/-- The carriers that the floor pass admits. -/
def floorPassed (s : State) (pool : Nat) (c : Fin 16) : Bool :=
  decide (c ∈ (floored s.cfg (admissionOrder s) pool).admitted)

/-- The carriers that either pass admits. -/
def admits (s : State) (pool : Nat) (c : Fin 16) : Bool :=
  decide (c ∈ (admission s.cfg (admissionOrder s) pool).admitted)

/-- The carriers that the ceiling pass admits. -/
def ceilingPassed (s : State) (pool : Nat) (c : Fin 16) : Bool := admits s pool c && !floorPassed s pool c

theorem ceilingPassed_eq_true (s : State) (pool : Nat) (c : Fin 16) :
    ceilingPassed s pool c = true ↔ admits s pool c = true ∧ floorPassed s pool c = false := by
  rw [ceilingPassed, Bool.and_eq_true, Bool.not_eq_true']

theorem floorPassed_or_ceilingPassed (s : State) (pool : Nat) (c : Fin 16) :
    (floorPassed s pool c || ceilingPassed s pool c) = admits s pool c := by
  unfold ceilingPassed
  cases h : floorPassed s pool c with
  | false => simp
  | true =>
    unfold admits
    simp [floored_subset_admission (of_decide_eq_true h)]

theorem admits_eligible {s : State} {pool : Nat} {c : Fin 16} (h : admits s pool c = true) :
    ∃ d, Eligible s c d :=
  (mem_admissionOrder s c).mp (admission_mem_order (of_decide_eq_true h))

section
variable {s : State} {a : Admission} {pool : Nat} {p : Fin 16 → Bool}

/-- The total of a tenant in a walk that has admitted the carriers `p`. -/
theorem Admission.Counts.totals_eq (h : a.Counts s.cfg pool) (hn : a.admitted.Nodup)
    (hp : ∀ x, x ∈ a.admitted ↔ p x = true) (k : Fin 4) :
    a.totals.get k = sumOver (fun x => p x && ofTenant s k x) (minimum s) := by
  rw [h.totals, sum_map_filter_eq_sumOver hn, minOf_eq_minimum]
  refine sumOver_congr (fun x => ?_) fun _ _ => rfl
  rw [show decide (x ∈ a.admitted) = p x by simp [hp]]
  rfl

theorem Admission.Counts.left_eq (h : a.Counts s.cfg pool) (hn : a.admitted.Nodup)
    (hp : ∀ x, x ∈ a.admitted ↔ p x = true) : a.left + sumOver p (minimum s) = pool := by
  rw [← h.left, sum_map_eq_sumOver hn, minOf_eq_minimum]
  refine congrArg (a.left + ·) (sumOver_congr (fun x => ?_) fun _ _ => rfl)
  simp [hp]

theorem Admission.Counts.room_iff (h : a.Counts s.cfg pool) (hn : a.admitted.Nodup)
    (hp : ∀ x, x ∈ a.admitted ↔ p x = true) {limit : Fin 4 → Nat} {c : Fin 16} {d : CarrierDef}
    (hd : s.cfg.carriers.get c = some d) :
    a.Room s.cfg limit c ↔ sumOver (fun x => p x && ofTenant s d.tenant x) (minimum s) + d.min ≤ limit d.tenant
      ∧ sumOver p (minimum s) + d.min ≤ pool := by
  have hl := h.left_eq hn hp
  rw [Admission.room_iff hd, h.totals_eq hn hp]
  omega

end

section
variable (s : State) (pool : Nat) {pre post : List (Fin 16)} {c : Fin 16}

/-- The carriers that the floor pass has admitted before it tests `c`. -/
theorem mem_floor_before (h : admissionOrder s = pre ++ c :: post) (x : Fin 16) :
    x ∈ (pre.foldl (floorTest s.cfg) (.start pool)).admitted
      ↔ (floorPassed s pool x && precedes s x c) = true := by
  have hn := admissionOrder_nodup s
  have hp := admissionOrder_pairwise s
  rw [h] at hn hp
  rw [(floorTest_isPass s.cfg).mem_foldl_before_iff _ hn, ← h]
  change x ∈ [] ∨ x ∈ pre ∧ x ∈ (floored s.cfg (admissionOrder s) pool).admitted ↔ _
  unfold floorPassed
  rw [Bool.and_eq_true, decide_eq_true_eq, or_iff_right List.not_mem_nil, and_comm]
  exact and_congr_right fun hx => (precedes_iff_mem hp (h ▸ floored_mem_order hx)).symm

/-- The carriers admitted before the ceiling pass tests `c`. -/
theorem mem_ceiling_before (h : admissionOrder s = pre ++ c :: post) (x : Fin 16) :
    x ∈ (pre.foldl (ceilingTest s.cfg) (floored s.cfg (admissionOrder s) pool)).admitted
      ↔ (floorPassed s pool x || ceilingPassed s pool x && precedes s x c) = true := by
  have hn := admissionOrder_nodup s
  have hp := admissionOrder_pairwise s
  rw [h] at hn hp
  rw [(ceilingTest_isPass s.cfg).mem_foldl_before_iff _ hn, ← h, ← admission_eq]
  have hx : x ∈ (admission s.cfg (admissionOrder s) pool).admitted → (x ∈ pre ↔ precedes s x c = true) :=
    fun hx => (precedes_iff_mem hp (h ▸ admission_mem_order hx)).symm
  rw [Bool.or_eq_true, Bool.and_eq_true, ceilingPassed_eq_true]
  simp only [admits, floorPassed, decide_eq_true_eq, decide_eq_false_iff_not]
  tauto

/-- R120: the test of the floor pass, in sums of minima. -/
theorem floorPassed_iff (h : admissionOrder s = pre ++ c :: post) {d : CarrierDef}
    (hd : s.cfg.carriers.get c = some d) :
    floorPassed s pool c = true ↔
      sumOver (fun x => floorPassed s pool x && precedes s x c && ofTenant s d.tenant x) (minimum s) + d.min
          ≤ (s.cfg.tenants.get d.tenant).floor
        ∧ sumOver (fun x => floorPassed s pool x && precedes s x c) (minimum s) + d.min ≤ pool := by
  have hn := admissionOrder_nodup s
  rw [h] at hn
  have hpass := floorTest_isPass s.cfg
  have hpre := foldl_floorTest_nodup s.cfg pre (.start pool) (List.nodup_append.mp hn).1
  have hroom := (hpass.foldl_counts pre _ (Admission.start_counts s.cfg pool)).room_iff hpre
    (mem_floor_before s pool h) (limit := floorLimit s.cfg) hd
  have hmem : floorPassed s pool c = true
      ↔ (pre.foldl (floorTest s.cfg) (.start pool)).Room s.cfg (floorLimit s.cfg) c := by
    rw [floorPassed, floored, decide_eq_true_eq, h, hpass.mem_foldl_iff _ hn]
    exact or_iff_right List.not_mem_nil
  exact hmem.trans hroom

/-- What the tenant's carriers hold of its ceiling when the ceiling pass tests `c`. -/
theorem ceiling_totals_before (h : admissionOrder s = pre ++ c :: post) (k : Fin 4) :
    (pre.foldl (ceilingTest s.cfg) (floored s.cfg (admissionOrder s) pool)).totals.get k
      = sumOver (fun x => (floorPassed s pool x || ceilingPassed s pool x && precedes s x c) && ofTenant s k x)
          (minimum s) :=
  ((ceilingTest_isPass s.cfg).foldl_counts pre _ (floored_counts _ _ _)).totals_eq
    (foldl_ceilingTest_nodup s.cfg pre _ (floored_nodup s.cfg pool (admissionOrder_nodup s)))
    (mem_ceiling_before s pool h) k

/-- R121: the test of the ceiling pass, in sums of minima. -/
theorem ceilingPassed_iff (h : admissionOrder s = pre ++ c :: post) {d : CarrierDef}
    (hd : s.cfg.carriers.get c = some d) :
    ceilingPassed s pool c = true ↔ floorPassed s pool c = false ∧
      sumOver (fun x => (floorPassed s pool x || ceilingPassed s pool x && precedes s x c) && ofTenant s d.tenant x)
          (minimum s) + d.min ≤ (s.cfg.tenants.get d.tenant).ceiling
        ∧ sumOver (fun x => floorPassed s pool x || ceilingPassed s pool x && precedes s x c) (minimum s) + d.min
          ≤ pool := by
  have hn := admissionOrder_nodup s
  have hpass := ceilingTest_isPass s.cfg
  have hpre := foldl_ceilingTest_nodup s.cfg pre _ (floored_nodup s.cfg pool hn)
  have hroom := (hpass.foldl_counts pre _ (floored_counts s.cfg _ pool)).room_iff hpre
    (mem_ceiling_before s pool h) (limit := ceilingLimit s.cfg) hd
  have hmem : admits s pool c = true ↔ floorPassed s pool c = true
      ∨ (pre.foldl (ceilingTest s.cfg) (floored s.cfg (admissionOrder s) pool)).Room s.cfg (ceilingLimit s.cfg) c := by
    rw [admits, floorPassed, decide_eq_true_eq, decide_eq_true_eq, admission_eq]
    generalize floored s.cfg (admissionOrder s) pool = a
    rw [h] at hn ⊢
    exact hpass.mem_foldl_iff a hn
  rw [ceilingPassed_eq_true, hmem, hroom, and_comm]
  exact and_congr_right fun hf => or_iff_right (by rw [hf]; exact Bool.false_ne_true)

end

/-- Admission is the floor pass and the ceiling pass over the eligible carriers in their order. -/
theorem admission_passes (s : State) (pool : Nat) :
    Passes s pool (floorPassed s pool) (ceilingPassed s pool) where
  floorPass c := by
    constructor
    · intro h
      have hc := floored_mem_order (of_decide_eq_true h)
      obtain ⟨pre, post, hs⟩ := List.append_of_mem hc
      obtain ⟨d, hd⟩ := (mem_admissionOrder s c).mp hc
      exact ⟨d, hd, (floorPassed_iff s pool hs hd.1).mp h⟩
    · rintro ⟨d, hd, h⟩
      obtain ⟨pre, post, hs⟩ := List.append_of_mem hd.mem
      exact (floorPassed_iff s pool hs hd.1).mpr h
  ceilPass c := by
    constructor
    · intro h
      obtain ⟨d, hd⟩ := admits_eligible ((ceilingPassed_eq_true s pool c).mp h).1
      obtain ⟨pre, post, hs⟩ := List.append_of_mem hd.mem
      obtain ⟨hf, hr⟩ := (ceilingPassed_iff s pool hs hd.1).mp h
      exact ⟨hf, d, hd, hr⟩
    · rintro ⟨hf, d, hd, h⟩
      obtain ⟨pre, post, hs⟩ := List.append_of_mem hd.mem
      exact (ceilingPassed_iff s pool hs hd.1).mpr ⟨hf, h⟩

/-- The reason that admission leaves an eligible carrier it turns away, in sums of minima. -/
theorem admission_reason_eq {s : State} {pool : Nat} {c : Fin 16} {d : CarrierDef} (h : Eligible s c d)
    (hc : admits s pool c = false) :
    (admission s.cfg (admissionOrder s) pool).reasons.lookup c
      = some (if sumOver (fun x => (floorPassed s pool x || ceilingPassed s pool x && precedes s x c)
            && ofTenant s d.tenant x) (minimum s) + d.min ≤ (s.cfg.tenants.get d.tenant).ceiling
          then .noCapacity else .ceiling) := by
  obtain ⟨pre, post, hs⟩ := List.append_of_mem h.mem
  have hn := admissionOrder_nodup s
  have hr := ceiling_totals_before s pool hs d.tenant
  have hout := of_decide_eq_false hc
  rw [← hr]
  rw [hs] at hn hout ⊢
  exact admission_reason s.cfg pool hn h.1 hout

/-- The minima of the admitted carriers, by tenant and together. -/
theorem admission_totals (s : State) (pool : Nat) (k : Fin 4) :
    (admission s.cfg (admissionOrder s) pool).totals.get k
      = sumOver (fun x => admits s pool x && ofTenant s k x) (minimum s) :=
  (admission_counts _ _ _).totals_eq (admission_nodup _ _ (admissionOrder_nodup s))
    (fun _ => decide_eq_true_iff.symm) k

theorem admission_le_pool (s : State) (pool : Nat) : sumOver (admits s pool) (minimum s) ≤ pool := by
  have h := (admission_counts s.cfg (admissionOrder s) pool).left_eq (p := admits s pool)
    (admission_nodup _ _ (admissionOrder_nodup s)) fun _ => decide_eq_true_iff.symm
  omega

end Sys2Proof.Machine
end

section
/-! SUPPORT. Growth (R122): what one gift does, and the growth of an admission as a sequence of rounds and turns. -/

namespace Sys2Proof.Machine

@[simp] theorem ofTenants_get (f : Fin 4 → Nat) (k : Fin 4) : (ofTenants f).get k = f k := by
  fin_cases k <;> rfl

theorem tenantSum_eq_sum (f : Fin 4 → Nat) : tenantSum f = ∑ k, f k := (Fin.sum_univ_four f).symm

theorem tenantSum_mono {f g : Fin 4 → Nat} (h : ∀ k, f k ≤ g k) : tenantSum f ≤ tenantSum g := by
  rw [tenantSum_eq_sum, tenantSum_eq_sum]
  exact Finset.sum_le_sum fun k _ => h k

theorem tenantSum_add (f g : Fin 4 → Nat) : tenantSum (fun k => f k + g k) = tenantSum f + tenantSum g := by
  simp only [tenantSum_eq_sum, Finset.sum_add_distrib]

/-! ## Gifts -/

@[simp] theorem Growth.give_left (g : Growth) (f : Fin 4 → Nat) : (g.give f).left = g.left - tenantSum f := rfl

@[simp] theorem Growth.give_unmet (g : Growth) (f : Fin 4 → Nat) (k : Fin 4) :
    (g.give f).unmet.get k = g.unmet.get k - f k := ofTenants_get _ k

@[simp] theorem Growth.give_extra (g : Growth) (f : Fin 4 → Nat) (k : Fin 4) :
    (g.give f).extra.get k = g.extra.get k + f k := ofTenants_get _ k

/-- `g` comes from `g0` by gifts out of the remainder, none beyond an unmet amount. -/
structure Growth.From (g0 g : Growth) : Prop where
  unmet : ∀ k, g.extra.get k + g.unmet.get k = g0.extra.get k + g0.unmet.get k
  left : g.left + tenantSum (fun k => g.extra.get k) = g0.left + tenantSum fun k => g0.extra.get k

theorem Growth.From.refl (g : Growth) : Growth.From g g := ⟨fun _ => rfl, rfl⟩

theorem Growth.From.trans {g h k : Growth} (a : Growth.From g h) (b : Growth.From h k) : Growth.From g k :=
  ⟨fun t => (b.unmet t).trans (a.unmet t), b.left.trans a.left⟩

theorem Growth.from_give (g : Growth) (f : Fin 4 → Nat) (hu : ∀ k, f k ≤ g.unmet.get k)
    (hl : tenantSum f ≤ g.left) : Growth.From g (g.give f) := by
  refine ⟨fun k => ?_, ?_⟩
  · have := hu k
    rw [give_unmet, give_extra]
    omega
  · have hs := tenantSum_add (fun k => g.extra.get k) f
    simp only [give_left, give_extra]
    omega

/-! ## Rounds -/

/-- What a round gives a tenant. -/
def roundShare (cfg : Settings) (g : Growth) (k : Fin 4) : Nat :=
  min (g.left * growthWeight cfg g k / tenantSum (growthWeight cfg g)) (g.unmet.get k)

def roundStep (cfg : Settings) (g : Growth) : Growth := g.give (roundShare cfg g)

theorem growthRounds_succ (cfg : Settings) (fuel : Nat) (g : Growth) :
    growthRounds cfg (fuel + 1) g =
      if tenantSum (roundShare cfg g) = 0 then g else growthRounds cfg fuel (roundStep cfg g) := by
  have h : (fun k => if tenantSum (growthWeight cfg g) = 0 then 0
      else min (g.left * growthWeight cfg g k / tenantSum (growthWeight cfg g)) (g.unmet.get k))
      = roundShare cfg g := by
    funext k
    unfold roundShare
    split
    · next e => rw [e, Nat.div_zero, Nat.zero_min]
    · rfl
  rw [growthRounds, h]
  rfl

/-- The parts by weight, rounded down, come out of the remainder. -/
theorem tenantSum_parts_le (x : Nat) (w : Fin 4 → Nat) : tenantSum (fun k => x * w k / tenantSum w) ≤ x := by
  rcases Nat.eq_zero_or_pos (tenantSum w) with hw | hw
  · simp [hw, tenantSum_eq_sum (fun _ => _)]
  · refine Nat.le_of_mul_le_mul_right ?_ hw
    calc tenantSum (fun k => x * w k / tenantSum w) * tenantSum w
        = tenantSum fun k => x * w k / tenantSum w * tenantSum w := by
          simp only [tenantSum_eq_sum, Finset.sum_mul]
      _ ≤ tenantSum fun k => x * w k := tenantSum_mono fun k => Nat.div_mul_le_self _ _
      _ = x * tenantSum w := by rw [tenantSum_eq_sum, tenantSum_eq_sum, Finset.mul_sum]

theorem tenantSum_roundShare_le (cfg : Settings) (g : Growth) : tenantSum (roundShare cfg g) ≤ g.left :=
  (tenantSum_mono fun _ => Nat.min_le_left _ _).trans (tenantSum_parts_le g.left (growthWeight cfg g))

theorem from_roundStep (cfg : Settings) (g : Growth) : Growth.From g (roundStep cfg g) :=
  g.from_give _ (fun _ => Nat.min_le_right _ _) (tenantSum_roundShare_le cfg g)

theorem from_rounds (cfg : Settings) (g : Growth) (n : Nat) : Growth.From g ((roundStep cfg)^[n] g) := by
  induction n with
  | zero => exact .refl g
  | succ n ih =>
    rw [Function.iterate_succ_apply']
    exact ih.trans (from_roundStep cfg _)

theorem rounds_left_le (cfg : Settings) (g : Growth) (n : Nat) : ((roundStep cfg)^[n] g).left ≤ g.left := by
  induction n with
  | zero => exact le_rfl
  | succ n ih =>
    rw [Function.iterate_succ_apply']
    exact (Nat.sub_le _ _).trans ih

/-- The rounds run until one gives nothing: each but the last one gives 1 CU at least, so the fuel suffices. -/
theorem growthRounds_eq (cfg : Settings) (fuel : Nat) (g : Growth) (h : g.left < fuel) :
    ∃ n, growthRounds cfg fuel g = (roundStep cfg)^[n] g
      ∧ (∀ i, i < n → 0 < tenantSum (roundShare cfg ((roundStep cfg)^[i] g)))
      ∧ tenantSum (roundShare cfg ((roundStep cfg)^[n] g)) = 0 := by
  induction fuel generalizing g with
  | zero => exact absurd h (Nat.not_lt_zero _)
  | succ fuel ih =>
    rw [growthRounds_succ]
    split
    · next h0 => exact ⟨0, rfl, fun i hi => absurd hi (Nat.not_lt_zero i), h0⟩
    · next h0 =>
      have hle := tenantSum_roundShare_le cfg g
      have hlt : (roundStep cfg g).left < fuel := by
        unfold roundStep
        rw [Growth.give_left]
        omega
      obtain ⟨n, he, hpos, hlast⟩ := ih _ hlt
      refine ⟨n + 1, he, fun i hi => ?_, hlast⟩
      cases i with
      | zero => exact Nat.pos_of_ne_zero h0
      | succ i => exact hpos i (Nat.lt_of_succ_lt_succ hi)

/-! ## Turns -/

/-- What the turn of tenant `t` gives tenant `k`. -/
def turnShare (g : Growth) (t k : Fin 4) : Nat :=
  if k = t ∧ g.left ≠ 0 ∧ g.unmet.get k ≠ 0 then 1 else 0

/-- The growth ends where nothing is left or every tenant has what it asked for. -/
def Growth.Done (g : Growth) : Prop := g.left = 0 ∨ ∀ k, g.unmet.get k = 0

theorem turnShare_spent (g : Growth) (t : Fin 4) (h : g.left = 0 ∨ g.unmet.get t = 0) :
    turnShare g t = fun _ => 0 := by
  funext k
  unfold turnShare
  rw [if_neg]
  rintro ⟨rfl, hl, hu⟩
  exact h.elim hl hu

theorem turnShare_given (g : Growth) (t : Fin 4) (h : ¬(g.left = 0 ∨ g.unmet.get t = 0)) :
    turnShare g t = fun k => if k = t then 1 else 0 := by
  obtain ⟨hl, hu⟩ := not_or.mp h
  funext k
  unfold turnShare
  by_cases hk : k = t
  · subst hk
    simp [hl, hu]
  · simp [hk]

theorem turnShare_ofNat (g : Growth) (j : Nat) : turnShare g (Fin.ofNat 4 j)
    = fun k => if k.val = j % 4 ∧ g.left ≠ 0 ∧ g.unmet.get k ≠ 0 then 1 else 0 :=
  funext fun _ => if_congr (and_congr_left' Fin.ext_iff) rfl rfl

theorem tenantSum_single (t : Fin 4) : tenantSum (fun k => if k = t then 1 else 0) = 1 := by
  fin_cases t <;> rfl

theorem gift_left (g : Growth) (t : Fin 4) : (gift g t).left = g.left - tenantSum (turnShare g t) := by
  unfold gift
  split
  · next h =>
    rw [turnShare_spent g t h]
    rfl
  · next h =>
    rw [turnShare_given g t h]
    rfl

theorem gift_unmet (g : Growth) (t k : Fin 4) : (gift g t).unmet.get k = g.unmet.get k - turnShare g t k := by
  unfold gift
  split
  · next h =>
    rw [turnShare_spent g t h]
    rfl
  · next h =>
    rw [turnShare_given g t h]
    exact g.give_unmet _ k

theorem from_gift (g : Growth) (t : Fin 4) : Growth.From g (gift g t) := by
  unfold gift
  split
  · exact .refl g
  · next h =>
    obtain ⟨hl, hu⟩ := not_or.mp h
    refine g.from_give _ (fun k => ?_) ?_
    · split
      · next hk => exact hk ▸ Nat.pos_of_ne_zero hu
      · exact Nat.zero_le _
    · rw [tenantSum_single]
      exact Nat.pos_of_ne_zero hl

theorem gift_left_le (g : Growth) (t : Fin 4) : (gift g t).left ≤ g.left :=
  (gift_left g t).trans_le (Nat.sub_le _ _)

theorem gift_same (g : Growth) (t : Fin 4) (h : (gift g t).left = g.left) :
    gift g t = g ∧ (g.left = 0 ∨ g.unmet.get t = 0) := by
  by_cases hs : g.left = 0 ∨ g.unmet.get t = 0
  · exact ⟨if_pos hs, hs⟩
  · rw [gift_left, turnShare_given g t hs, tenantSum_single] at h
    have := (not_or.mp hs).1
    omega

theorem foldl_gift_left_le (l : List (Fin 4)) : ∀ g : Growth, (l.foldl gift g).left ≤ g.left := by
  induction l with
  | nil => exact fun _ => le_rfl
  | cons t l ih => exact fun g => (ih _).trans (gift_left_le g t)

/-- Turns that give nothing find nothing to give. -/
theorem foldl_gift_same (l : List (Fin 4)) (g : Growth) (h : (l.foldl gift g).left = g.left) :
    ∀ t ∈ l, g.left = 0 ∨ g.unmet.get t = 0 := by
  induction l generalizing g with
  | nil => exact fun _ ht => absurd ht List.not_mem_nil
  | cons t l ih =>
    rw [List.foldl_cons] at h
    obtain ⟨he, hs⟩ := gift_same g t (le_antisymm (gift_left_le g t) (h ▸ foldl_gift_left_le l _))
    rw [he] at h
    exact List.forall_mem_cons.mpr ⟨hs, ih g h⟩

/-- The state after so many turns, the tenants taking them by index. -/
def giftTurns (g : Growth) : Nat → Growth
  | 0 => g
  | j + 1 => gift (giftTurns g j) (Fin.ofNat 4 j)

theorem giftTurns_cycle (g : Growth) : [0, 1, 2, 3].foldl gift g = giftTurns g 4 := rfl

theorem giftTurns_add_four (g : Growth) (j : Nat) : giftTurns (giftTurns g 4) j = giftTurns g (j + 4) := by
  induction j with
  | zero => rfl
  | succ j ih =>
    rw [giftTurns, ih, show j + 1 + 4 = j + 4 + 1 by omega, giftTurns]
    congr 1
    exact Fin.ext (Nat.add_mod_right j 4).symm

theorem from_giftTurns (g : Growth) (n : Nat) : Growth.From g (giftTurns g n) := by
  induction n with
  | zero => exact .refl g
  | succ n ih => exact ih.trans (from_gift _ _)

/-- The tenants take turns until none is given anything: each cycle but the last gives 1 CU at least. -/
theorem giftCycles_eq (fuel : Nat) (g : Growth) (h : g.left < fuel) :
    ∃ n, giftCycles fuel g = giftTurns g n ∧ (giftTurns g n).Done := by
  induction fuel generalizing g with
  | zero => exact absurd h (Nat.not_lt_zero _)
  | succ fuel ih =>
    rw [giftCycles]
    split
    · next hs =>
      have ht := foldl_gift_same _ g hs
      refine ⟨0, rfl, ?_⟩
      by_cases hl : g.left = 0
      · exact .inl hl
      · exact .inr fun k => (ht k (by fin_cases k <;> simp)).resolve_left hl
    · next hs =>
      have hlt : ([0, 1, 2, 3].foldl gift g).left < fuel := by
        have := foldl_gift_left_le [0, 1, 2, 3] g
        omega
      obtain ⟨n, he, hd⟩ := ih _ hlt
      rw [giftTurns_cycle, giftTurns_add_four] at he hd
      exact ⟨n + 4, he, hd⟩

/-! ## The growth of an admission -/

/-- The state in which growth begins. -/
def growthStart (cfg : Settings) (h : Share) (a : Admission) (pool : Nat) : Growth :=
  { left := pool - tenantSum fun t => a.totals.get t
    unmet := ofTenants (unmetAmount cfg h a)
    extra := .replicate 4 0 }

@[simp] theorem growthStart_left (cfg : Settings) (h : Share) (a : Admission) (pool : Nat) :
    (growthStart cfg h a pool).left = pool - tenantSum fun t => a.totals.get t := rfl

@[simp] theorem growthStart_unmet (cfg : Settings) (h : Share) (a : Admission) (pool : Nat) (k : Fin 4) :
    (growthStart cfg h a pool).unmet.get k = unmetAmount cfg h a k := ofTenants_get _ k

@[simp] theorem growthStart_extra (cfg : Settings) (h : Share) (a : Admission) (pool : Nat) (k : Fin 4) :
    (growthStart cfg h a pool).extra.get k = 0 := replicate_get 0 k

/-- Growth depends on the state in which it begins alone. -/
theorem growth_of_start (cfg : Settings) (h : Share) (a : Admission) (pool : Nat) :
    growth cfg h a pool = giftCycles ((growthStart cfg h a pool).left + 1)
      (growthRounds cfg ((growthStart cfg h a pool).left + 1) (growthStart cfg h a pool)) := rfl

/-- The state of the growth from `g` after `i` of its rounds and turns. -/
def growthAfter (cfg : Settings) (g : Growth) (rounds i : Nat) : Growth :=
  if i < rounds then (roundStep cfg)^[i] g else giftTurns ((roundStep cfg)^[rounds] g) (i - rounds)

theorem growthAfter_round (cfg : Settings) (g : Growth) {rounds i : Nat} (h : i ≤ rounds) :
    growthAfter cfg g rounds i = (roundStep cfg)^[i] g := by
  unfold growthAfter
  split
  · rfl
  · next k =>
    obtain rfl := Nat.le_antisymm h (Nat.le_of_not_lt k)
    rw [Nat.sub_self]
    rfl

theorem growthAfter_turn (cfg : Settings) (g : Growth) (rounds j : Nat) :
    growthAfter cfg g rounds (rounds + j) = giftTurns ((roundStep cfg)^[rounds] g) j := by
  unfold growthAfter
  rw [if_neg (by omega), Nat.add_sub_cancel_left]

/-- Growth is rounds, each giving something and the next nothing, and then turns until it is done. -/
theorem growth_eq (cfg : Settings) (h : Share) (a : Admission) (pool : Nat) :
    let g := growthStart cfg h a pool
    ∃ rounds turns, growth cfg h a pool = growthAfter cfg g rounds (rounds + turns)
      ∧ (∀ i, i < rounds → 0 < tenantSum (roundShare cfg ((roundStep cfg)^[i] g)))
      ∧ tenantSum (roundShare cfg ((roundStep cfg)^[rounds] g)) = 0
      ∧ (growth cfg h a pool).Done := by
  intro g
  obtain ⟨rounds, he, hpos, hlast⟩ := growthRounds_eq cfg (g.left + 1) g (Nat.lt_succ_self _)
  obtain ⟨turns, ht, hd⟩ := giftCycles_eq (g.left + 1) ((roundStep cfg)^[rounds] g)
    (Nat.lt_succ_of_le (rounds_left_le cfg g rounds))
  have hg : growth cfg h a pool = giftTurns ((roundStep cfg)^[rounds] g) turns := by
    rw [← ht, ← he]
    exact growth_of_start cfg h a pool
  refine ⟨rounds, turns, ?_, hpos, hlast, ?_⟩
  · rw [growthAfter_turn, hg]
  · rw [hg]
    exact hd

theorem growth_done (cfg : Settings) (h : Share) (a : Admission) (pool : Nat) : (growth cfg h a pool).Done := by
  obtain ⟨-, -, -, -, -, hd⟩ := growth_eq cfg h a pool
  exact hd

theorem growth_from (cfg : Settings) (h : Share) (a : Admission) (pool : Nat) :
    Growth.From (growthStart cfg h a pool) (growth cfg h a pool) := by
  obtain ⟨rounds, turns, he, -⟩ := growth_eq cfg h a pool
  rw [he, growthAfter_turn]
  exact (from_rounds cfg _ rounds).trans (from_giftTurns _ turns)

/-- The extra of a tenant and what it still lacks are its unmet amount. -/
theorem growth_extra (cfg : Settings) (h : Share) (a : Admission) (pool : Nat) (k : Fin 4) :
    (growth cfg h a pool).extra.get k + (growth cfg h a pool).unmet.get k = unmetAmount cfg h a k := by
  have e := (growth_from cfg h a pool).unmet k
  rwa [growthStart_unmet, growthStart_extra, Nat.zero_add] at e

/-- The extras and what is left are what the minima leave of the pool. -/
theorem growth_left (cfg : Settings) (h : Share) (a : Admission) (pool : Nat) :
    (growth cfg h a pool).left + tenantSum (fun k => (growth cfg h a pool).extra.get k)
      = pool - tenantSum fun k => a.totals.get k := by
  have e := (growth_from cfg h a pool).left
  simp only [growthStart_extra, growthStart_left] at e
  exact e

end Sys2Proof.Machine
end

section
/-! SUPPORT. Growth as the statements write it (R122), and the hand-out of the extras in the eligible order (R123). -/

namespace Sys2Proof.Machine

/-! ## Sums by tenant -/

theorem ofTenant_eq (s : State) (k : Fin 4) (c : Fin 16) : ofTenant s k c = (tenantOf s.cfg c == some k) := rfl

theorem ofTenant_iff {s : State} {c : Fin 16} {d : CarrierDef} (hd : s.cfg.carriers.get c = some d) (k : Fin 4) :
    ofTenant s k c = true ↔ d.tenant = k := by
  simp [ofTenant, hd]

/-- Defined carriers are each of one tenant. -/
theorem sumOver_tenants (s : State) (p : Fin 16 → Bool) (f : Fin 16 → Nat)
    (h : ∀ c, p c = true → ∃ d, s.cfg.carriers.get c = some d) :
    tenantSum (fun k => sumOver (fun c => p c && ofTenant s k c) f) = sumOver p f := by
  simp only [tenantSum_eq_sum, sumOver_eq_sum]
  rw [Finset.sum_comm]
  refine Finset.sum_congr rfl fun c _ => ?_
  cases hp : p c with
  | false => simp
  | true =>
    obtain ⟨d, hd⟩ := h c hp
    simp only [Bool.true_and, ofTenant_iff hd]
    simp

/-- What tenant `k` is admitted with. -/
theorem admission_totals_sum (s : State) (full : Nat) :
    tenantSum (fun k => (admission s.cfg (admissionOrder s) full).totals.get k)
      = sumOver (admits s full) (minimum s) := by
  simp only [admission_totals]
  refine sumOver_tenants s _ _ fun c h => ?_
  obtain ⟨d, hd⟩ := admits_eligible h
  exact ⟨d, hd.1⟩

/-! ## Growth -/

/-- What a carrier asks for beyond its minimum. -/
def lacking (s : State) (c : Fin 16) : Nat := (s.share.carriers.get c).demand - minimum s c

/-- The growth of a reshare of `s` that admits from `full` and shares `pool`. -/
def growthOf (s : State) (full pool : Nat) : Growth :=
  growth s.cfg (acked s) (admission s.cfg (admissionOrder s) full) pool

theorem unmetAmount_eq (s : State) (full : Nat) (k : Fin 4) :
    unmetAmount s.cfg (acked s) (admission s.cfg (admissionOrder s) full) k
      = min (sumOver (fun c => admits s full c && ofTenant s k c) (lacking s))
          ((s.cfg.tenants.get k).ceiling - sumOver (fun c => admits s full c && ofTenant s k c) (minimum s)) := by
  unfold unmetAmount
  dsimp only
  rw [admission_totals, sum_map_filter_eq_sumOver (admission_nodup _ _ (admissionOrder_nodup s)), minOf_eq_minimum]
  rfl

theorem growthOf_start_left (s : State) (full pool : Nat) :
    (growthStart s.cfg (acked s) (admission s.cfg (admissionOrder s) full) pool).left
      = pool - sumOver (admits s full) (minimum s) := by
  rw [growthStart_left, admission_totals_sum]

/-- Growth follows the carriers admitted, whichever pool they were admitted from. -/
theorem growthOf_congr (s : State) {full full' : Nat} (h : admits s full = admits s full') (pool : Nat) :
    growthOf s full pool = growthOf s full' pool := by
  have hs : growthStart s.cfg (acked s) (admission s.cfg (admissionOrder s) full) pool
      = growthStart s.cfg (acked s) (admission s.cfg (admissionOrder s) full') pool := by
    unfold growthStart
    rw [admission_totals_sum, admission_totals_sum, funext (unmetAmount_eq s full), funext (unmetAmount_eq s full'), h]
  rw [growthOf, growthOf, growth_of_start, growth_of_start, hs]

/-- The extras and what is left are what the minima leave of the pool. -/
theorem growthOf_left (s : State) (full pool : Nat) :
    (growthOf s full pool).left + tenantSum (fun k => (growthOf s full pool).extra.get k)
      = pool - sumOver (admits s full) (minimum s) := by
  rw [← admission_totals_sum]
  exact growth_left s.cfg (acked s) (admission s.cfg (admissionOrder s) full) pool

/-- The extra of a tenant and what it still lacks are its unmet amount. -/
theorem growthOf_extra (s : State) (full pool : Nat) (k : Fin 4) :
    (growthOf s full pool).extra.get k + (growthOf s full pool).unmet.get k
      = min (sumOver (fun c => admits s full c && ofTenant s k c) (lacking s))
          ((s.cfg.tenants.get k).ceiling - sumOver (fun c => admits s full c && ofTenant s k c) (minimum s)) := by
  rw [← unmetAmount_eq]
  exact growth_extra s.cfg (acked s) (admission s.cfg (admissionOrder s) full) pool k

/-- R122: the growth of a reshare is a growth in rounds and turns. -/
theorem growthOf_grows (s : State) (full pool : Nat) :
    Grows s pool (admits s full) fun k => (growthOf s full pool).extra.get k := by
  have hleft := growthOf_start_left s full pool
  have hunmet := growthStart_unmet s.cfg (acked s) (admission s.cfg (admissionOrder s) full) pool
  have hsum := unmetAmount_eq s full
  have hextra := growth_extra s.cfg (acked s) (admission s.cfg (admissionOrder s) full) pool
  obtain ⟨rounds, turns, he, hpos, hlast, hdone⟩ :=
    growth_eq s.cfg (acked s) (admission s.cfg (admissionOrder s) full) pool
  unfold growthOf
  generalize growth s.cfg (acked s) (admission s.cfg (admissionOrder s) full) pool = last at *
  generalize growthStart s.cfg (acked s) (admission s.cfg (admissionOrder s) full) pool = g at *
  generalize unmetAmount s.cfg (acked s) (admission s.cfg (admissionOrder s) full) = unmet at *
  subst he
  refine ⟨fun i => (growthAfter s.cfg g rounds i).left, fun i k => (growthAfter s.cfg g rounds i).unmet.get k,
    rounds, turns, ?_, ?_, ?_, ?_, ?_, hdone, ?_⟩
  · simp only [growthAfter_round _ _ (Nat.zero_le rounds)]
    exact hleft
  · intro k
    simp only [growthAfter_round _ _ (Nat.zero_le rounds)]
    exact (hunmet k).trans (hsum k)
  · intro i hi
    simp only [growthAfter_round _ _ (Nat.le_of_lt hi), growthAfter_round _ _ (Nat.succ_le_of_lt hi),
      Function.iterate_succ_apply']
    exact ⟨hpos i hi, rfl, fun k => Growth.give_unmet _ _ k⟩
  · simp only [growthAfter_round _ _ (Nat.le_refl rounds)]
    exact hlast
  · intro j _
    simp only [growthAfter_turn, Nat.add_assoc, giftTurns]
    generalize giftTurns _ j = e
    rw [← turnShare_ofNat]
    exact ⟨gift_left e _, fun k => (gift_unmet e _ k).trans (by rw [turnShare_ofNat])⟩
  · intro k
    simp only [growthAfter_round _ _ (Nat.zero_le rounds)]
    have := hextra k
    have := hunmet k
    rw [Function.iterate_zero, id_eq]
    omega

/-! ## The hand-out -/

section
variable (cfg : Settings)

/-- What the grants give a carrier beyond its minimum. -/
def gain (gs : List (Fin 16 × Nat)) (c : Fin 16) : Nat := (gs.lookup c).getD 0 - minOf cfg c

/-- What the grants give the carriers of a tenant in a list beyond their minima. -/
def tenantGain (gs : List (Fin 16 × Nat)) (l : List (Fin 16)) (t : Fin 4) : Nat :=
  ((l.filter fun c => tenantOf cfg c == some t).map (gain cfg gs)).sum

def tenantLack (h : Share) (l : List (Fin 16)) (t : Fin 4) : Nat :=
  ((l.filter fun c => tenantOf cfg c == some t).map fun c => demandOf h c - minOf cfg c).sum

theorem lookup_cons_other {x c : Fin 16} (h : x ≠ c) (g : Nat) (gs : List (Fin 16 × Nat)) :
    List.lookup x ((c, g) :: gs) = gs.lookup x := by
  rw [List.lookup_cons, beq_false_of_ne h]

theorem lookup_cons_self (c : Fin 16) (g : Nat) (gs : List (Fin 16 × Nat)) :
    List.lookup c ((c, g) :: gs) = some g := by
  rw [List.lookup_cons, BEq.rfl]

theorem gain_cons_self (c : Fin 16) (n : Nat) (gs : List (Fin 16 × Nat)) :
    gain cfg ((c, minOf cfg c + n) :: gs) c = n := by
  rw [gain, lookup_cons_self, Option.getD_some, Nat.add_sub_cancel_left]

/-- The grant of a carrier outside the list does not count. -/
theorem tenantGain_of_notMem {c : Fin 16} {l : List (Fin 16)} (hc : c ∉ l) (g : Nat) (gs : List (Fin 16 × Nat))
    (t : Fin 4) : tenantGain cfg ((c, g) :: gs) l t = tenantGain cfg gs l t := by
  unfold tenantGain
  refine congrArg List.sum (List.map_congr_left fun x hx => ?_)
  have hxc : x ≠ c := fun e => hc (e ▸ (List.mem_filter.mp hx).1)
  rw [gain, lookup_cons_other hxc, gain]

theorem tenantGain_cons_other {c : Fin 16} {t : Fin 4} (hc : tenantOf cfg c ≠ some t) (gs : List (Fin 16 × Nat))
    (l : List (Fin 16)) : tenantGain cfg gs (c :: l) t = tenantGain cfg gs l t := by
  unfold tenantGain
  rw [List.filter_cons, if_neg (by simpa using hc)]

theorem tenantGain_cons_self {c : Fin 16} {t : Fin 4} (hc : tenantOf cfg c = some t) (gs : List (Fin 16 × Nat))
    (l : List (Fin 16)) : tenantGain cfg gs (c :: l) t = gain cfg gs c + tenantGain cfg gs l t := by
  unfold tenantGain
  rw [List.filter_cons, if_pos (by simpa using hc), List.map_cons, List.sum_cons]

variable (h : Share)

theorem tenantLack_cons_other {c : Fin 16} {t : Fin 4} (hc : tenantOf cfg c ≠ some t) (l : List (Fin 16)) :
    tenantLack cfg h (c :: l) t = tenantLack cfg h l t := by
  unfold tenantLack
  rw [List.filter_cons, if_neg (by simpa using hc)]

theorem tenantLack_cons_self {c : Fin 16} {t : Fin 4} (hc : tenantOf cfg c = some t) (l : List (Fin 16)) :
    tenantLack cfg h (c :: l) t = demandOf h c - minOf cfg c + tenantLack cfg h l t := by
  unfold tenantLack
  rw [List.filter_cons, if_pos (by simpa using hc), List.map_cons, List.sum_cons]

theorem handOut_cons_none {c : Fin 16} (hc : tenantOf cfg c = none) (l : List (Fin 16)) (extra : Vector Nat 4) :
    handOut cfg h (c :: l) extra = handOut cfg h l extra := by
  rw [handOut, hc]

theorem handOut_cons_some {c : Fin 16} {t : Fin 4} (hc : tenantOf cfg c = some t) (l : List (Fin 16))
    (extra : Vector Nat 4) :
    handOut cfg h (c :: l) extra =
      (c, minOf cfg c + min (extra.get t) (demandOf h c - minOf cfg c))
        :: handOut cfg h l (extra.set t (extra.get t - min (extra.get t) (demandOf h c - minOf cfg c))) := by
  rw [handOut, hc]

theorem handOut_lookup_of_notMem {c : Fin 16} (l : List (Fin 16)) (extra : Vector Nat 4) (hc : c ∉ l) :
    (handOut cfg h l extra).lookup c = none := by
  induction l generalizing extra with
  | nil => rfl
  | cons y l ih =>
    obtain ⟨hy, hl⟩ := not_or.mp (mt List.mem_cons.mpr hc)
    cases ht : tenantOf cfg y with
    | none => rw [handOut_cons_none cfg h ht, ih _ hl]
    | some t => rw [handOut_cons_some cfg h ht, lookup_cons_other hy, ih _ hl]

/-- A carrier takes, up to what it lacks, what the carriers of its tenant before it have left of the extra. -/
theorem handOut_lookup {c : Fin 16} {t : Fin 4} (hc : tenantOf cfg c = some t) (pre post : List (Fin 16))
    (extra : Vector Nat 4) (hn : (pre ++ c :: post).Nodup) :
    let gs := handOut cfg h (pre ++ c :: post) extra
    gs.lookup c = some (minOf cfg c + min (extra.get t - tenantGain cfg gs pre t) (demandOf h c - minOf cfg c)) := by
  induction pre generalizing extra with
  | nil =>
    rw [List.nil_append, handOut_cons_some cfg h hc]
    exact lookup_cons_self _ _ _
  | cons y pre ih =>
    obtain ⟨hy, hn⟩ := List.nodup_cons.mp hn
    have hcy : c ≠ y := fun e => hy (e ▸ List.mem_append_right _ List.mem_cons_self)
    have hpre : y ∉ pre := fun k => hy (List.mem_append_left _ k)
    rw [List.cons_append]
    cases hu : tenantOf cfg y with
    | none =>
      have hne : tenantOf cfg y ≠ some t := by rw [hu]; exact nofun
      simp only [handOut_cons_none cfg h hu, tenantGain_cons_other cfg hne]
      exact ih extra hn
    | some u =>
      rw [handOut_cons_some cfg h hu]
      generalize min (extra.get u) (demandOf h y - minOf cfg y) = n
      have e := ih (extra.set u (extra.get u - n)) hn
      dsimp only at e ⊢
      rw [lookup_cons_other hcy, e, get_set]
      by_cases htu : t = u
      · subst htu
        rw [if_pos rfl, tenantGain_cons_self cfg hu, gain_cons_self, tenantGain_of_notMem cfg hpre, Nat.sub_sub]
      · rw [if_neg htu, tenantGain_cons_other cfg (by rw [hu]; exact fun k => htu (Option.some.inj k).symm),
          tenantGain_of_notMem cfg hpre]

/-- A tenant's carriers take its whole extra, but for what they do not lack. -/
theorem handOut_tenantGain (l : List (Fin 16)) (extra : Vector Nat 4) (hn : l.Nodup) (t : Fin 4) :
    tenantGain cfg (handOut cfg h l extra) l t = min (extra.get t) (tenantLack cfg h l t) := by
  induction l generalizing extra with
  | nil => exact (Nat.min_zero _).symm
  | cons y l ih =>
    obtain ⟨hy, hn⟩ := List.nodup_cons.mp hn
    cases hu : tenantOf cfg y with
    | none =>
      have hne : tenantOf cfg y ≠ some t := by rw [hu]; exact nofun
      rw [handOut_cons_none cfg h hu, tenantGain_cons_other cfg hne, tenantLack_cons_other cfg h hne]
      exact ih extra hn
    | some u =>
      rw [handOut_cons_some cfg h hu]
      by_cases htu : t = u
      · subst htu
        rw [tenantGain_cons_self cfg hu, gain_cons_self, tenantGain_of_notMem cfg hy, ih _ hn, get_set, if_pos rfl,
          tenantLack_cons_self cfg h hu]
        omega
      · have hne : tenantOf cfg y ≠ some t := by rw [hu]; exact fun k => htu (Option.some.inj k).symm
        rw [tenantGain_cons_other cfg hne, tenantLack_cons_other cfg h hne, tenantGain_of_notMem cfg hy, ih _ hn,
          get_set, if_neg htu]

end

end Sys2Proof.Machine
end

section
/-! SUPPORT. The grants of a reshare (R123), and the records that it leaves. -/

namespace Sys2Proof.Machine

/-! ## Grants -/

/-- The carriers that a reshare admits from `full`, in the eligible order. -/
def admittedOrder (s : State) (full : Nat) : List (Fin 16) :=
  (admissionOrder s).filter (· ∈ (admission s.cfg (admissionOrder s) full).admitted)

/-- The grants of a reshare that admits from `full` and shares `pool`. -/
def grantsOf (s : State) (full pool : Nat) : List (Fin 16 × Nat) :=
  handOut s.cfg (acked s) (admittedOrder s full) (growthOf s full pool).extra

/-- What a carrier is granted of them. -/
def grantOf (s : State) (full pool : Nat) (c : Fin 16) : Nat := ((grantsOf s full pool).lookup c).getD 0

theorem mem_admittedOrder (s : State) (full : Nat) (c : Fin 16) :
    c ∈ admittedOrder s full ↔ admits s full c = true := by
  rw [admittedOrder, List.mem_filter, admits]
  exact and_iff_right_of_imp fun h => admission_mem_order (of_decide_eq_true h)

theorem admittedOrder_pairwise (s : State) (full : Nat) :
    (admittedOrder s full).Pairwise fun x y => precedes s x y = true := (admissionOrder_pairwise s).filter _

theorem admittedOrder_nodup (s : State) (full : Nat) : (admittedOrder s full).Nodup :=
  (admissionOrder_nodup s).filter _

/-- Grants follow the carriers admitted, whichever pool they were admitted from. -/
theorem grantsOf_congr (s : State) {full full' : Nat} (h : admits s full = admits s full') (pool : Nat) :
    grantsOf s full pool = grantsOf s full' pool := by
  have ho : admittedOrder s full = admittedOrder s full' :=
    congrArg (fun p => (admissionOrder s).filter p) h
  rw [grantsOf, grantsOf, ho, growthOf_congr s h]

theorem grantsOf_lookup_none {s : State} {full : Nat} (pool : Nat) {c : Fin 16} (h : admits s full c = false) :
    (grantsOf s full pool).lookup c = none := by
  refine handOut_lookup_of_notMem _ _ _ _ fun hc => ?_
  rw [(mem_admittedOrder s full c).mp hc] at h
  cases h

theorem minimum_eq {s : State} {c : Fin 16} {d : CarrierDef} (hd : s.cfg.carriers.get c = some d) :
    minimum s c = d.min := by
  simp [minimum, hd]

/-- R123: a carrier's grant is its minimum and its part of the extra. -/
theorem grantsOf_lookup {s : State} {full : Nat} (pool : Nat) {c : Fin 16} {d : CarrierDef}
    (hd : s.cfg.carriers.get c = some d) (h : admits s full c = true) :
    (grantsOf s full pool).lookup c = some (d.min + min
      ((growthOf s full pool).extra.get d.tenant
        - sumOver (fun x => admits s full x && precedes s x c && ofTenant s d.tenant x)
            fun x => grantOf s full pool x - minimum s x)
      ((s.share.carriers.get c).demand - d.min)) := by
  obtain ⟨pre, post, hs⟩ := List.append_of_mem ((mem_admittedOrder s full c).mpr h)
  have hn := admittedOrder_nodup s full
  have hp := admittedOrder_pairwise s full
  have hten : tenantOf s.cfg c = some d.tenant := by rw [tenantOf, hd]; rfl
  have hgrant := handOut_lookup s.cfg (acked s) hten pre post (growthOf s full pool).extra (hs ▸ hn)
  have hgain : tenantGain s.cfg (grantsOf s full pool) pre d.tenant
      = sumOver (fun x => admits s full x && precedes s x c && ofTenant s d.tenant x)
          fun x => grantOf s full pool x - minimum s x := by
    rw [hs] at hn hp
    unfold tenantGain
    rw [sum_map_filter_eq_sumOver (List.nodup_append.mp hn).1]
    refine sumOver_congr (fun x => ?_) fun x _ => by rw [gain, minOf_eq_minimum]; rfl
    rw [ofTenant_eq]
    congr 1
    rw [Bool.eq_iff_iff, decide_eq_true_iff, Bool.and_eq_true, ← mem_admittedOrder, hs]
    constructor
    · intro hx
      have hx' : x ∈ pre ++ c :: post := List.mem_append_left _ hx
      exact ⟨hx', (precedes_iff_mem hp hx').mpr hx⟩
    · rintro ⟨hx', hx⟩
      exact (precedes_iff_mem hp hx').mp hx
  dsimp only at hgrant
  rw [← hs] at hgrant
  change (grantsOf s full pool).lookup c = some (_ + min (_ - tenantGain _ (grantsOf s full pool) _ _) _) at hgrant
  rw [hgrant, hgain, minOf_eq_minimum, minimum_eq hd]
  rfl

theorem grantOf_eq {s : State} {full : Nat} (pool : Nat) {c : Fin 16} {d : CarrierDef}
    (hd : s.cfg.carriers.get c = some d) (h : admits s full c = true) :
    grantOf s full pool c = d.min + min
      ((growthOf s full pool).extra.get d.tenant
        - sumOver (fun x => admits s full x && precedes s x c && ofTenant s d.tenant x)
            fun x => grantOf s full pool x - minimum s x)
      ((s.share.carriers.get c).demand - d.min) := by
  conv_lhs => rw [grantOf, grantsOf_lookup pool hd h, Option.getD_some]

/-- The carriers of a tenant are granted their minima and the whole of its extra. -/
theorem grantOf_total (s : State) (full pool : Nat) (k : Fin 4) :
    sumOver (fun c => admits s full c && ofTenant s k c) (grantOf s full pool)
      = sumOver (fun c => admits s full c && ofTenant s k c) (minimum s) + (growthOf s full pool).extra.get k := by
  have hn := admittedOrder_nodup s full
  have hmem : ∀ c, decide (c ∈ admittedOrder s full) = admits s full c := fun c => by simp [mem_admittedOrder]
  have hgain := handOut_tenantGain s.cfg (acked s) _ (growthOf s full pool).extra hn k
  have hextra := growthOf_extra s full pool k
  change tenantGain s.cfg (grantsOf s full pool) _ _ = _ at hgain
  unfold tenantGain tenantLack at hgain
  rw [sum_map_filter_eq_sumOver hn, sum_map_filter_eq_sumOver hn, minOf_eq_minimum] at hgain
  simp only [hmem] at hgain
  change sumOver (fun c => admits s full c && ofTenant s k c) _
    = min _ (sumOver (fun c => admits s full c && ofTenant s k c) (lacking s)) at hgain
  have hle : (growthOf s full pool).extra.get k
      ≤ sumOver (fun c => admits s full c && ofTenant s k c) (lacking s) := by omega
  rw [Nat.min_eq_left hle] at hgain
  rw [← hgain, ← sumOver_add]
  refine sumOver_congr (fun _ => rfl) fun c hc => ?_
  have hadm := (Bool.and_eq_true_iff.mp hc).1
  obtain ⟨d, hd⟩ := admits_eligible hadm
  have := grantOf_eq (full := full) pool hd.1 hadm
  rw [gain, minOf_eq_minimum, minimum_eq hd.1]
  change _ = _ + (grantOf s full pool c - _)
  omega

/-- With an extra that gives a tenant's carriers all that they lack each takes all that it lacks. -/
theorem grantOf_whole {s : State} {full pool : Nat} {k : Fin 4}
    (h : sumOver (fun c => admits s full c && ofTenant s k c) (lacking s) = (growthOf s full pool).extra.get k)
    {c : Fin 16} (hc : (admits s full c && ofTenant s k c) = true) :
    grantOf s full pool c = minimum s c + lacking s c := by
  refine eq_of_sumOver_eq (p := fun c => admits s full c && ofTenant s k c) (g := fun c => minimum s c + lacking s c)
    (fun x hx => ?_) ?_ c hc
  · have hadm := (Bool.and_eq_true_iff.mp hx).1
    obtain ⟨d, hd⟩ := admits_eligible hadm
    rw [grantOf_eq pool hd.1 hadm, lacking, minimum_eq hd.1]
    exact Nat.add_le_add_left (Nat.min_le_right _ _) _
  · rw [grantOf_total, sumOver_add, h]

/-- With an extra short of what a tenant's carriers lack its ceiling is reached, or nothing is left. -/
theorem growthOf_full (s : State) (full pool : Nat) (k : Fin 4)
    (h : sumOver (fun c => admits s full c && ofTenant s k c) (lacking s) ≠ (growthOf s full pool).extra.get k) :
    (growthOf s full pool).left = 0 ∨ (s.cfg.tenants.get k).ceiling
      ≤ sumOver (fun c => admits s full c && ofTenant s k c) (minimum s) + (growthOf s full pool).extra.get k := by
  have hdone := growth_done s.cfg (acked s) (admission s.cfg (admissionOrder s) full) pool
  have hextra := growthOf_extra s full pool k
  change (growthOf s full pool).Done at hdone
  refine hdone.imp id fun hu => ?_
  have := hu k
  omega

end Sys2Proof.Machine
end

section
/-! SUPPORT. The tables that a reshare leaves: the pool and the borrow, each carrier's record, the tenants' totals. -/

namespace Sys2Proof.Machine

/-! ## Pool and borrow -/

/-- The borrow that a reshare leaves, and what it delivers (R127). -/
def borrowAfter (s : State) (fr : Bool) : Borrow × List Signal :=
  borrowOutcome s.share.borrow
    (borrowFits s.cfg (admissionOrder s) (fullPool s.share) (borrowAmount s.share.borrow)) fr

/-- The pool that a reshare shares (R118). -/
def poolAfter (s : State) (fr : Bool) : Nat := fullPool s.share - heldAmount (borrowAfter s fr).1

/-- The grant of a carrier in a reshare. -/
def grantAfter (s : State) (fr : Bool) : Fin 16 → Nat := grantOf s (fullPool s.share) (poolAfter s fr)

/-- The record that a reshare gives a carrier before it sheds any. -/
def settled (s : State) (fr : Bool) (c : Fin 16) : Carrier :=
  settleCarrier s.cfg (acked s) (admission s.cfg (admissionOrder s) (fullPool s.share))
    (grantsOf s (fullPool s.share) (poolAfter s fr)) c

theorem sameCarriers_iff (a b : List (Fin 16)) : sameCarriers a b = true ↔ ∀ c, c ∈ a ↔ c ∈ b := by
  simp [sameCarriers]

/-- R127: the borrow fits where the full pool holds it and lending it changes no admission. -/
theorem borrowFits_iff (s : State) (full n : Nat) :
    borrowFits s.cfg (admissionOrder s) full n = true ↔ n ≤ full ∧ admits s full = admits s (full - n) := by
  rw [borrowFits, Bool.and_eq_true, decide_eq_true_iff, sameCarriers_iff]
  refine and_congr_right fun _ => ?_
  rw [funext_iff]
  simp only [admits, decide_eq_decide]

/-- A held borrow changes no admission. -/
theorem admits_poolAfter (s : State) (fr : Bool) : admits s (fullPool s.share) = admits s (poolAfter s fr) := by
  unfold poolAfter borrowAfter
  cases hb : s.share.borrow with
  | absent => rfl
  | waiting n k =>
    cases hf : borrowFits s.cfg (admissionOrder s) (fullPool s.share) (borrowAmount (.waiting n k)) with
    | false => rfl
    | true => exact ((borrowFits_iff s _ n).mp hf).2
  | held n k =>
    cases hf : borrowFits s.cfg (admissionOrder s) (fullPool s.share) (borrowAmount (.held n k)) with
    | false => rfl
    | true => exact ((borrowFits_iff s _ n).mp hf).2

/-- The minima admitted lie within the pool that is shared. -/
theorem minima_le_poolAfter (s : State) (fr : Bool) :
    sumOver (admits s (fullPool s.share)) (minimum s) ≤ poolAfter s fr := by
  rw [admits_poolAfter s fr]
  exact admission_le_pool s _

/-- The reason of the ceiling pass for a carrier turned away (R121). -/
def turnedAway (s : State) (c : Fin 16) (d : CarrierDef) : WaitReason :=
  if sumOver (fun x => (floorPassed s (fullPool s.share) x || ceilingPassed s (fullPool s.share) x && precedes s x c)
      && ofTenant s d.tenant x) (minimum s) + d.min ≤ (s.cfg.tenants.get d.tenant).ceiling
  then .noCapacity else .ceiling

/-- R124: of the carriers turned away those on the air are shed. -/
theorem isShed_turnedAway (s : State) (c : Fin 16) (d : CarrierDef) (r : Carrier) :
    isShed r { r with state := .waiting, reason := some (turnedAway s c d), grant := 0 } = r.state.admitted := by
  have hwhy : turnedAway s c d = .ceiling ∨ turnedAway s c d = .noCapacity := by
    unfold turnedAway
    split
    · exact .inr rfl
    · exact .inl rfl
  rcases hwhy with e | e <;> rw [e] <;> simp [isShed]

section
variable (s : State) (before : Share) (named : Option (Fin 16 × ShareCause)) (fr : Bool)

theorem reshare_ack : (reshare s before named fr).share.ack = s.share.jump := by
  rw [reshare_share]
  rfl

theorem reshare_ackSent : (reshare s before named fr).share.ackSent = s.share.jump := by
  rw [reshare_share]
  rfl

theorem reshare_borrow : (reshare s before named fr).share.borrow = (borrowAfter s fr).1 := by
  rw [reshare_share]
  rfl

theorem reshare_pool : (reshare s before named fr).share.pool = poolAfter s fr := by
  rw [reshare_share]
  rfl

theorem reshare_delivers :
    (reshare s before named fr).signals = s.signals ++ (borrowAfter s fr).2 :=
  reshare_signals s before named fr

theorem reshare_clock : (reshare s before named fr).clock
    = { s.clock with permitted := if s.share.jump = s.share.ackSent then s.clock.permitted else s.share.jump } := by
  have hack : ∀ t : State, (deliverAck t).clock
      = { t.clock with permitted := if t.share.ack = t.share.ackSent then t.clock.permitted else t.share.ack } := by
    intro t
    unfold deliverAck
    split <;> rfl
  unfold reshare
  rw [(reshareReport_portsOnly _ _ _ _).clock, push_foldl_signals]
  exact hack _

/-! ## Carriers -/

theorem reshare_carrier (c : Fin 16) : (reshare s before named fr).share.carriers.get c =
    if isShed (s.share.carriers.get c) (settled s fr c) then startRestore s.cfg.restoreHold (settled s fr c)
    else settled s fr c := by
  have hafter : (ofCarriers (settled s fr)).get c = settled s fr c := Vector.get_ofFn _ _
  have h : (reshare s before named fr).share.carriers.get c =
      if c ∈ (List.finRange 16).filter
          fun x => isShed (s.share.carriers.get x) ((ofCarriers (settled s fr)).get x)
      then startRestore s.cfg.restoreHold ((ofCarriers (settled s fr)).get c)
      else (ofCarriers (settled s fr)).get c := by
    rw [reshare_share]
    exact Vector.get_ofFn _ _
  rw [h, hafter]
  refine if_congr ?_ rfl rfl
  rw [List.mem_filter, hafter]
  exact and_iff_right (List.mem_finRange c)

/-- A carrier that no reshare sheds. -/
theorem reshare_carrier_kept {c : Fin 16} (h : isShed (s.share.carriers.get c) (settled s fr c) = false) :
    (reshare s before named fr).share.carriers.get c = settled s fr c := by
  rw [reshare_carrier, h]
  rfl

theorem startRestore_state (hold : Nat) (r : Carrier) : (startRestore hold r).state = r.state := by
  unfold startRestore
  split <;> rfl

theorem startRestore_grant (hold : Nat) (r : Carrier) : (startRestore hold r).grant = r.grant := by
  unfold startRestore
  split <;> rfl

theorem reshare_state (c : Fin 16) :
    ((reshare s before named fr).share.carriers.get c).state = (settled s fr c).state := by
  rw [reshare_carrier]
  split
  · exact startRestore_state _ _
  · rfl

theorem reshare_grant (c : Fin 16) :
    ((reshare s before named fr).share.carriers.get c).grant = (settled s fr c).grant := by
  rw [reshare_carrier]
  split
  · exact startRestore_grant _ _
  · rfl

variable {s}

theorem settled_undefined {c : Fin 16} (hd : s.cfg.carriers.get c = none) :
    settled s fr c = s.share.carriers.get c := by
  unfold settled settleCarrier
  rw [hd]
  rfl

section
variable {c : Fin 16} {d : CarrierDef} (hd : s.cfg.carriers.get c = some d)
include hd

theorem settled_quiet (h : ¬Requesting s c) : settled s fr c = { s.share.carriers.get c with grant := 0 } := by
  rw [← requesting_iff] at h
  unfold settled settleCarrier
  rw [hd]
  exact if_neg h

theorem settled_blocked (h : Requesting s c) {why : WaitReason}
    (hb : blocked (acked s) d (s.share.carriers.get c) = some why) :
    settled s fr c = { s.share.carriers.get c with state := .waiting, reason := some why, grant := 0 } := by
  rw [← requesting_iff] at h
  unfold settled settleCarrier
  rw [hd]
  dsimp only
  rw [show (acked s).carriers.get c = s.share.carriers.get c from rfl, if_pos h, hb]

end

section
variable {c : Fin 16} {d : CarrierDef} (he : Eligible s c d)
include he

theorem settled_eligible : settled s fr c =
    ((grantsOf s (fullPool s.share) (poolAfter s fr)).lookup c).elim
      { s.share.carriers.get c with
        state := .waiting, reason := (admission s.cfg (admissionOrder s) (fullPool s.share)).reasons.lookup c
        grant := 0 }
      fun g => { s.share.carriers.get c with
        state := if g = (s.share.carriers.get c).demand then .active else .throttled, reason := none, grant := g } := by
  obtain ⟨hd, hr, hb⟩ := (eligible_iff s c d).mp he
  rw [← requesting_iff] at hr
  unfold settled settleCarrier
  rw [hd]
  dsimp only
  rw [show (acked s).carriers.get c = s.share.carriers.get c from rfl, if_pos hr, hb]
  cases (grantsOf s (fullPool s.share) (poolAfter s fr)).lookup c <;> rfl

theorem settled_admitted (h : admits s (fullPool s.share) c = true) :
    settled s fr c = { s.share.carriers.get c with
      state := if grantAfter s fr c = (s.share.carriers.get c).demand then .active else .throttled
      reason := none, grant := grantAfter s fr c } := by
  rw [settled_eligible fr he, grantAfter, grantOf, grantsOf_lookup _ he.1 h]
  rfl

theorem settled_refused (h : admits s (fullPool s.share) c = false) :
    settled s fr c
      = { s.share.carriers.get c with state := .waiting, reason := some (turnedAway s c d), grant := 0 } := by
  rw [settled_eligible fr he, grantsOf_lookup_none _ h, Option.elim_none, turnedAway,
    ← admission_reason_eq he h]

end

/-! ## What each carrier becomes -/

section
variable {c : Fin 16} {d : CarrierDef} (hd : s.cfg.carriers.get c = some d)
include hd

theorem reshare_quiet (h : ¬Requesting s c) :
    (reshare s before named fr).share.carriers.get c = { s.share.carriers.get c with grant := 0 } := by
  have hshed : isShed (s.share.carriers.get c) (settled s fr c) = false := by
    have : (s.share.carriers.get c).state.admitted = false := by
      rw [← Bool.not_eq_true, admitted_iff]
      exact fun k => h (.inr k)
    rw [isShed, this]
    rfl
  rw [reshare_carrier_kept s before named fr hshed, settled_quiet fr hd h]

theorem reshare_blocked (h : Requesting s c) {why : WaitReason}
    (hb : blocked (acked s) d (s.share.carriers.get c) = some why) :
    (reshare s before named fr).share.carriers.get c
      = { s.share.carriers.get c with state := .waiting, reason := some why, grant := 0 } := by
  have hshed : isShed (s.share.carriers.get c) (settled s fr c) = false := by
    have hwhy : why ≠ .ceiling ∧ why ≠ .noCapacity := by
      rcases blocked_cases s d (s.share.carriers.get c) with ⟨e, -⟩ | ⟨e, -⟩ | ⟨e, -⟩ | ⟨e, -⟩ <;> rw [hb] at e
        <;> cases e <;> decide
    rw [settled_blocked fr hd h hb]
    simp [isShed, hwhy]
  rw [reshare_carrier_kept s before named fr hshed, settled_blocked fr hd h hb]

end

section
variable {c : Fin 16} {d : CarrierDef} (he : Eligible s c d)
include he

theorem reshare_admitted (h : admits s (fullPool s.share) c = true) :
    (reshare s before named fr).share.carriers.get c = { s.share.carriers.get c with
      state := if grantAfter s fr c = (s.share.carriers.get c).demand then .active else .throttled
      reason := none, grant := grantAfter s fr c } := by
  have hshed : isShed (s.share.carriers.get c) (settled s fr c) = false := by
    rw [settled_admitted fr he h]
    simp [isShed]
  rw [reshare_carrier_kept s before named fr hshed, settled_admitted fr he h]

theorem reshare_refused (h : admits s (fullPool s.share) c = false) :
    (reshare s before named fr).share.carriers.get c =
      if (s.share.carriers.get c).state = .waiting ∨ s.cfg.restoreHold = 0
      then { s.share.carriers.get c with state := .waiting, reason := some (turnedAway s c d), grant := 0 }
      else { s.share.carriers.get c with
        state := .waiting, reason := some .restore, grant := 0, restore := some (s.cfg.restoreHold * 1000) } := by
  have hset := settled_refused fr he h
  have hshed := isShed_turnedAway s c d (s.share.carriers.get c)
  rw [← hset] at hshed
  rcases he.2.1 with hw | hon
  · rw [hw] at hshed
    rw [reshare_carrier_kept s before named fr hshed, hset, if_pos (.inl hw)]
  · rw [(admitted_iff s c).mpr hon] at hshed
    have hw : (s.share.carriers.get c).state ≠ .waiting := by
      rcases hon with hs | hs <;> rw [hs] <;> decide
    rw [reshare_carrier, if_pos hshed, hset, startRestore]
    by_cases h0 : s.cfg.restoreHold = 0
    · rw [if_pos h0, if_pos (.inr h0)]
    · rw [if_neg h0, if_neg (not_or.mpr ⟨hw, h0⟩)]

end

variable (s)

/-- The defined carriers on the air after a reshare are the admitted ones. -/
theorem reshare_onAir {c : Fin 16} {d : CarrierDef} (hd : s.cfg.carriers.get c = some d) :
    OnAir (reshare s before named fr) c ↔ admits s (fullPool s.share) c = true := by
  by_cases he : Eligible s c d
  · cases h : admits s (fullPool s.share) c with
    | false =>
      unfold OnAir
      rw [reshare_state, settled_refused fr he h]
      simp
    | true =>
      unfold OnAir
      rw [reshare_state, settled_admitted fr he h]
      dsimp only
      split <;> simp
  · have h : ¬admits s (fullPool s.share) c = true := fun k => by
      obtain ⟨e, hk⟩ := admits_eligible k
      obtain rfl := Option.some.inj (hd.symm.trans hk.1)
      exact he hk
    refine iff_of_false (fun hon => ?_) h
    unfold OnAir at hon
    rw [reshare_state] at hon
    by_cases hr : Requesting s c
    · cases hb : blocked (acked s) d (s.share.carriers.get c) with
      | none => exact he ((eligible_iff s c d).mpr ⟨hd, hr, hb⟩)
      | some why =>
        rw [settled_blocked fr hd hr hb] at hon
        simp at hon
    · rw [settled_quiet fr hd hr] at hon
      exact hr (.inr hon)

theorem reshare_onAir_undefined {c : Fin 16} (hd : s.cfg.carriers.get c = none) :
    OnAir (reshare s before named fr) c ↔ OnAir s c := by
  unfold OnAir
  rw [reshare_state, settled_undefined fr hd]

/-- The grant of a defined carrier is the one of the hand-out, and 0 where that gives it none. -/
theorem reshare_grant_eq {c : Fin 16} {d : CarrierDef} (hd : s.cfg.carriers.get c = some d) :
    ((reshare s before named fr).share.carriers.get c).grant
      = if admits s (fullPool s.share) c = true then grantAfter s fr c else 0 := by
  rw [reshare_grant]
  split
  · next h =>
    obtain ⟨e, he⟩ := admits_eligible h
    rw [settled_admitted fr he h]
  · next h =>
    rw [Bool.not_eq_true] at h
    by_cases hr : Requesting s c
    · cases hb : blocked (acked s) d (s.share.carriers.get c) with
      | none => rw [settled_refused fr ((eligible_iff s c d).mpr ⟨hd, hr, hb⟩) h]
      | some why => rw [settled_blocked fr hd hr hb]
    · rw [settled_quiet fr hd hr]

theorem reshare_grant_undefined {c : Fin 16} (hd : s.cfg.carriers.get c = none) :
    ((reshare s before named fr).share.carriers.get c).grant = (s.share.carriers.get c).grant := by
  rw [reshare_grant, settled_undefined fr hd]

/-! ## Tenants -/

theorem reshare_tenant_admitted (k : Fin 4) : ((reshare s before named fr).share.tenants.get k).admitted
    = sumOver (fun x => admits s (fullPool s.share) x && ofTenant s k x) (minimum s) := by
  rw [← admission_totals, reshare_share]
  fin_cases k <;> rfl

/-- The carriers of a tenant are granted together their minima and the tenant's extra. -/
theorem reshare_tenant_granted (k : Fin 4) : ((reshare s before named fr).share.tenants.get k).granted
    = sumOver (fun x => admits s (fullPool s.share) x && ofTenant s k x) (minimum s)
      + (growthOf s (fullPool s.share) (poolAfter s fr)).extra.get k := by
  have h : ((reshare s before named fr).share.tenants.get k).granted
      = sumOver (fun x => ofTenant s k x) fun x => ((reshare s before named fr).share.carriers.get x).grant := by
    have hg : ((reshare s before named fr).share.tenants.get k).granted
        = grantedTotal s.cfg (reshare s before named fr).share.carriers k := by
      rw [reshare_share]
      fin_cases k <;> rfl
    rw [hg, grantedTotal, sumOver]
    simp only [ofTenant_eq, beq_iff_eq]
  rw [h, ← grantOf_total, sumOver_eq_sum, sumOver_eq_sum]
  refine Finset.sum_congr rfl fun x _ => ?_
  cases ht : ofTenant s k x with
  | false => simp
  | true =>
    cases hd : s.cfg.carriers.get x with
    | none => simp [ofTenant, hd] at ht
    | some d =>
      rw [reshare_grant_eq s before named fr hd]
      simp [grantAfter]

/-- All grants and what growth leaves make up the pool. -/
theorem reshare_granted_sum : tenantSum (fun k => ((reshare s before named fr).share.tenants.get k).granted)
    + (growthOf s (fullPool s.share) (poolAfter s fr)).left = poolAfter s fr := by
  have hleft := growthOf_left s (fullPool s.share) (poolAfter s fr)
  have hle := minima_le_poolAfter s fr
  have hsum : tenantSum (fun k => sumOver (fun x => admits s (fullPool s.share) x && ofTenant s k x) (minimum s))
      = sumOver (admits s (fullPool s.share)) (minimum s) := by
    refine sumOver_tenants s _ _ fun c h => ?_
    obtain ⟨d, hd⟩ := admits_eligible h
    exact ⟨d, hd.1⟩
  have hadd := tenantSum_add
    (fun k => sumOver (fun x => admits s (fullPool s.share) x && ofTenant s k x) (minimum s))
    fun k => (growthOf s (fullPool s.share) (poolAfter s fr)).extra.get k
  simp only [reshare_tenant_granted]
  omega

end

end Sys2Proof.Machine
end

section
/-! SUPPORT. Admission in a reshare: the carriers blocked, admitted, turned away and shed (R119 to R121, R124). -/

namespace Sys2Proof.Machine

section
variable {s : State} {before : Share} {named : Option (Fin 16 × ShareCause)} {fr : Bool} {c : Fin 16}
  {d : CarrierDef} (hd : s.cfg.carriers.get c = some d)
include hd

/-- A carrier on the air after a reshare was not blocked. -/
theorem eligible_of_onAir (h : OnAir (reshare s before named fr) c) : Eligible s c d := by
  obtain ⟨e, he⟩ := admits_eligible ((reshare_onAir s before named fr hd).mp h)
  obtain rfl := Option.some.inj (hd.symm.trans he.1)
  exact he

/-- A carrier stays THROTTLED only where the whole pool is given out or its tenant is at its ceiling. -/
theorem reshare_throttled
    (hdemand : ∀ x e, s.cfg.carriers.get x = some e → Requesting s x → e.min ≤ (s.share.carriers.get x).demand)
    (h : ((reshare s before named fr).share.carriers.get c).state = .throttled) :
    poolAfter s fr = tenantSum (fun k => ((reshare s before named fr).share.tenants.get k).granted)
      ∨ (s.cfg.tenants.get d.tenant).ceiling ≤ ((reshare s before named fr).share.tenants.get d.tenant).granted := by
  have hon : OnAir (reshare s before named fr) c := .inr h
  have he := eligible_of_onAir hd hon
  have hadm := (reshare_onAir s before named fr hd).mp hon
  have hshort : sumOver (fun x => admits s (fullPool s.share) x && ofTenant s d.tenant x) (lacking s)
      ≠ (growthOf s (fullPool s.share) (poolAfter s fr)).extra.get d.tenant := by
    intro hall
    have hten := (ofTenant_iff hd d.tenant).mpr rfl
    have hgrant := grantOf_whole hall (Bool.and_eq_true_iff.mpr ⟨hadm, hten⟩)
    have hmin := hdemand c d hd he.2.1
    rw [lacking, minimum_eq hd, Nat.add_sub_of_le hmin] at hgrant
    rw [reshare_admitted before named fr he hadm] at h
    rw [show grantAfter s fr c = _ from hgrant] at h
    simp at h
  rcases growthOf_full s _ _ _ hshort with hleft | hceil
  · have := reshare_granted_sum s before named fr
    exact .inl (by omega)
  · rw [reshare_tenant_granted]
    exact .inr hceil

end

end Sys2Proof.Machine

open Sys2Proof Sys2Proof.Machine

/-- Settles O36. The floor pass and the ceiling pass of the statement are those of the full pool (`admission_passes`),
and each kind of carrier has its lemma on the record that a reshare leaves. -/
theorem reshareBlocks : Obligations.ReshareBlocks := by
  intro s before named fr c d hd
  dsimp only
  have hon : OnAir (reshare s before named fr) c → Eligible s c d := eligible_of_onAir hd
  refine ⟨reshare_ack s before named fr, fun h k => (hon k).2.2.1 h, fun h k => (hon k).2.2.2.1 (.inl h),
    fun hx h k => (hon k).2.2.2.1 (.inr ⟨hx, .inl h⟩), fun hx h k => (hon k).2.2.2.1 (.inr ⟨hx, .inr h⟩),
    reshare_quiet before named fr hd, fun hr hp => ?phase, fun hr hp hu => ?timing, fun hr hp hu hm => ?restore,
    ⟨floorPassed s (fullPool s.share), ceilingPassed s (fullPool s.share), admission_passes s _, ?air, ?totals, ?away⟩,
    fun he h => ?admitted, fun hdemand h _ => ?throttled⟩
  case phase => exact reshare_blocked before named fr hd hr (blocked_phase s d _ hp)
  case timing => exact reshare_blocked before named fr hd hr (blocked_timing s d _ hp hu)
  case restore => exact reshare_blocked before named fr hd hr (blocked_restore s d _ hp hu hm)
  case air =>
    intro x e hx
    rw [reshare_onAir s before named fr hx, ← floorPassed_or_ceilingPassed, Bool.or_eq_true]
  case totals =>
    intro k
    simp only [floorPassed_or_ceilingPassed]
    exact reshare_tenant_admitted s before named fr k
  case away =>
    intro he hf hc
    have hout : admits s (fullPool s.share) c = false := by
      rw [← floorPassed_or_ceilingPassed, hf, hc]
      rfl
    rw [reshare_refused before named fr he hout]
    exact ⟨fun h => if_pos h, fun hw h0 => if_neg (not_or.mpr ⟨hw, h0⟩)⟩
  case admitted =>
    exact ⟨grantAfter s fr c, reshare_admitted before named fr he ((reshare_onAir s before named fr hd).mp h)⟩
  case throttled =>
    rw [reshare_pool]
    exact reshare_throttled hd hdemand h
end

section
/-! SUPPORT. The test borrow in a reshare, and the grants of the pool that it leaves (R118, R123, R127). -/

namespace Sys2Proof.Machine

/-- The hand-out looks at the demands alone. -/
theorem handOut_congr (cfg : Settings) {h h' : Share} (hd : ∀ c, demandOf h c = demandOf h' c)
    (l : List (Fin 16)) (extra : Vector Nat 4) : handOut cfg h l extra = handOut cfg h' l extra := by
  induction l generalizing extra with
  | nil => rfl
  | cons c l ih =>
    cases ht : tenantOf cfg c with
    | none => rw [handOut_cons_none cfg h ht, handOut_cons_none cfg h' ht, ih]
    | some t => rw [handOut_cons_some cfg h ht, handOut_cons_some cfg h' ht, hd, ih]

/-- `s` under a base of `base` CU and with no borrow. -/
def unlent (s : State) (base : Nat) : State := { s with share := { s.share with base := base, borrow := .absent } }

section
variable (s : State) (base : Nat)

theorem unlent_admits : admits (unlent s base) = admits s := rfl

theorem unlent_grantOf : grantOf (unlent s base) = grantOf s := by
  funext full pool c
  have h : grantsOf (unlent s base) full pool = grantsOf s full pool :=
    handOut_congr s.cfg (h := acked (unlent s base)) (h' := acked s) (fun _ => rfl) (admittedOrder s full)
      (growthOf s full pool).extra
  rw [grantOf, grantOf, h]

theorem unlent_fullPool : fullPool (unlent s base).share = base - s.share.reserve := rfl

theorem unlent_poolAfter (fr : Bool) : poolAfter (unlent s base) fr = base - s.share.reserve := rfl

end

section
variable (s : State) (before : Share) (named : Option (Fin 16 × ShareCause)) (fr : Bool)

/-- The carriers on the air of the full pool are those after the reshare, whatever becomes of the borrow. -/
theorem unlent_onAir (base : Nat) {c : Fin 16} {d : CarrierDef} (hd : s.cfg.carriers.get c = some d) :
    OnAir (reshare (unlent s base) before named fr) c ↔ admits s (base - s.share.reserve) c = true := by
  rw [reshare_onAir (unlent s base) before named fr hd, unlent_admits, unlent_fullPool]

theorem unlent_onAir_undefined (base : Nat) {c : Fin 16} (hd : s.cfg.carriers.get c = none) :
    OnAir (reshare (unlent s base) before named fr) c ↔ OnAir s c :=
  reshare_onAir_undefined (unlent s base) before named fr hd

theorem reshare_onAir_unlent (c : Fin 16) :
    OnAir (reshare s before named fr) c ↔ OnAir (reshare (unlent s s.share.base) before named fr) c := by
  cases hd : s.cfg.carriers.get c with
  | none => rw [reshare_onAir_undefined s before named fr hd, unlent_onAir_undefined s before named fr _ hd]
  | some d => rw [reshare_onAir s before named fr hd, unlent_onAir s before named fr _ hd, fullPool]

theorem admits_undefined {full : Nat} {c : Fin 16} (hd : s.cfg.carriers.get c = none) : admits s full c = false := by
  rw [← Bool.not_eq_true]
  intro h
  obtain ⟨d, he⟩ := admits_eligible h
  exact absurd (hd.symm.trans he.1) nofun

/-- R127: the borrow fits where the full pool holds it and the carriers on the air with it are those without it. -/
theorem borrowFits_iff_onAir (n : Nat) :
    borrowFits s.cfg (admissionOrder s) (fullPool s.share) n = true ↔ n ≤ s.share.base - s.share.reserve
      ∧ ∀ c, OnAir (reshare (unlent s (s.share.base - n)) before named fr) c
        ↔ OnAir (reshare (unlent s s.share.base) before named fr) c := by
  rw [borrowFits_iff, funext_iff]
  refine and_congr_right fun _ => forall_congr' fun c => ?_
  rw [show fullPool s.share - n = s.share.base - n - s.share.reserve from Nat.sub_right_comm _ _ _, fullPool]
  cases hd : s.cfg.carriers.get c with
  | none =>
    rw [unlent_onAir_undefined s before named fr _ hd, unlent_onAir_undefined s before named fr _ hd,
      admits_undefined s hd, admits_undefined s hd]
    exact iff_of_true rfl Iff.rfl
  | some d =>
    rw [unlent_onAir s before named fr _ hd, unlent_onAir s before named fr _ hd, Bool.eq_iff_iff]
    exact Iff.comm

/-- The grants are those of a reshare that has the shared pool for its full pool. -/
theorem reshare_grant_unlent (c : Fin 16) {n : Nat} (hn : heldAmount (borrowAfter s fr).1 = n) :
    ((reshare s before named fr).share.carriers.get c).grant
      = ((reshare (unlent s (s.share.base - n)) before named fr).share.carriers.get c).grant := by
  have hpool : s.share.base - n - s.share.reserve = poolAfter s fr := by
    rw [← hn]
    exact Nat.sub_right_comm _ _ _
  cases hd : s.cfg.carriers.get c with
  | none =>
    rw [reshare_grant_undefined s before named fr hd]
    exact (reshare_grant_undefined (unlent s _) before named fr hd).symm
  | some d =>
    rw [reshare_grant_eq s before named fr hd, reshare_grant_eq (unlent s _) before named fr hd, unlent_admits,
      unlent_fullPool, grantAfter, grantAfter, unlent_grantOf, unlent_fullPool, unlent_poolAfter, hpool,
      ← admits_poolAfter, grantOf, grantOf, grantsOf_congr s (admits_poolAfter s fr)]

/-- The defined carriers on the air after a reshare, as a test. -/
theorem granted_eq_admits (c : Fin 16) :
    ((s.cfg.carriers.get c).isSome && ((reshare s before named fr).share.carriers.get c).state.admitted)
      = admits s (fullPool s.share) c := by
  cases hd : s.cfg.carriers.get c with
  | none => exact (admits_undefined s hd).symm
  | some d =>
    rw [Option.isSome_some, Bool.true_and, Bool.eq_iff_iff, ← reshare_onAir s before named fr hd, admitted_iff]

/-- R123: the grant of a carrier on the air is its minimum and its part of its tenant's extra. -/
theorem reshare_grant_handOut {c : Fin 16} {d : CarrierDef} (hd : s.cfg.carriers.get c = some d)
    (h : admits s (fullPool s.share) c = true) :
    ((reshare s before named fr).share.carriers.get c).grant = d.min + min
      ((growthOf s (fullPool s.share) (poolAfter s fr)).extra.get d.tenant
        - sumOver (fun x => admits s (fullPool s.share) x && precedes s x c && ofTenant s d.tenant x)
            fun x => ((reshare s before named fr).share.carriers.get x).grant - minimum s x)
      ((s.share.carriers.get c).demand - d.min) := by
  have hsum : sumOver (fun x => admits s (fullPool s.share) x && precedes s x c && ofTenant s d.tenant x)
        (fun x => ((reshare s before named fr).share.carriers.get x).grant - minimum s x)
      = sumOver (fun x => admits s (fullPool s.share) x && precedes s x c && ofTenant s d.tenant x)
        fun x => grantAfter s fr x - minimum s x := by
    refine sumOver_congr (fun _ => rfl) fun x hx => ?_
    have hadm : admits s (fullPool s.share) x = true :=
      (Bool.and_eq_true_iff.mp (Bool.and_eq_true_iff.mp hx).1).1
    obtain ⟨e, he⟩ := admits_eligible hadm
    rw [reshare_grant_eq s before named fr he.1, if_pos hadm]
  rw [hsum, reshare_grant_eq s before named fr hd, if_pos h]
  exact grantOf_eq (poolAfter s fr) hd h

/-! ## What becomes of the borrow -/

theorem borrowAfter_absent (h : s.share.borrow = .absent) : borrowAfter s fr = (.absent, []) := by
  rw [borrowAfter, h]
  rfl

theorem borrowAfter_waiting {n k : Nat} (h : s.share.borrow = .waiting n k) : borrowAfter s fr =
    if borrowFits s.cfg (admissionOrder s) (fullPool s.share) n = true then (.held n k, [.borrowGranted k])
    else (.waiting n k, if fr then [.borrowDeferred k] else []) := by
  rw [borrowAfter, h]
  rfl

theorem borrowAfter_held {n k : Nat} (h : s.share.borrow = .held n k) : borrowAfter s fr =
    if borrowFits s.cfg (admissionOrder s) (fullPool s.share) n = true then (.held n k, [])
    else (.absent, [.borrowRevoked k]) := by
  rw [borrowAfter, h]
  rfl

/-- The borrow and the deliveries of a reshare, from what `borrowAfter` gives. -/
theorem reshare_borrow_delivers {b : Borrow} {l : List Signal} (h : borrowAfter s fr = (b, l)) :
    (reshare s before named fr).share.borrow = b ∧ (reshare s before named fr).signals = s.signals ++ l := by
  rw [reshare_borrow, reshare_delivers, h]
  exact ⟨rfl, rfl⟩

end

end Sys2Proof.Machine

open Sys2Proof Sys2Proof.Machine

/-- Settles O37. The carriers admitted are those of the full pool, which a held borrow leaves as they are
(`admits_poolAfter`); growth and hand-out follow the carriers admitted alone. -/
theorem reshareAcknowledgesJump : Obligations.ReshareAcknowledgesJump := by
  intro s before named fr
  have hunlent : ∀ base, { s with share := { s.share with base := base, borrow := .absent } } = unlent s base :=
    fun _ => rfl
  dsimp only
  simp only [hunlent]
  have hfits := borrowFits_iff_onAir s before named fr
  refine ⟨reshare_ack s before named fr, reshare_ackSent s before named fr, reshare_clock s before named fr,
    reshare_counts s before named fr, (reshare_shared s before named fr).1, reshare_onAir_unlent s before named fr,
    ?pool, ?grants, ⟨fun k => (growthOf s (fullPool s.share) (poolAfter s fr)).extra.get k, ?growth, ?handOut⟩,
    fun h => ?absent, fun n k h hf => ?granted, fun n k h hf => ?deferred, fun n k h hf => ?kept,
    fun n k h hf => ?revoked⟩
  case pool =>
    rw [reshare_pool, reshare_borrow, poolAfter, fullPool]
    cases (borrowAfter s fr).1 <;> rfl
  case grants =>
    intro c
    refine reshare_grant_unlent s before named fr c ?_
    rw [reshare_borrow]
    cases (borrowAfter s fr).1 <;> rfl
  case growth =>
    simp only [granted_eq_admits]
    rw [reshare_pool]
    exact growthOf_grows s (fullPool s.share) (poolAfter s fr)
  case handOut =>
    intro c d hd hc
    simp only [granted_eq_admits] at hc ⊢
    exact reshare_grant_handOut s before named fr hd hc
  case absent =>
    have hb := reshare_borrow_delivers s before named fr (borrowAfter_absent s fr h)
    rwa [List.append_nil] at hb
  case granted =>
    exact reshare_borrow_delivers s before named fr ((borrowAfter_waiting s fr h).trans (if_pos ((hfits n).mpr hf)))
  case deferred =>
    exact reshare_borrow_delivers s before named fr
      ((borrowAfter_waiting s fr h).trans (if_neg (mt (hfits n).mp hf)))
  case kept =>
    have hb := reshare_borrow_delivers s before named fr
      ((borrowAfter_held s fr h).trans (if_pos ((hfits n).mpr hf)))
    rwa [List.append_nil] at hb
  case revoked =>
    exact reshare_borrow_delivers s before named fr ((borrowAfter_held s fr h).trans (if_neg (mt (hfits n).mp hf)))
end

section
/-! SUPPORT. The tables that a reshare leaves: the permit lines follow the carriers (R130), and grants and borrow stay
within the base less the reserve (R118, R123). -/

namespace Sys2Proof.Machine

/-! ## Permit lines -/

theorem permitLine_iff (cfg : Settings) (cs : Vector Carrier 16) (l : Fin 8) : permitLine cfg cs l = true ↔
    ∃ c d, cfg.carriers.get c = some d ∧ d.permit = some l ∧ (cs.get c).state.admitted = true := by
  simp only [permitLine, List.any_eq_true, List.mem_finRange, true_and]
  refine exists_congr fun c => ?_
  cases cfg.carriers.get c <;> simp

section
variable (s : State) (before : Share) (named : Option (Fin 16 × ShareCause)) (fr : Bool)

theorem reshare_permits (l : Fin 8) : (reshare s before named fr).share.permits.get l
    = permitLine s.cfg (reshare s before named fr).share.carriers l := by
  rw [reshare_share]
  exact Vector.get_ofFn _ _

theorem reshare_permitsAgree : PermitsAgree (reshare s before named fr) := by
  intro l
  rw [reshare_permits, permitLine_iff, reshare_cfg]
  simp only [admitted_iff, OnAir]

/-! ## What a reshare keeps of a carrier -/

theorem settled_demand (c : Fin 16) : (settled s fr c).demand = (s.share.carriers.get c).demand := by
  unfold settled settleCarrier
  dsimp only
  split
  · rfl
  · split
    · split
      · rfl
      · split <;> rfl
    · rfl

theorem settled_idle (c : Fin 16) : (settled s fr c).state = .idle ↔ (s.share.carriers.get c).state = .idle := by
  cases hd : s.cfg.carriers.get c with
  | none => rw [settled_undefined fr hd]
  | some d =>
    by_cases h : Requesting s c
    · have hne : (s.share.carriers.get c).state ≠ .idle := by
        rintro e
        rcases h with h | h | h <;> exact nomatch e.symm.trans h
      refine iff_of_false ?_ hne
      cases hb : blocked (acked s) d (s.share.carriers.get c) with
      | some why => rw [settled_blocked fr hd h hb]; exact nofun
      | none =>
        cases ha : admits s (fullPool s.share) c with
        | true =>
          rw [settled_admitted fr ((eligible_iff s c d).mpr ⟨hd, h, hb⟩) ha]
          dsimp only
          split <;> exact nofun
        | false => rw [settled_refused fr ((eligible_iff s c d).mpr ⟨hd, h, hb⟩) ha]; exact nofun
    · rw [settled_quiet fr hd h]

theorem startRestore_demand (hold : Nat) (r : Carrier) : (startRestore hold r).demand = r.demand := by
  unfold startRestore
  split <;> rfl

theorem reshare_demand (c : Fin 16) :
    ((reshare s before named fr).share.carriers.get c).demand = (s.share.carriers.get c).demand := by
  rw [reshare_carrier, ← settled_demand s fr]
  split
  · exact startRestore_demand _ _
  · rfl

theorem reshare_idle (c : Fin 16) : ((reshare s before named fr).share.carriers.get c).state = .idle
    ↔ (s.share.carriers.get c).state = .idle := by
  rw [reshare_state, settled_idle]

theorem reshare_undefined {c : Fin 16} (hd : s.cfg.carriers.get c = none) (h : s.share.carriers.get c = .idle) :
    (reshare s before named fr).share.carriers.get c = .idle := by
  rw [reshare_carrier_kept, settled_undefined fr hd, h]
  rw [settled_undefined fr hd, h]
  rfl

end

/-! ## Ceilings -/

/-- A tenant's admitted total stays within `n` where it takes no carrier past it. -/
theorem Admission.take_total_le {a : Admission} {c : Fin 16} {d : CarrierDef} {k : Fin 4} {n : Nat}
    (h : a.totals.get k ≤ n) (hd : d.tenant = k → a.totals.get k + d.min ≤ n) : (a.take c d).totals.get k ≤ n := by
  unfold Admission.take
  dsimp only
  rw [get_set]
  split
  · next e => rw [← e]; exact hd e.symm
  · exact h

theorem floorTest_total_le {cfg : Settings} {a : Admission} {k : Fin 4} {n : Nat} (hf : (cfg.tenants.get k).floor ≤ n)
    (h : a.totals.get k ≤ n) (c : Fin 16) : (floorTest cfg a c).totals.get k ≤ n := by
  unfold floorTest
  split
  · exact h
  · split
    · next hc => exact Admission.take_total_le h fun e => by subst e; exact hc.1.trans hf
    · exact h

theorem ceilingTest_total_le {cfg : Settings} {a : Admission} {k : Fin 4}
    (h : a.totals.get k ≤ (cfg.tenants.get k).ceiling) (c : Fin 16) :
    (ceilingTest cfg a c).totals.get k ≤ (cfg.tenants.get k).ceiling := by
  unfold ceilingTest
  split
  · exact h
  · split
    · exact h
    · split
      · next hc =>
        split
        · exact Admission.take_total_le h fun e => by subst e; exact hc
        · exact h
      · exact h

/-- R121: the minima that a reshare admits of a tenant lie within its ceiling. -/
theorem admission_total_le {cfg : Settings} {k : Fin 4} (h : (cfg.tenants.get k).floor ≤ (cfg.tenants.get k).ceiling)
    (order : List (Fin 16)) (pool : Nat) : (admission cfg order pool).totals.get k ≤ (cfg.tenants.get k).ceiling := by
  have hfold : ∀ (f : Admission → Fin 16 → Admission),
      (∀ a c, a.totals.get k ≤ (cfg.tenants.get k).ceiling → (f a c).totals.get k ≤ (cfg.tenants.get k).ceiling) →
      ∀ (l : List (Fin 16)) (a : Admission), a.totals.get k ≤ (cfg.tenants.get k).ceiling →
        (l.foldl f a).totals.get k ≤ (cfg.tenants.get k).ceiling := by
    intro f hf l
    induction l with
    | nil => exact fun _ ha => ha
    | cons c l ih => exact fun a ha => ih _ (hf a c ha)
  refine hfold _ (fun _ c ha => ceilingTest_total_le ha c) _ _
    (hfold _ (fun _ c ha => floorTest_total_le h ha c) _ _ ?_)
  rw [Admission.start, replicate_get]
  exact Nat.zero_le _

/-! ## Grants -/

/-- What a reshare asks of the tables it takes: a carrier outside IDLE demands its minimum at least, and one that is not
defined is IDLE. -/
structure Demanding (s : State) : Prop where
  demand : ∀ c d, s.cfg.carriers.get c = some d → (s.share.carriers.get c).state ≠ .idle →
    d.min ≤ (s.share.carriers.get c).demand
  undefined : ∀ c, s.cfg.carriers.get c = none → s.share.carriers.get c = .idle

theorem SharesSound.demanding {s : State} (h : SharesSound s) : Demanding s := ⟨h.demand, h.undefined⟩

/-- The grants of a tenant's carriers together. -/
def grantsTotal (cfg : Settings) (h : Share) (k : Fin 4) : Nat :=
  ((List.finRange 16).map fun c =>
    if (cfg.carriers.get c).map (·.tenant) = some k then (h.carriers.get c).grant else 0).sum

theorem grantsTotal_eq (s t : State) (k : Fin 4) :
    grantsTotal s.cfg t.share k = sumOver (ofTenant s k) fun c => (t.share.carriers.get c).grant := by
  unfold grantsTotal sumOver ofTenant
  simp only [beq_iff_eq]

theorem givenOut_eq (s : State) : givenOut s
    = ((List.finRange 16).map fun c => (s.share.carriers.get c).grant).sum + heldAmount s.share.borrow := by
  unfold givenOut
  cases s.share.borrow <;> rfl

section
variable (s : State) (before : Share) (named : Option (Fin 16 × ShareCause)) (fr : Bool)

theorem reshare_grantsTotal (k : Fin 4) : ((reshare s before named fr).share.tenants.get k).granted
    = grantsTotal s.cfg (reshare s before named fr).share k := by
  have hg : ((reshare s before named fr).share.tenants.get k).granted
      = grantedTotal s.cfg (reshare s before named fr).share.carriers k := by
    rw [reshare_share]
    fin_cases k <;> rfl
  exact hg

theorem reshare_admitted_sum : tenantSum (fun k => ((reshare s before named fr).share.tenants.get k).admitted)
    ≤ (reshare s before named fr).share.pool := by
  simp only [reshare_tenant_admitted]
  rw [sumOver_tenants, reshare_pool]
  · exact minima_le_poolAfter s fr
  · intro c h
    obtain ⟨d, hd⟩ := admits_eligible h
    exact ⟨d, hd.1⟩

/-- R121, R122: a tenant's carriers are granted its ceiling at most. -/
theorem reshare_ceiling {k : Fin 4} (h : (s.cfg.tenants.get k).floor ≤ (s.cfg.tenants.get k).ceiling) :
    grantsTotal s.cfg (reshare s before named fr).share k ≤ (s.cfg.tenants.get k).ceiling := by
  rw [← reshare_grantsTotal, reshare_tenant_granted]
  have he := growthOf_extra s (fullPool s.share) (poolAfter s fr) k
  have ht := admission_total_le h (admissionOrder s) (fullPool s.share)
  rw [admission_totals] at ht
  omega

theorem reshare_held : heldAmount (reshare s before named fr).share.borrow ≤ fullPool s.share := by
  rw [reshare_borrow]
  cases hb : s.share.borrow with
  | absent => rw [borrowAfter_absent s fr hb]; exact Nat.zero_le _
  | waiting n k =>
    rw [borrowAfter_waiting s fr hb]
    split
    · next h => exact ((borrowFits_iff _ _ _).mp h).1
    · exact Nat.zero_le _
  | held n k =>
    rw [borrowAfter_held s fr hb]
    split
    · next h => exact ((borrowFits_iff _ _ _).mp h).1
    · exact Nat.zero_le _

theorem reshare_onAir_grant {c : Fin 16} {d : CarrierDef} (hd : s.cfg.carriers.get c = some d)
    (h : OnAir (reshare s before named fr) c) (hm : d.min ≤ (s.share.carriers.get c).demand) :
    d.min ≤ ((reshare s before named fr).share.carriers.get c).grant
      ∧ ((reshare s before named fr).share.carriers.get c).grant ≤ (s.share.carriers.get c).demand := by
  have ha := (reshare_onAir s before named fr hd).mp h
  rw [reshare_grant_handOut s before named fr hd ha]
  omega

theorem reshare_offAir_grant (hu : ∀ c, s.cfg.carriers.get c = none → s.share.carriers.get c = .idle) {c : Fin 16}
    (h : ¬OnAir (reshare s before named fr) c) : ((reshare s before named fr).share.carriers.get c).grant = 0 := by
  cases hd : s.cfg.carriers.get c with
  | none => rw [reshare_undefined s before named fr hd (hu c hd)]; rfl
  | some d => rw [reshare_grant_eq s before named fr hd, if_neg fun ha => h ((reshare_onAir s before named fr hd).mpr ha)]

/-- All grants, where no undefined carrier holds one, are the tenants' grants. -/
theorem reshare_grants_sum (hu : ∀ c, s.cfg.carriers.get c = none → s.share.carriers.get c = .idle) :
    ((List.finRange 16).map fun c => ((reshare s before named fr).share.carriers.get c).grant).sum
      = tenantSum fun k => ((reshare s before named fr).share.tenants.get k).granted := by
  generalize ht : reshare s before named fr = t
  have hundefined : ∀ c, (s.cfg.carriers.get c).isSome = false → (t.share.carriers.get c).grant = 0 := by
    intro c hd
    rw [Option.isSome_eq_false_iff, Option.isNone_iff_eq_none] at hd
    rw [← ht, reshare_undefined s before named fr hd (hu c hd)]
    rfl
  have hdefined : ∀ k c, (s.cfg.carriers.get c).isSome = false → ofTenant s k c = false := by
    intro k c hd
    rw [Option.isSome_eq_false_iff, Option.isNone_iff_eq_none] at hd
    rw [ofTenant, hd]
    rfl
  calc ((List.finRange 16).map fun c => (t.share.carriers.get c).grant).sum
      = sumOver (fun c => (s.cfg.carriers.get c).isSome) fun c => (t.share.carriers.get c).grant := by
        refine congrArg List.sum (List.map_congr_left fun c _ => ?_)
        cases hd : (s.cfg.carriers.get c).isSome with
        | false => simp [hd, hundefined c hd]
        | true => simp [hd]
    _ = tenantSum fun k => sumOver (fun c => (s.cfg.carriers.get c).isSome && ofTenant s k c)
          fun c => (t.share.carriers.get c).grant :=
        (sumOver_tenants s _ _ fun c h => Option.isSome_iff_exists.mp h).symm
    _ = tenantSum fun k => (t.share.tenants.get k).granted := by
        refine congrArg tenantSum (funext fun k => ?_)
        rw [← ht, reshare_grantsTotal, grantsTotal_eq, ht]
        refine sumOver_congr (fun c => ?_) fun _ _ => rfl
        cases hd : (s.cfg.carriers.get c).isSome with
        | false => exact (hdefined k c hd).symm
        | true => rfl

theorem reshare_sound (h : Demanding s) : SharesSound (reshare s before named fr) where
  onAir c d hd ha := by
    rw [reshare_cfg] at hd
    rw [reshare_demand]
    refine reshare_onAir_grant s before named fr hd ha (h.demand c d hd fun hi => ?_)
    have hi := (reshare_idle s before named fr c).mpr hi
    rcases ha with ha | ha <;> exact nomatch hi.symm.trans ha
  offAir _ ha := reshare_offAir_grant s before named fr h.undefined ha
  demand c d hd hi := by
    rw [reshare_cfg] at hd
    rw [reshare_demand]
    exact h.demand c d hd (mt (reshare_idle s before named fr c).mpr hi)
  undefined c hd := by
    rw [reshare_cfg] at hd
    exact reshare_undefined s before named fr hd (h.undefined c hd)
  pool := by
    have hs := reshare_granted_sum s before named fr
    have hp : poolAfter s fr = fullPool s.share - heldAmount (reshare s before named fr).share.borrow := by
      rw [reshare_borrow]; rfl
    have hh := reshare_held s before named fr
    have hb : fullPool (reshare s before named fr).share = fullPool s.share := by rw [reshare_share]; rfl
    have hg := reshare_grants_sum s before named fr h.undefined
    change givenOut _ ≤ fullPool _
    rw [givenOut_eq, hg, hb]
    omega

end
end Sys2Proof.Machine
end

section
/-! SUPPORT. What a command keeps of every invariant at once. The invariants are those that a step keeps: bounded
queues, permit lines that follow the carriers, sound shares, permit lines apart, entitled owners of an alignment record,
the base capacity of the link's state, a qualified selection, and a site that stays in STAGING. An event of a block may
break those of its own tables until it ends, so `Keeps` names the parts whose invariants are kept already. -/

namespace Sys2Proof.Machine

/-- The parts whose own invariants hold at a point of a command: the share engine's tables, the owner of the alignment
record, the link supervisor's base, the timing selector's selection, the site's phase. -/
structure Scope where
  share : Bool
  owners : Bool
  link : Bool
  timing : Bool
  site : Bool

def Scope.noShare (m : Scope) : Scope := { m with share := false }
def Scope.noOwners (m : Scope) : Scope := { m with owners := false }
def Scope.noLink (m : Scope) : Scope := { m with link := false }
def Scope.noTiming (m : Scope) : Scope := { m with timing := false }

/-- A site in STAGING stays there, and no port comes to hold a line that it did not hold. -/
structure StaysStaged (s t : State) : Prop where
  phase : s.site.phase = .staging → t.site.phase = .staging
  lines : ∀ p, (t.port p).rxq ⊆ (s.port p).rxq

theorem StaysStaged.refl (s : State) : StaysStaged s s := ⟨id, fun _ => List.Subset.refl _⟩

theorem StaysStaged.trans {s t u : State} (h : StaysStaged s t) (k : StaysStaged t u) : StaysStaged s u :=
  ⟨fun x => k.phase (h.phase x), fun p => List.Subset.trans (k.lines p) (h.lines p)⟩

theorem StaysStaged.congr {s t : State} (hp : t.site.phase = s.site.phase) (hq : ∀ p, (t.port p).rxq = (s.port p).rxq) :
    StaysStaged s t := ⟨fun x => hp.trans x, fun p => hq p ▸ List.Subset.refl _⟩

/-- A site that is back in STAGING with empty queues. -/
theorem StaysStaged.reset {s t : State} (hp : t.site.phase = .staging) (hq : ∀ p, (t.port p).rxq = []) :
    StaysStaged s t := ⟨fun _ => hp, fun p => hq p ▸ List.nil_subset _⟩

/-- Every invariant of the parts in the scope that holds in `s` holds in `t`. -/
structure Keeps (m : Scope) (s t : State) : Prop where
  queues : QueuesBounded s → QueuesBounded t
  lines : LinesApartIn s → LinesApartIn t
  permits : m.share = true → PermitsAgree s → PermitsAgree t
  shares : m.share = true → SharesSound s → SharesSound t
  owners : m.owners = true → AlignOwnersEntitled s → AlignOwnersEntitled t
  base : m.link = true → BaseAgrees s → BaseAgrees t
  selection : m.timing = true → SelectionQualified s → SelectionQualified t
  staged : m.site = true → StaysStaged s t

variable {m : Scope} {s t u : State}

theorem Keeps.refl (s : State) : Keeps m s s :=
  ⟨id, id, fun _ => id, fun _ => id, fun _ => id, fun _ => id, fun _ => id, fun _ => .refl s⟩

theorem Keeps.trans (h : Keeps m s t) (k : Keeps m t u) : Keeps m s u where
  queues x := k.queues (h.queues x)
  lines x := k.lines (h.lines x)
  permits e x := k.permits e (h.permits e x)
  shares e x := k.shares e (h.shares e x)
  owners e x := k.owners e (h.owners e x)
  base e x := k.base e (h.base e x)
  selection e x := k.selection e (h.selection e x)
  staged e := (h.staged e).trans (k.staged e)

theorem Keeps.foldl {α : Type} {f : State → α → State} (h : ∀ s a, Keeps m s (f s a)) :
    ∀ (l : List α) (s : State), Keeps m s (l.foldl f s)
  | [], s => .refl s
  | a :: l, s => (h s a).trans (Keeps.foldl h l (f s a))

theorem Keeps.ite {c : Prop} [Decidable c] (h : c → Keeps m s t) (k : ¬c → Keeps m s u) :
    Keeps m s (if c then t else u) := by
  split
  · next e => exact h e
  · next e => exact k e

/-- The part of a request's answer that is the state. -/
theorem Keeps.pair {α : Type} {r : α} (h : Keeps m s t) : Keeps m s (t, r).1 := h

theorem Keeps.iteReply {α : Type} {c : Prop} [Decidable c] {x y : State × α} (h : c → Keeps m s x.1)
    (k : ¬c → Keeps m s y.1) : Keeps m s (if c then x else y).1 := by
  split
  · next e => exact h e
  · next e => exact k e

/-! ## Restoring a part -/

/-- The base is right again. -/
theorem Keeps.withBase (h : Keeps m.noLink s t) (k : BaseAgrees t) : Keeps m s t :=
  ⟨h.queues, h.lines, h.permits, h.shares, h.owners, fun _ _ => k, h.selection, h.staged⟩

theorem Keeps.noLink (h : Keeps m s t) : Keeps m.noLink s t :=
  ⟨h.queues, h.lines, h.permits, h.shares, h.owners, nofun, h.selection, h.staged⟩

/-- The selection is qualified again. -/
theorem Keeps.withSelection (h : Keeps m.noTiming s t) (k : SelectionQualified s → SelectionQualified t) : Keeps m s t :=
  ⟨h.queues, h.lines, h.permits, h.shares, h.owners, h.base, fun _ => k, h.staged⟩

theorem Keeps.noShare (h : Keeps m s t) : Keeps m.noShare s t :=
  ⟨h.queues, h.lines, nofun, nofun, h.owners, h.base, h.selection, h.staged⟩

theorem Keeps.noTiming (h : Keeps m s t) : Keeps m.noTiming s t :=
  ⟨h.queues, h.lines, h.permits, h.shares, h.owners, h.base, nofun, h.staged⟩

/-- The owner of the alignment record is entitled again. -/
theorem Keeps.withOwners (h : Keeps m.noOwners s t) (k : AlignOwnersEntitled s → AlignOwnersEntitled t) : Keeps m s t :=
  ⟨h.queues, h.lines, h.permits, h.shares, fun _ => k, h.base, h.selection, h.staged⟩

/-- The tables of the share engine follow the settings again. -/
theorem Keeps.withShare (h : Keeps m.noShare s t) (k : PermitsAgree s → PermitsAgree t)
    (l : SharesSound s → SharesSound t) : Keeps m s t :=
  ⟨h.queues, h.lines, fun _ => k, fun _ => l, h.owners, h.base, h.selection, h.staged⟩

/-! ## The invariants, by the fields they read -/

theorem PermitsAgree.congr (hc : t.cfg.carriers = s.cfg.carriers) (hs : t.share = s.share) (h : PermitsAgree s) :
    PermitsAgree t := by
  unfold PermitsAgree OnAir at *
  rwa [hc, hs]

theorem SharesSound.congr (hc : t.cfg.carriers = s.cfg.carriers) (hs : t.share = s.share) (h : SharesSound s) :
    SharesSound t := by
  obtain ⟨h1, h2, h3, h4, h5⟩ := h
  unfold OnAir at h1 h2
  unfold givenOut at h5
  rw [← hc, ← hs] at h1
  rw [← hs] at h2 h5
  rw [← hc, ← hs] at h3 h4
  exact ⟨h1, h2, h3, h4, h5⟩

theorem LinesApart.congr {a b : Settings} (hc : b.carriers = a.carriers) (h : LinesApart a) : LinesApart b := by
  unfold LinesApart at *
  rwa [hc]

theorem BaseAgrees.congr (hc : t.cfg.profiles = s.cfg.profiles) (hl : t.link = s.link) (h : BaseAgrees s) :
    BaseAgrees t := by
  unfold BaseAgrees baseOf leastCap capOf at *
  rwa [hl, hc]

theorem SelectionQualified.congr (ht : t.timing = s.timing) (h : SelectionQualified s) : SelectionQualified t := by
  unfold SelectionQualified Selectable at *
  rwa [ht]

theorem AlignOwnersEntitled.congr (ha : t.level.align = s.level.align)
    (hp : ∀ p, (t.port p).access = (s.port p).access) (hc : t.cfg.minima = s.cfg.minima)
    (h : AlignOwnersEntitled s) : AlignOwnersEntitled t := by
  unfold AlignOwnersEntitled inGroup at *
  simpa only [ha, hp, hc] using h

/-! ## Changes of one block -/

/-- What no invariant reads may change. -/
theorem Keeps.frame (hc : t.cfg = s.cfg) (hl : t.level = s.level) (hk : t.link = s.link) (ht : t.timing = s.timing)
    (hs : t.share = s.share) (hp : t.ports = s.ports) (hst : t.store = s.store)
    (hx : m.site = true → t.site.phase = s.site.phase) : Keeps m s t where
  queues h p := by unfold State.port; rw [hp]; exact h p
  lines h := by unfold LinesApartIn at *; rwa [hc, hst]
  permits _ := .congr (by rw [hc]) hs
  shares _ := .congr (by rw [hc]) hs
  owners _ := .congr (by rw [hl]) (fun p => by unfold State.port; rw [hp]) (by rw [hc])
  base _ := .congr (by rw [hc]) hk
  selection _ := .congr ht
  staged e := .congr (hx e) fun p => by unfold State.port; rw [hp]

theorem Keeps.onBus (s : State) (f : Bus → Bus) : Keeps m s (s.onBus f) := .frame rfl rfl rfl rfl rfl rfl rfl fun _ => rfl
theorem Keeps.onClock (s : State) (f : Clock → Clock) : Keeps m s (s.onClock f) := .frame rfl rfl rfl rfl rfl rfl rfl fun _ => rfl
theorem Keeps.onTests (s : State) (f : Tests → Tests) : Keeps m s (s.onTests f) := .frame rfl rfl rfl rfl rfl rfl rfl fun _ => rfl
theorem Keeps.onCurrent (s : State) (f : TestRec → TestRec) : Keeps m s (s.onCurrent f) := .onTests _ _
theorem Keeps.onSite (s : State) (f : Site → Site) (h : m.site = true → (f s.site).phase = s.site.phase) :
    Keeps m s (s.onSite f) := .frame rfl rfl rfl rfl rfl rfl rfl h
theorem Keeps.setInput (s : State) (i : InputPin) (x : Input) : Keeps m s (s.setInput i x) := .onSite _ _ fun _ => rfl
theorem Keeps.onRc (s : State) (f : RcClock → RcClock) : Keeps m s (s.onRc f) := .frame rfl rfl rfl rfl rfl rfl rfl fun _ => rfl
theorem Keeps.counting (s : State) (f : Counters → Counters) : Keeps m s (s.counting f) :=
  .frame rfl rfl rfl rfl rfl rfl rfl fun _ => rfl
theorem Keeps.push (s : State) (g : Signal) : Keeps m s (s.push g) := .frame rfl rfl rfl rfl rfl rfl rfl fun _ => rfl

/-- The link supervisor may change anything while its base is not yet recomputed. -/
theorem Keeps.onLink (s : State) (f : Link → Link) : Keeps m.noLink s (s.onLink f) :=
  ⟨id, id, fun _ => .congr rfl rfl, fun _ => .congr rfl rfl, fun _ => .congr rfl (fun _ => rfl) rfl, nofun,
    fun _ => .congr rfl, fun _ => .congr rfl fun _ => rfl⟩

/-- A change of the link supervisor that the base does not depend on. -/
theorem Keeps.onLink_same (s : State) (f : Link → Link) (hb : (f s.link).base = s.link.base)
    (hk : baseOf s.cfg (f s.link) = baseOf s.cfg s.link) : Keeps m s (s.onLink f) :=
  ⟨id, id, fun _ => .congr rfl rfl, fun _ => .congr rfl rfl, fun _ => .congr rfl (fun _ => rfl) rfl,
    fun _ h => by unfold BaseAgrees at *; exact hb.trans (h.trans hk.symm), fun _ => .congr rfl,
    fun _ => .congr rfl fun _ => rfl⟩

/-- The timing selector may change anything while it has not yet selected. -/
theorem Keeps.onTiming (s : State) (f : Timing → Timing) : Keeps m.noTiming s (s.onTiming f) :=
  ⟨id, id, fun _ => .congr rfl rfl, fun _ => .congr rfl rfl, fun _ => .congr rfl (fun _ => rfl) rfl,
    fun _ => .congr rfl rfl, nofun, fun _ => .congr rfl fun _ => rfl⟩

/-- Two records of the timing selector agree in all that the selection depends on. -/
def SameSelection (a b : Timing) : Prop :=
  b.selected = a.selected
    ∧ ∀ i, (b.sources.get i).state = (a.sources.get i).state
      ∧ ((a.sources.get i).mark = none → (b.sources.get i).mark = none)

theorem SameSelection.qualified (h : SameSelection s.timing t.timing) (k : SelectionQualified s) :
    SelectionQualified t := by
  intro i hi
  obtain ⟨hs, hr⟩ := h
  obtain ⟨hstate, hmark⟩ := hr i
  obtain ⟨hq, hn⟩ := k i (hs ▸ hi)
  exact ⟨hstate.trans hq, hmark hn⟩

theorem Keeps.onTiming_same (s : State) (f : Timing → Timing) (h : SameSelection s.timing (f s.timing)) :
    Keeps m s (s.onTiming f) := (Keeps.onTiming s f).withSelection h.qualified

/-- A change of the level monitor that gives the alignment record to no port. -/
theorem Keeps.onLevel (s : State) (f : Level → Level)
    (h : ∀ a p, (f s.level).align = some a → a.owner = .port p →
      ∃ b, s.level.align = some b ∧ b.owner = .port p) : Keeps m s (s.onLevel f) :=
  ⟨id, id, fun _ => .congr rfl rfl, fun _ => .congr rfl rfl,
    fun _ k p a ha ho => by
      obtain ⟨b, hb, hp⟩ := h a p ha ho
      exact k p b hb hp,
    fun _ => .congr rfl rfl, fun _ => .congr rfl, fun _ => .congr rfl fun _ => rfl⟩

/-- A change of settings that no invariant reads. -/
theorem Keeps.settings (s : State) (f : Settings → Settings)
    (hc : (f s.cfg).carriers = s.cfg.carriers) (hm : (f s.cfg).minima = s.cfg.minima)
    (hp : (f s.cfg).profiles = s.cfg.profiles) : Keeps m s (s.settings f) :=
  ⟨id, fun h => ⟨h.1.congr hc, h.2⟩, fun _ => .congr hc rfl, fun _ => .congr hc rfl,
    fun _ => .congr rfl (fun _ => rfl) hm, fun _ => .congr hp rfl, fun _ => .congr rfl,
    fun _ => .congr rfl fun _ => rfl⟩

/-! ## Ports -/

theorem Keeps.of_noticed (h : Noticed s t) : Keeps m s t := by
  have e := h.1.1
  refine ⟨h.2, ?_, fun _ => .congr ?_ ?_, fun _ => .congr ?_ ?_, fun _ => .congr ?_ (fun p => ?_) ?_,
    fun _ => .congr ?_ ?_, fun _ => .congr ?_, fun _ => .congr (by rw [PortsOnly.site e]) fun p => (h.1.2 p).2.1⟩
  · intro k; unfold LinesApartIn at *; rwa [PortsOnly.cfg e, PortsOnly.store e]
  · rw [PortsOnly.cfg e]
  · exact PortsOnly.share e
  · rw [PortsOnly.cfg e]
  · exact PortsOnly.share e
  · rw [PortsOnly.level e]
  · exact (h.1.2 p).2.2.2.1
  · rw [PortsOnly.cfg e]
  · rw [PortsOnly.cfg e]
  · exact PortsOnly.link e
  · exact PortsOnly.timing e

/-- A change of one port that keeps its level and its queues within their entries. -/
theorem Keeps.onPort (s : State) (p : Port) (f : PortState → PortState)
    (ha : (f (s.port p)).access = (s.port p).access)
    (hq : (s.port p).txq.length ≤ 24 ∧ (s.port p).rxq.length ≤ 4 →
      (f (s.port p)).txq.length ≤ 24 ∧ (f (s.port p)).rxq.length ≤ 4)
    (hr : m.site = true → (f (s.port p)).rxq ⊆ (s.port p).rxq) : Keeps m s (s.onPort p f) where
  queues h q := by
    by_cases e : q = p
    · subst e; rw [State.onPort_port_same]; exact hq (h q)
    · rw [State.onPort_port_other s f e]; exact h q
  lines h := h
  permits _ := .congr rfl rfl
  shares _ := .congr rfl rfl
  owners _ := .congr rfl (fun q => by
    by_cases e : q = p
    · subst e; rw [State.onPort_port_same]; exact ha
    · rw [State.onPort_port_other s f e]) rfl
  base _ := .congr rfl rfl
  selection _ := .congr rfl
  staged e := ⟨id, fun q => by
    by_cases k : q = p
    · subst k; rw [State.onPort_port_same]; exact hr e
    · rw [State.onPort_port_other s f k]; exact List.Subset.refl _⟩

/-- The level of a port changes; whether the owner of the alignment record is still entitled is open. -/
theorem Keeps.onAccess (s : State) (p : Port) (f : PortState → PortState)
    (hq : (f (s.port p)).txq = (s.port p).txq ∧ (f (s.port p)).rxq = (s.port p).rxq) :
    Keeps m.noOwners s (s.onPort p f) where
  queues h q := by
    by_cases e : q = p
    · subst e; rw [State.onPort_port_same, hq.1, hq.2]; exact h q
    · rw [State.onPort_port_other s f e]; exact h q
  lines h := h
  permits _ := .congr rfl rfl
  shares _ := .congr rfl rfl
  owners := nofun
  base _ := .congr rfl rfl
  selection _ := .congr rfl
  staged _ := .congr rfl fun q => by
    by_cases e : q = p
    · subst e; rw [State.onPort_port_same, hq.2]
    · rw [State.onPort_port_other s f e]

theorem enter_bounded (x : PortState) (h : x.txq.length ≤ 24) : x.enter.txq.length ≤ 24 := by
  unfold PortState.enter freeEntries txCapacity
  simp only [List.length_append, List.length_take]
  omega

theorem offerReply_keeps (s : State) (p : Port) (lead : Lead) (r : Reply) : Keeps m s (offerReply s p lead r) :=
  .onPort _ _ _ rfl (fun h => ⟨enter_bounded _ h.1, h.2⟩) fun _ => List.Subset.refl _

theorem notice_keeps (s : State) (p : Port) (w : List String) (l : List Pair) : Keeps m s (notice s p w l) :=
  .of_noticed (notice_noticed _ _ _ _)
theorem noticeMasked_keeps (s : State) (p : Port) (c : NoticeClass) (w : List String) (l : List Pair) :
    Keeps m s (noticeMasked s p c w l) := .of_noticed (noticeMasked_noticed _ _ _ _ _)
theorem noticeBoth_keeps (s : State) (c : NoticeClass) (w : List String) (l : List Pair) :
    Keeps m s (noticeBoth s c w l) := .of_noticed (noticeBoth_noticed _ _ _ _)
theorem noticeOwner_keeps (s : State) (p : Port) (c : NoticeClass) (w : List String) (l : List Pair) :
    Keeps m s (noticeOwner s p c w l) := .of_noticed (noticeOwner_noticed _ _ _ _ _)
theorem setFlag_keeps (s : State) (p : Port) (e : EventFlag) : Keeps m s (setFlag s p e) :=
  .of_noticed (setFlag_noticed _ _ _)
theorem setFlagBoth_keeps (s : State) (e : EventFlag) : Keeps m s (setFlagBoth s e) :=
  .of_noticed (setFlagBoth_noticed _ _)
theorem syncSummary_keeps (own : List SumKey) (s : State) : Keeps m s (syncSummary own s) :=
  .of_noticed (syncSummary_noticed _ _)

/-! ## Reshares -/

/-- A reshare leaves the permit lines and the shares sound, from tables that may be neither. -/
theorem reshare_keeps (s : State) (h : Share) (before : Share) (named : Option (Fin 16 × ShareCause)) (fr : Bool)
    (hd : SharesSound s → Demanding { s with share := h }) :
    Keeps m s (reshare { s with share := h } before named fr) := by
  have hs := reshare_shared { s with share := h } before named fr
  have ho := reshare_shareOnly { s with share := h } before named fr
  refine ⟨hs.2, ?_, fun _ _ => reshare_permitsAgree _ _ _ _, fun _ k => reshare_sound _ _ _ _ (hd k),
    fun _ => .congr ?_ (fun p => ?_) ?_, fun _ => .congr ?_ ?_, fun _ => .congr ?_,
    fun _ => .congr (by rw [ho.site]) fun p => (hs.1.2.2 p).2.1⟩
  · intro k; unfold LinesApartIn at *; rwa [ho.cfg, ho.store]
  · rw [ho.level]
  · exact (hs.1.2.2 p).2.2.2.1
  · rw [ho.cfg]
  · rw [ho.cfg]
  · exact ho.link
  · exact ho.timing

/-- A reshare after the settings or the carriers have changed. -/
theorem Keeps.thenReshare (k : Keeps m.noShare s t) (before : Share) (named : Option (Fin 16 × ShareCause)) (fr : Bool)
    (hd : SharesSound s → Demanding t) : Keeps m s (reshare t before named fr) :=
  (k.trans (reshare_keeps (m := m.noShare) t t.share before named fr SharesSound.demanding)).withShare
    (fun _ => reshare_permitsAgree _ _ _ _) fun h => reshare_sound _ _ _ _ (hd h)

/-- A change of an input that leaves the carriers as they are. -/
theorem shareInput_keeps (s : State) (f : Share → Share)
    (hf : (f s.share).carriers = s.share.carriers) :
    Keeps m s (shareInput s f) :=
  reshare_keeps _ _ _ _ _ fun h => by
    refine ⟨fun c d hd => ?_, fun c hc => ?_⟩
    · dsimp only; rw [hf]; exact h.demand c d hd
    · dsimp only; rw [hf]; exact h.undefined c hc

end Sys2Proof.Machine
end

section
/-! SUPPORT. What the share engine's own operations keep: every one that changes a carrier ends in a reshare of tables
that it can take, and CARRIER DEFINE lets no two carriers share a permit line (R110). -/

namespace Sys2Proof.Machine

variable {m : Scope}

/-! ## Changes of the tables -/

/-- The share engine's tables may change while no reshare has followed. -/
theorem Keeps.onShare (s : State) (h : Share) : Keeps m.noShare s { s with share := h } :=
  ⟨id, id, nofun, nofun, fun _ => .congr rfl (fun _ => rfl) rfl, fun _ => .congr rfl rfl, fun _ => .congr rfl,
    fun _ => .congr rfl fun _ => rfl⟩

/-- Settings may give carriers new lines while no reshare has followed, if the lines stay apart. -/
theorem Keeps.settings_lines {s t : State} (k : Keeps m.noShare s t) (f : Settings → Settings)
    (hl : LinesApartIn s → LinesApart (f t.cfg)) (hm : (f t.cfg).minima = t.cfg.minima)
    (hp : (f t.cfg).profiles = t.cfg.profiles) : Keeps m.noShare s (t.settings f) where
  queues h := k.queues h
  lines h := ⟨hl h, (k.lines h).2⟩
  permits := nofun
  shares := nofun
  owners e h := AlignOwnersEntitled.congr (s := t) rfl (fun _ => rfl) hm (k.owners e h)
  base e h := BaseAgrees.congr (s := t) hp rfl (k.base e h)
  selection e h := SelectionQualified.congr (s := t) rfl (k.selection e h)
  staged e := (k.staged e).trans (.congr rfl fun _ => rfl)

/-- The tables with each carrier's place on the air, its demand and its grant as they were, and no more lent. -/
theorem Keeps.onShare_same (s : State) (h : Share) (hp : h.permits = s.share.permits)
    (hc : ∀ c, (h.carriers.get c).state = (s.share.carriers.get c).state
      ∧ (h.carriers.get c).demand = (s.share.carriers.get c).demand
      ∧ (h.carriers.get c).grant = (s.share.carriers.get c).grant)
    (hi : ∀ c, s.share.carriers.get c = .idle → h.carriers.get c = .idle)
    (hb : fullPool h = fullPool s.share) (hn : heldAmount h.borrow = heldAmount s.share.borrow) :
    Keeps m s { s with share := h } := by
  have hair : ∀ c, OnAir { s with share := h } c ↔ OnAir s c := fun c => by
    unfold OnAir; dsimp only; rw [(hc c).1]
  refine (Keeps.onShare s h).withShare (fun k l => ?_) fun k => ⟨fun c d hd ha => ?_, fun c ha => ?_, fun c d hd hs => ?_,
    fun c hd => hi c (k.undefined c hd), ?_⟩
  · simp only [hair, hp]
    exact k l
  · rw [hair] at ha
    dsimp only
    rw [(hc c).2.1, (hc c).2.2]
    exact k.onAir c d hd ha
  · rw [hair] at ha
    dsimp only
    rw [(hc c).2.2]
    exact k.offAir c ha
  · dsimp only at hs ⊢
    rw [(hc c).1] at hs
    rw [(hc c).2.1]
    exact k.demand c d hd hs
  · have hg := k.pool
    change givenOut _ ≤ fullPool h
    change givenOut s ≤ fullPool s.share at hg
    rw [givenOut_eq] at hg ⊢
    rw [hb, hn, List.map_congr_left fun c _ => (hc c).2.2]
    exact hg

/-! ## One carrier -/

theorem Share.setCarrier_get (h : Share) (c x : Fin 16) (f : Carrier → Carrier) :
    (h.setCarrier c f).carriers.get x = if x = c then f (h.carriers.get c) else h.carriers.get x := get_set _ _ _ _

/-- An event of one carrier that leaves it IDLE, or outside IDLE with its demand, may be taken as a reshare. -/
theorem Demanding.setCarrier {s : State} (h : Demanding s) (c : Fin 16) (f : Carrier → Carrier)
    (hf : (f (s.share.carriers.get c)).state ≠ .idle → (s.share.carriers.get c).state ≠ .idle
      ∧ (f (s.share.carriers.get c)).demand = (s.share.carriers.get c).demand)
    (hi : s.share.carriers.get c = .idle → f (s.share.carriers.get c) = .idle) :
    Demanding { s with share := s.share.setCarrier c f } := by
  refine ⟨fun x d hd hs => ?_, fun x hd => ?_⟩
  · dsimp only at hs ⊢
    rw [Share.setCarrier_get] at hs ⊢
    split at hs
    · next e =>
      subst e
      rw [if_pos rfl, (hf hs).2]
      exact h.demand x d hd (hf hs).1
    · next e => rw [if_neg e]; exact h.demand x d hd hs
  · rw [Share.setCarrier_get]
    split
    · next e => subst e; exact hi (h.undefined x hd)
    · exact h.undefined x hd

theorem renumbered_get (h : Share) (c : Fin 16) :
    ((renumbered h).carriers.get c).state = (h.carriers.get c).state
      ∧ ((renumbered h).carriers.get c).demand = (h.carriers.get c).demand
      ∧ (h.carriers.get c = .idle → (renumbered h).carriers.get c = .idle) := by
  unfold renumbered ofCarriers
  dsimp only
  rw [Vector.get_ofFn]
  split
  · next e => exact ⟨rfl, rfl, fun hi => by rw [hi] at e; exact nomatch e⟩
  · exact ⟨rfl, rfl, id⟩

theorem nextOrder_get (h : Share) (c : Fin 16) :
    ((nextOrder h).carriers.get c).state = (h.carriers.get c).state
      ∧ ((nextOrder h).carriers.get c).demand = (h.carriers.get c).demand
      ∧ (h.carriers.get c = .idle → (nextOrder h).carriers.get c = .idle) := by
  unfold nextOrder
  dsimp only
  split
  · exact ⟨rfl, rfl, id⟩
  · exact renumbered_get h c

theorem Demanding.nextOrder {s : State} (h : Demanding s) : Demanding { s with share := nextOrder s.share } := by
  refine ⟨fun c d hd hs => ?_, fun c hd => (nextOrder_get _ c).2.2 (h.undefined c hd)⟩
  obtain ⟨h1, h2, -⟩ := nextOrder_get s.share c
  dsimp only at hs ⊢
  rw [h1] at hs
  rw [h2]
  exact h.demand c d hd hs

/-- A defined carrier may take any demand that holds its minimum. -/
theorem Demanding.request {s : State} (h : Demanding s) {c : Fin 16} {d : CarrierDef}
    (hd : s.cfg.carriers.get c = some d) (f : Carrier → Carrier) (hf : ∀ r, d.min ≤ (f r).demand) :
    Demanding { s with share := s.share.setCarrier c f } := by
  refine ⟨fun x e he hs => ?_, fun x he => ?_⟩
  · dsimp only at hs ⊢
    rw [Share.setCarrier_get] at hs ⊢
    split at hs
    · next hx =>
      subst hx
      rw [if_pos rfl, ← Option.some.inj (hd.symm.trans he)]
      exact hf _
    · next hx => rw [if_neg hx]; exact h.demand x e he hs
  · dsimp only
    rw [Share.setCarrier_get, if_neg fun hx => by subst hx; exact nomatch hd.symm.trans he]
    exact h.undefined x he

theorem carrierEvent_keeps (s : State) (c : Fin 16) (cause : ShareCause) (f : Share → Share)
    (hd : SharesSound s → Demanding { s with share := f s.share }) : Keeps m s (carrierEvent s c cause f) :=
  reshare_keeps s (f s.share) s.share (some (c, cause)) false hd

theorem requestCarrier_keeps (s : State) {c : Fin 16} {d : CarrierDef} (hd : s.cfg.carriers.get c = some d) {n : Nat}
    (hn : d.min ≤ n) : Keeps m s (requestCarrier s c n) := by
  refine carrierEvent_keeps s c .request _ ?_
  intro h
  split
  · exact h.demanding.nextOrder.request hd _ fun _ => hn
  · exact h.demanding.request hd _ fun _ => hn

theorem releaseCarrier_keeps (s : State) (c : Fin 16) : Keeps m s (releaseCarrier s c) := by
  refine carrierEvent_keeps s c .release _ ?_
  exact fun h => h.demanding.setCarrier _ _ (fun k => absurd rfl k) fun _ => rfl

theorem endHold_keeps (s : State) {c : Fin 16} (hc : (s.share.carriers.get c).state = .held) :
    Keeps m s (endHold s c) := by
  refine carrierEvent_keeps s c .holdEnd _ ?_
  exact fun h => h.demanding.setCarrier _ _ (fun _ => ⟨by rw [hc]; exact nofun, rfl⟩)
    fun e => by rw [e] at hc; exact nomatch hc

theorem holdCarrier_keeps (s : State) {c : Fin 16} (hc : (s.share.carriers.get c).state ≠ .idle) (n : Nat) :
    Keeps m s (holdCarrier s c n) := by
  refine carrierEvent_keeps s c .hold _ ?_
  exact fun h => h.demanding.setCarrier _ _ (fun _ => ⟨hc, rfl⟩) fun e => absurd (by rw [e]; rfl) hc

theorem endRestore_keeps (s : State) {c : Fin 16} (hc : (s.share.carriers.get c).restore.isSome) :
    Keeps m s (endRestore s c) := by
  refine carrierEvent_keeps s c .restoreEnd _ ?_
  exact fun h => h.demanding.setCarrier _ _ (fun k => ⟨k, rfl⟩) fun e => by rw [e] at hc; exact nomatch hc

/-! ## The borrow -/

theorem borrowRequest_keeps (s : State) (n : Nat) : Keeps m s (borrowRequest s n) := by
  unfold borrowRequest
  split
  · refine reshare_keeps s _ s.share none true ?_
    exact fun h => ⟨h.demand, h.undefined⟩
  · exact .refl _

theorem borrowEnd_keeps (s : State) : Keeps m s (borrowEnd s) := by
  unfold borrowEnd
  split
  · exact .refl _
  · next h => exact .onShare_same _ _ rfl (fun _ => ⟨rfl, rfl, rfl⟩) (fun _ => id) rfl (by rw [h]; rfl)
  · exact shareInput_keeps _ _ rfl

/-! ## Definitions -/

/-- A carrier that is undefined, or whose line no other takes, may be put into settings whose lines stand apart. -/
theorem LinesApart.set {cfg : Settings} (h : LinesApart cfg) (c : Fin 16) (o : Option CarrierDef)
    (hd : ∀ d, o = some d → lineTaken cfg c d = false) :
    LinesApart { cfg with carriers := cfg.carriers.set c o } := by
  have hfree : ∀ x e d l, x ≠ c → cfg.carriers.get x = some e → o = some d → d.permit = some l → e.permit ≠ some l := by
    intro x e d l hx he ho hl hp
    have hn := hd d ho
    simp only [lineTaken, hl, Option.isSome_some, Bool.true_and, List.any_eq_false, List.mem_finRange, true_imp_iff] at hn
    have := hn x
    simp only [he, hp, bne_iff_ne.mpr hx] at this
    exact this (by simp)
  intro x y dx dy l hxy hx hy hl
  dsimp only at hx hy
  rw [get_set] at hx hy
  split at hx
  · next ex =>
    rw [if_neg fun ey => hxy (ex.trans ey.symm)] at hy
    exact hfree y dy dx l (fun ey => hxy (ex.trans ey.symm)) hy hx hl
  · next ex =>
    split at hy
    · exact fun hp => hfree x dx dy l ex hx hy hp hl
    · exact h x y dx dy l hxy hx hy hl

/-- A change of the carriers' settings that ends in a reshare of tables that it can take. -/
theorem redefine_keeps {s t : State} (k : Keeps m s t) (f : Settings → Settings) (g : Share → Share)
    (hl : LinesApartIn s → LinesApart (f t.cfg))
    (hd : SharesSound s → Demanding { t with cfg := f t.cfg, share := g t.share })
    (hm : (f t.cfg).minima = t.cfg.minima) (hp : (f t.cfg).profiles = t.cfg.profiles) :
    Keeps m s (shareInput (t.settings f) g) :=
  ((Keeps.settings_lines k.noShare f hl hm hp).trans (Keeps.onShare (t.settings f) (g t.share))).thenReshare
    t.share none false hd

theorem putCarrier_keeps (s : State) (c : Fin 16) (o : Option CarrierDef)
    (ho : ∀ d, o = some d → lineTaken s.cfg c d = false) : Keeps m s (putCarrier s c o) := by
  unfold putCarrier
  dsimp only
  refine redefine_keeps (.refl s) _ _ (fun h => h.1.set c o ho) ?_ rfl rfl
  refine fun h => ⟨fun x e he hs => ?_, fun x he => ?_⟩
  · dsimp only at he hs ⊢
    rw [get_set] at he
    rw [Share.setCarrier_get] at hs ⊢
    split at hs
    · exact absurd rfl hs
    · next hx =>
      rw [if_neg hx] at he ⊢
      exact h.demand x e he hs
  · dsimp only at he
    rw [get_set] at he
    rw [Share.setCarrier_get]
    split
    · rfl
    · next hx =>
      rw [if_neg hx] at he
      exact h.undefined x he

/-- CARRIER DEFINE changes nothing, or puts a carrier that is undefined or whose line no other takes. -/
theorem handleCarrierDefine_cases (s : State) (c : Option Int) (a : CarrierArgs) :
    (handleCarrierDefine s c a).1 = s
      ∨ ∃ x o, (handleCarrierDefine s c a).1 = putCarrier s x o ∧ ∀ d, o = some d → lineTaken s.cfg x d = false := by
  unfold handleCarrierDefine
  cases indexOf 16 c with
  | none => exact .inl rfl
  | some x =>
    dsimp only
    split_ifs with _ _ _ _ hn
    case neg => exact .inr ⟨x, none, by dsimp only, nofun⟩
    all_goals try exact .inl rfl
    cases definedCarrier (s.cfg.carriers.get x) a with
    | none => exact .inl rfl
    | some d =>
      dsimp only
      split_ifs with hl
      · exact .inl rfl
      · exact .inl rfl
      · refine .inr ⟨x, some d, by dsimp only, fun e he => ?_⟩
        cases he
        rwa [Bool.not_eq_true] at hl

theorem handleCarrierDefine_keeps (s : State) (c : Option Int) (a : CarrierArgs) :
    Keeps m s (handleCarrierDefine s c a).1 := by
  rcases handleCarrierDefine_cases s c a with h | ⟨x, o, h, ho⟩
  · rw [h]; exact .refl s
  · rw [h]; exact putCarrier_keeps s x o ho

/-- A LOAD takes the carriers of an image whose lines stand apart. -/
theorem loadShare_keeps {s t : State} (k : Keeps m s t) (img : Settings) (hl : LinesApartIn s → LinesApart img) :
    Keeps m s (loadShare t img) := by
  unfold loadShare
  dsimp only
  refine redefine_keeps k _ _ (fun h => LinesApart.congr (a := img) rfl (hl h)) ?_ rfl rfl
  exact fun _ => ⟨fun c _ _ hs => absurd (by dsimp only; rw [replicate_get]; rfl) hs, fun c _ => replicate_get _ _⟩

/-! ## Requests of the share engine -/

theorem namedCarrier_keeps (s : State) (p : Port) (c : Option Int) (k : Fin 16 → CarrierDef → State × Reply)
    (h : ∀ x d, s.cfg.carriers.get x = some d → Keeps m s (k x d).1) : Keeps m s (namedCarrier s p c k).1 := by
  unfold namedCarrier
  split
  · exact .refl _
  · split
    · exact .refl _
    · split
      · exact .refl _
      · next d hd =>
        split
        · exact h _ d hd
        · exact .refl _

theorem handleCarrierRelease_keeps (s : State) (p : Port) (c : Option Int) :
    Keeps m s (handleCarrierRelease s p c).1 :=
  namedCarrier_keeps _ _ _ _ fun x _ _ => Keeps.ite (fun _ => .refl s) fun _ => releaseCarrier_keeps s x

theorem handleCarrierRequest_keeps (s : State) (p : Port) (c demand : Option Int) :
    Keeps m s (handleCarrierRequest s p c demand).1 := by
  unfold handleCarrierRequest
  split
  · exact handleCarrierRelease_keeps _ _ _
  · refine namedCarrier_keeps _ _ _ _ fun x d hd => ?_
    split
    · exact .refl _
    · split
      · exact .refl _
      · next hr =>
        dsimp only
        exact requestCarrier_keeps s hd (by omega)

theorem handleCarrierHold_keeps (s : State) (p : Port) (c n : Option Int) : Keeps m s (handleCarrierHold s p c n).1 := by
  unfold handleCarrierHold
  split_ifs
  · exact .refl s
  cases indexOf 16 c with
  | none => exact .refl s
  | some x =>
    dsimp only
    refine .iteReply (fun _ => .refl s) fun _ => ?_
    split
    · exact .refl s
    next k _ =>
    refine .iteReply (fun _ => .refl s) fun hs => ?_
    dsimp only
    split_ifs with _ hh
    · exact endHold_keeps s hh
    · exact .refl s
    · exact holdCarrier_keeps s (fun e => hs (.inr e)) k

theorem handleTenantSet_keeps (s : State) (t : Option Int) (a : TenantArgs) : Keeps m s (handleTenantSet s t a).1 := by
  unfold handleTenantSet
  split
  · exact .refl _
  · dsimp only
    split
    · exact .refl _
    · split
      · exact .refl _
      · dsimp only
        refine .trans ?_ (shareInput_keeps _ _ rfl)
        refine .settings _ _ rfl rfl rfl

theorem handleShareSet_keeps (s : State) (b r : Option Int) : Keeps m s (handleShareSet s b r).1 := by
  unfold handleShareSet
  split
  · exact .refl _
  · dsimp only
    refine .settings _ _ rfl rfl rfl

end Sys2Proof.Machine
end

section
/-! SUPPORT. What the timing selector's events keep: the selected source is QUALIFIED and carries no mark (R89). -/

namespace Sys2Proof.Machine

variable {m : Scope}

/-! ## Records of sources -/

theorem SameSelection.refl (t : Timing) : SameSelection t t := ⟨rfl, fun _ => ⟨rfl, id⟩⟩

theorem Timing.onSource_get (t : Timing) (i j : Source) (f : SourceRec → SourceRec) :
    (t.onSource i f).sources.get j = if j = i then f (t.sources.get i) else t.sources.get j := by
  unfold Timing.onSource
  split
  · next e => subst e; exact PerSource.get_put_same _ _ _
  · next e => exact PerSource.get_put_other _ _ e

theorem PerSource.get_map {α β : Type} (v : PerSource α) (f : α → β) (i : Source) : (v.map f).get i = f (v.get i) := by
  cases i <;> rfl

/-- One step of the forced CHECKs (R86). -/
def forceStep (t : Timing) (i : Source) : Timing :=
  if t.forced i ∧ (t.sources.get i).state ≠ .off then t.onSource i SourceRec.toCheck else t

theorem applyForce_eq (t : Timing) : t.applyForce = forceStep (forceStep (forceStep t .gnss) .link) .aux := by
  unfold Timing.applyForce allSources
  simp only [List.foldl_cons, List.foldl_nil]
  unfold forceStep
  rfl

theorem forceStep_fields (t : Timing) (i : Source) :
    (forceStep t i).selected = t.selected ∧ (forceStep t i).linkCopy = t.linkCopy
      ∧ (forceStep t i).oscCopy = t.oscCopy ∧ (forceStep t i).jumpReq = t.jumpReq ∧ (forceStep t i).latch = t.latch
      ∧ (forceStep t i).state = t.state := by
  unfold forceStep
  split <;> exact ⟨rfl, rfl, rfl, rfl, rfl, rfl⟩

theorem forceStep_get (t : Timing) (i j : Source) :
    (forceStep t i).sources.get j
      = if j = i ∧ t.forced i ∧ (t.sources.get i).state ≠ .off then (t.sources.get i).toCheck else t.sources.get j := by
  unfold forceStep
  split
  · next h =>
    rw [Timing.onSource_get]
    exact if_congr (and_iff_left h).symm rfl rfl
  · next h => rw [if_neg fun k => h k.2]

theorem forceStep_mark (t : Timing) (i j : Source) :
    ((forceStep t i).sources.get j).mark = (t.sources.get j).mark := by
  rw [forceStep_get]
  split
  · next h => rw [h.1]; rfl
  · rfl

theorem forceStep_forced (t : Timing) (i j : Source) : (forceStep t i).forced j = t.forced j := by
  obtain ⟨-, hl, ho, -, -, -⟩ := forceStep_fields t i
  unfold Timing.forced
  rw [forceStep_mark, hl, ho]

/-- R86: exactly the enabled sources to which a condition applies come into CHECK. -/
theorem applyForce_get (t : Timing) (i : Source) :
    t.applyForce.sources.get i
      = if t.forced i ∧ (t.sources.get i).state ≠ .off then (t.sources.get i).toCheck else t.sources.get i := by
  rw [applyForce_eq]
  cases i <;> simp only [forceStep_get, forceStep_forced, reduceCtorEq, true_and, false_and, if_false]

theorem applyForce_fields (t : Timing) :
    t.applyForce.selected = t.selected ∧ t.applyForce.linkCopy = t.linkCopy ∧ t.applyForce.oscCopy = t.oscCopy
      ∧ t.applyForce.jumpReq = t.jumpReq ∧ t.applyForce.latch = t.latch ∧ t.applyForce.state = t.state := by
  rw [applyForce_eq]
  obtain ⟨a1, a2, a3, a4, a5, a6⟩ := forceStep_fields t .gnss
  obtain ⟨b1, b2, b3, b4, b5, b6⟩ := forceStep_fields (forceStep t .gnss) .link
  obtain ⟨c1, c2, c3, c4, c5, c6⟩ := forceStep_fields (forceStep (forceStep t .gnss) .link) .aux
  exact ⟨c1.trans (b1.trans a1), c2.trans (b2.trans a2), c3.trans (b3.trans a3), c4.trans (b4.trans a4),
    c5.trans (b5.trans a5), c6.trans (b6.trans a6)⟩

/-- A QUALIFIED source that no condition forces stays QUALIFIED. -/
theorem applyForce_selectable (t : Timing) (i : Source) (hf : t.forced i = false)
    (hq : (t.sources.get i).state = .qualified) : t.applyForce.selectable i = true := by
  have hm : (t.sources.get i).mark.isSome = false := by
    unfold Timing.forced at hf
    simp only [Bool.or_eq_false_iff] at hf
    exact hf.1.1
  unfold Timing.selectable
  rw [applyForce_get, if_neg fun k => by rw [hf] at k; exact Bool.false_ne_true k.1, hq]
  cases h : (t.sources.get i).mark with
  | none => rfl
  | some n => rw [h] at hm; exact nomatch hm

/-! ## The end of an event -/

theorem sourceNotice_keeps (old : Timing) (c : String) (s : State) (i : Source) : Keeps m s (sourceNotice old c s i) := by
  unfold sourceNotice
  dsimp only
  split
  · exact .refl s
  · exact noticeBoth_keeps _ _ _ _

theorem noticeUnless_keeps (s : State) (c : Prop) [Decidable c] (k : NoticeClass) (w : List String) (l : List Pair) :
    Keeps m s (if c then s else noticeBoth s k w l) := .ite (fun _ => .refl s) fun _ => noticeBoth_keeps _ _ _ _

theorem shareInputUnless_keeps (s : State) (c : Prop) [Decidable c] (f : Share → Share)
    (hf : (f s.share).carriers = s.share.carriers) : Keeps m s (if c then s else shareInput s f) :=
  .ite (fun _ => .refl s) fun _ => shareInput_keeps s f hf

theorem timingCommit_keeps (s : State) (old : Timing) (c : TimingCauses) : Keeps m s (timingCommit s old c) := by
  have hj : ∀ (t : State) (a b : Option JumpRequest), Keeps m t (match a, b with
      | some j, none =>
        if c.jump = "" then t
        else noticeBoth t .time ["JUMP", "CANCELLED"] [kv "amount" (.int j.amount), kv "cause" (.word c.jump)]
      | _, _ => t) := by
    intro t a b
    split
    · exact noticeUnless_keeps _ _ _ _ _
    · exact .refl t
  unfold timingCommit
  dsimp only
  refine .trans ?_ (syncSummary_keeps _ _)
  refine .trans ?_ (shareInputUnless_keeps _ _ _ rfl)
  refine .trans ?_ (shareInputUnless_keeps _ _ _ rfl)
  refine .trans ?_ (.onClock _ _)
  refine .trans ?_ (hj _ _ _)
  refine .trans ?_ (noticeUnless_keeps _ _ _ _ _)
  refine .trans ?_ (noticeUnless_keeps _ _ _ _ _)
  refine .trans ?_ (noticeUnless_keeps _ _ _ _ _)
  exact (Keeps.onTiming_same s _ (.refl s.timing)).trans (.foldl (sourceNotice_keeps _ _) _ _)

/-- An event of the timing selector that leaves it with a qualified selection. -/
theorem Keeps.thenTiming {s t : State} (h : Keeps m.noTiming s t) (k : SelectionQualified s → SelectionQualified t)
    (old : Timing) (c : TimingCauses) : Keeps m s (timingCommit t old c) :=
  (h.withSelection k).trans (timingCommit_keeps t old c)

theorem cancelOnReselect_keeps (s : State) (old : Timing) : Keeps m s (cancelOnReselect s old) := by
  unfold cancelOnReselect
  split
  · exact .refl s
  · exact (Keeps.onTiming_same s _ ⟨rfl, fun _ => ⟨rfl, id⟩⟩).trans (.onClock _ _)

/-- The selection that `reselect` leaves is qualified. -/
theorem reselect_qualified (s : State) (t : Timing) (became : Option Source) (boundary : Bool)
    (h : ∀ j, became = some j → t.selectable j = true) :
    SelectionQualified (s.onTiming fun _ => (t.reselect became boundary).1) := by
  intro i hi
  have hq := reselect_selectable t became boundary h i hi
  refine (selectable_iff _ i).mp ?_
  have hsrc : (t.reselect became boundary).1.sources = t.sources := by
    rcases reselect_cases t became boundary with ⟨j, hj, hq, e⟩ | ⟨hn, e⟩ | e | ⟨j, hj, e⟩ <;> rw [e]
    · exact (select_keeps _ _).1
    · exact (select_keeps _ _).1
  unfold Timing.selectable at hq ⊢
  rw [State.onTiming_timing, hsrc]
  exact hq

theorem sourcesChanged_keeps {s t : State} (h : Keeps m.noTiming s t) (became : Option Source) (cause : String)
    (hb : ∀ j, became = some j → t.timing.applyForce.selectable j = true) :
    Keeps m s (sourcesChanged s t became cause) := by
  unfold sourcesChanged
  dsimp only
  refine Keeps.trans ?_ (timingCommit_keeps _ _ _)
  refine Keeps.trans ?_ (cancelOnReselect_keeps _ _)
  exact (h.trans (.onTiming t _)).withSelection fun _ => reselect_qualified t _ became false hb

/-! ## Captures -/

theorem qualifyStep_mark (g : SourceSettings) (r : SourceRec) (x : Int) (j : Judgement) :
    (qualifyStep g r x j).mark = r.mark := by
  unfold qualifyStep
  split
  · split
    · rfl
    · dsimp only; split_ifs <;> rfl
  · rfl

theorem badPulse_mark (g : SourceSettings) (r : SourceRec) : (badPulse g r).mark = r.mark := by
  unfold badPulse
  split <;> rfl

/-- A capture leaves the mark of the link tester. -/
theorem takeCapture_mark (g : SourceSettings) (r : SourceRec) (x : Int) (j : Judgement) :
    (takeCapture g r x j).mark = r.mark := by
  unfold takeCapture
  cases r.state with
  | off => rfl
  | check => rfl
  | qualifying => exact qualifyStep_mark ..
  | qualified => dsimp only; split; exacts [rfl, badPulse_mark ..]
  | failed => dsimp only; split <;> rfl

theorem badPulse_state (g : SourceSettings) (r : SourceRec) :
    (badPulse g r).state = r.state ∨ (badPulse g r).state = .failed := by
  unfold badPulse
  split
  · exact .inr rfl
  · exact .inl rfl

theorem countJudged_timing (s : State) (i : Source) (st : SourceState) (j : Judgement) :
    (countJudged s i st j).timing = s.timing := by
  unfold countJudged
  split
  · rfl
  · split <;> rfl

theorem countJudged_keeps (s : State) (i : Source) (st : SourceState) (j : Judgement) :
    Keeps m s (countJudged s i st j) := by
  unfold countJudged
  split
  · exact .refl s
  · split
    · exact .counting _ _
    · exact .counting _ _
    · exact .refl s

theorem recordChanged_keeps {s t : State} (h : Keeps m.noTiming s t) (i : Source) (cause : String)
    (hb : (s.timing.sources.get i).state ≠ (t.timing.sources.get i).state →
      (t.timing.sources.get i).state = .qualified → t.timing.forced i = false) :
    Keeps m s (recordChanged s t i cause) := by
  unfold recordChanged
  dsimp only
  have ht : ∀ (c : Prop) [Decidable c], (if c then setFlagBoth t .sourceFail else t).timing = t.timing := by
    intro c _
    split
    · exact PortsOnly.timing (setFlagBoth_noticed _ _).1.1
    · rfl
  refine sourcesChanged_keeps (h.trans (.ite (fun _ => setFlagBoth_keeps t _) fun _ => .refl t)) _ _ ?_
  intro j hj
  rw [ht]
  split at hj
  · next hc =>
    cases hj
    exact applyForce_selectable _ _ (hb hc.1 hc.2) hc.2
  · exact nomatch hj

theorem timingCapture_keeps (s : State) (i : Source) (t : SiteTime) (iv : Option Interval) (coarse : Bool) :
    Keeps m s (timingCapture s i t iv coarse) := by
  unfold timingCapture
  dsimp only
  split
  · exact .refl s
  split
  · exact .counting _ _
  next hn =>
  refine recordChanged_keeps ((countJudged_keeps s _ _ _).trans (.onTiming _ _)) _ _ fun _ _ => ?_
  simp only [Bool.or_eq_true, not_or, Bool.not_eq_true] at hn
  have hf := hn.1
  unfold Timing.forced at hf ⊢
  rw [State.onTiming_timing, Timing.onSource_get, if_pos rfl, takeCapture_mark]
  dsimp only
  unfold Timing.onSource
  rw [countJudged_timing]
  exact hf

/-- A MISSING event never makes a source QUALIFIED. -/
theorem missing_state (g : SourceSettings) (r w : SourceRec) (hw : w.state = r.state)
    (hq : (match r.state with
      | .qualifying => w.breakRun
      | .qualified => badPulse g w
      | _ => w).state = .qualified) : r.state = .qualified := by
  cases hs : r.state with
  | qualified => rfl
  | _ => rw [hs] at hq hw; exact absurd (hw.symm.trans hq) nofun

theorem timingMissing_keeps (s : State) (i : Source) : Keeps m s (timingMissing s i) := by
  unfold timingMissing
  dsimp only
  split
  · exact .refl s
  refine recordChanged_keeps ((Keeps.counting s _).trans (.onTiming _ _)) _ _ fun hne hq => absurd hq ?_
  rw [State.onTiming_timing, Timing.onSource_get, if_pos rfl] at hne ⊢
  intro h
  refine hne (.trans ?_ h.symm)
  exact missing_state (s.cfg.sources.get i) _ { s.timing.sources.get i with watch := some 1000 } rfl h

/-! ## Events of other blocks -/

theorem timingLink_keeps (s : State) (st : LinkState) : Keeps m s (timingLink s st) :=
  sourcesChanged_keeps (.onTiming s _) _ _ nofun

theorem timingOscSet_keeps (s : State) : Keeps m s (timingOscSet s) := by
  unfold timingOscSet
  dsimp only
  refine .thenTiming ?_ (fun _ => ?_) _ _
  · exact (Keeps.onTiming s _).trans (.onClock _ _)
  · exact fun i hi => nomatch hi

theorem timingOscClear_keeps (s : State) : Keeps m s (timingOscClear s) :=
  (Keeps.onTiming_same s _ ⟨rfl, fun _ => ⟨rfl, id⟩⟩).trans (timingCommit_keeps _ _ _)

theorem timingMark_keeps (s : State) (i : Source) (test : Nat) : Keeps m s (timingMark s i test).1 := by
  unfold timingMark
  exact .iteReply (fun _ => .refl s) fun _ => .pair (sourcesChanged_keeps (.onTiming s _) _ _ nofun)

theorem timingUnmark_keeps (s : State) (i : Source) : Keeps m s (timingUnmark s i) := by
  refine Keeps.onTiming_same s _ ⟨rfl, fun j => ?_⟩
  rw [Timing.onSource_get]
  split
  · next e => subst e; exact ⟨rfl, fun _ => rfl⟩
  · exact ⟨rfl, id⟩

/-! ## Second boundaries and steering points -/

/-- A change of every record that leaves states, and sets no mark. -/
theorem SameSelection.map {t u : Timing} (hs : u.selected = t.selected) (f : SourceRec → SourceRec)
    (hu : u.sources = t.sources.map f) (hf : ∀ r, (f r).state = r.state ∧ (r.mark = none → (f r).mark = none)) :
    SameSelection t u := by
  refine ⟨hs, fun i => ?_⟩
  rw [hu, PerSource.get_map]
  exact hf _

theorem holdoverSecond_same (t : Timing) (n : Nat) : SameSelection t (t.holdoverSecond n) := by
  unfold Timing.holdoverSecond
  dsimp only
  split <;> exact ⟨rfl, fun _ => ⟨rfl, id⟩⟩

theorem countOn_keeps (s : State) (k n : Nat) : Keeps m s (countOn s k n).1 := by
  unfold countOn
  split
  · exact .refl s
  · exact .frame rfl rfl rfl rfl rfl rfl rfl fun _ => rfl

theorem onTimingIf_keeps (s : State) (c : Prop) [Decidable c] (f : Timing → Timing) :
    Keeps m.noTiming s (if c then s.onTiming f else s) := .ite (fun _ => .onTiming _ _) fun _ => .refl s

theorem timingBoundary_keeps (s : State) (jumped : Bool) : Keeps m s (timingBoundary s jumped) := by
  have hold : ∀ t : State, Keeps m.noTiming t (match t.timing.state, t.timing.holdSecs with
      | .holdover, some n => (countOn t 0 n).1.onTiming fun k => k.holdoverSecond (countOn t 0 n).2
      | _, _ => t) := by
    intro t
    split
    · exact (countOn_keeps _ _ _).trans (.onTiming _ _)
    · exact .refl t
  unfold timingBoundary
  dsimp only
  refine Keeps.trans ?_ (timingCommit_keeps _ _ _)
  refine Keeps.trans ?_ (cancelOnReselect_keeps _ _)
  refine Keeps.withSelection (Keeps.trans ?_ (.onTiming _ _)) fun _ => reselect_qualified _ _ none true nofun
  refine Keeps.trans ?_ (hold _)
  refine Keeps.trans ?_ (Keeps.onTiming _ _)
  refine Keeps.trans ?_ (onTimingIf_keeps _ _ _)
  exact (Keeps.onTiming _ _).trans (.onTiming _ _)

theorem handSteer_keeps (s : State) (c : Int) : Keeps m s (handSteer s c) :=
  (Keeps.onTiming_same s _ ⟨rfl, fun _ => ⟨rfl, id⟩⟩).trans (.onClock _ _)

theorem handJump_keeps (s : State) (i : Source) (c : Int) : Keeps m s (handJump s i c) :=
  (Keeps.onTiming_same s _ ⟨rfl, fun _ => ⟨rfl, id⟩⟩).trans (.onClock _ _)

theorem raiseJump_keeps (s : State) (i : Source) (x : Int) : Keeps m s (raiseJump s i x) :=
  (Keeps.onTiming_same s _ ⟨rfl, fun _ => ⟨rfl, id⟩⟩).trans ((handJump_keeps _ _ _).trans (noticeBoth_keeps _ _ _ _))

theorem lockStep_same (g : TimingSettings) (t : Timing) (x : Int) : SameSelection t (lockStep g t x) := by
  unfold lockStep
  dsimp only
  split_ifs <;> exact ⟨rfl, fun _ => ⟨rfl, id⟩⟩

theorem unlockStep_same (g : TimingSettings) (t : Timing) (x : Int) : SameSelection t (unlockStep g t x) := by
  unfold unlockStep
  dsimp only
  split_ifs <;> exact ⟨rfl, fun _ => ⟨rfl, id⟩⟩

theorem steerTo_keeps (s : State) (i : Source) (x : Int) : Keeps m s (steerTo s i x) := by
  unfold steerTo
  dsimp only
  split
  · split
    · exact .ite (fun _ => .refl s) fun _ => handJump_keeps _ _ _
    · exact .ite (fun _ => raiseJump_keeps _ _ _) fun _ =>
        (handSteer_keeps _ _).trans (.onTiming_same _ _ (lockStep_same _ _ _))
  · exact (handSteer_keeps _ _).trans (.onTiming_same _ _ (unlockStep_same _ _ _))
  · exact .refl s

theorem timingSteering_keeps (s : State) : Keeps m s (timingSteering s) := by
  unfold timingSteering
  dsimp only
  refine Keeps.trans ?_ (timingCommit_keeps _ _ _)
  refine Keeps.trans ?_ (.onTiming_same _ _ (.map rfl (fun r => { r with fresh := none }) rfl fun _ => ⟨rfl, id⟩))
  split
  · exact .refl s
  · split
    · exact .refl s
    · exact steerTo_keeps _ _ _

/-! ## Requests of the timing selector -/

theorem clockEnable_keeps (s : State) (i : Source) (b : Bool) : Keeps m s (clockEnable s i b) := .onClock _ _

theorem applySource_keeps (s : State) (i : Source) (g : SourceSettings) : Keeps m s (applySource s i g) := by
  have ht : Keeps m.noTiming s (s.settings fun cfg => { cfg with sources := cfg.sources.put i g }) := .settings _ _ rfl rfl rfl
  unfold applySource
  dsimp only
  split
  · exact sourcesChanged_keeps ((ht.trans (.onTiming _ _)).trans (clockEnable_keeps _ _ _)) _ _ nofun
  split
  · exact sourcesChanged_keeps ((ht.trans (.onTiming _ _)).trans (clockEnable_keeps _ _ _)) _ _ nofun
  · exact sourcesChanged_keeps ht _ _ nofun

theorem handleSourceSet_keeps (s : State) (i : Option Int) (a : SourceArgs) : Keeps m s (handleSourceSet s i a).1 := by
  unfold handleSourceSet
  split
  · exact .refl s
  · exact .iteReply (fun _ => .refl s) fun _ => applySource_keeps _ _ _

theorem handleTimingSet_keeps (s : State) (a : TimingArgs) : Keeps m s (handleTimingSet s a).1 := by
  unfold handleTimingSet
  exact .iteReply (fun _ => .refl s) fun _ => by dsimp only; exact .settings _ _ rfl rfl rfl

end Sys2Proof.Machine
end

section
/-! SUPPORT. What the site clock, the bus controller and the level monitor keep. -/

namespace Sys2Proof.Machine

variable {m : Scope}

/-! ## The site clock -/

theorem boundary_keeps (s : State) : Keeps m s (boundary s) := by
  have hd : ∀ (t : State) (d : Option Int), Keeps m t (match d with
      | none => t
      | some j =>
        noticeBoth (setFlagBoth (t.counting fun c => { c with jumps := bump c.jumps }) .jump) .time ["JUMP"]
          [kv "amount" (.int j), kv "second" (.nat t.clock.sec.toNat)]) := by
    intro t d
    split
    · exact .refl t
    · exact (Keeps.counting t _).trans ((setFlagBoth_keeps _ _).trans (noticeBoth_keeps _ _ _ _))
  unfold boundary
  dsimp only
  refine Keeps.trans ?_ (.onClock _ _)
  refine Keeps.trans ?_ (timingBoundary_keeps _ _)
  refine Keeps.trans ?_ (.onClock _ _)
  exact (Keeps.onClock s _).trans (hd _ _)

theorem secondBoundary_keeps (s : State) : Keeps m s (secondBoundary s) :=
  (Keeps.onClock s _).trans (boundary_keeps _)

theorem steeringPoint_keeps (s : State) : Keeps m s (steeringPoint s) :=
  (Keeps.onClock s _).trans (timingSteering_keeps _)

theorem startHoldEnd_keeps (s : State) : Keeps m s (startHoldEnd s) := .onClock _ _

theorem pulseWidthEnd_keeps (s : State) : Keeps m s (pulseWidthEnd s) := .onClock _ _

theorem oscSet_keeps (s : State) (n : Nat) : Keeps m s (oscSet s n) := by
  unfold oscSet
  dsimp only
  refine Keeps.trans ?_ (noticeBoth_keeps _ _ _ _)
  exact ((Keeps.onClock s _).trans (.counting _ _)).trans (timingOscSet_keeps _)

theorem passToRc_keeps (s : State) : Keeps m s (passToRc s) := by
  unfold passToRc
  dsimp only
  exact (Keeps.onClock s _).trans (.ite (fun _ => .onClock _ _) fun _ => boundary_keeps _)

theorem oscClear_keeps (s : State) : Keeps m s (oscClear s) := by
  unfold oscClear
  dsimp only
  exact (Keeps.onClock s _).trans ((timingOscClear_keeps _).trans (noticeBoth_keeps _ _ _ _))

theorem oscWindow_keeps (s : State) (n : Nat) : Keeps m s (oscWindow s n) := by
  unfold oscWindow
  dsimp only
  refine .trans (.onClock s fun k =>
    { k with lastWindow := some (min 65535 (n / 1024)), windowRc := 0, windowLo := 0 }) ?_
  refine .ite (fun _ => .ite (fun _ => ?_) fun _ => .onClock _ _) fun _ =>
    .ite (fun _ => oscSet_keeps _ _) fun _ => .refl _
  exact (Keeps.onClock _ _).trans (.ite (fun _ => oscClear_keeps _) fun _ => .refl _)

theorem captureEdge_keeps (s : State) (i : Source) : Keeps m s (captureEdge s i) := by
  unfold captureEdge
  dsimp only
  exact .ite (fun _ => .counting _ _) fun _ => (Keeps.onClock s _).trans (timingCapture_keeps _ _ _ _ _)

theorem risingEdge_keeps (s : State) (i : Source) : Keeps m s (risingEdge s i) := by
  unfold risingEdge
  refine .ite (fun _ => .refl s) fun _ => .ite (fun _ => .ite (fun _ => ?_) fun _ => .onClock _ _)
    fun _ => captureEdge_keeps _ _
  exact (Keeps.onClock s _).trans (captureEdge_keeps _ _)

theorem setDiversion_keeps (s : State) (d : Option Nat) : Keeps m s (setDiversion s d) := .onClock _ _

theorem applyPulse_keeps (s : State) (p : PulseSettings) (n : Nat) : Keeps m s (applyPulse s p n) := by
  unfold applyPulse
  dsimp only
  exact .ite (fun _ => .settings _ _ rfl rfl rfl) fun _ => (Keeps.settings s _ rfl rfl rfl).trans (.onClock _ _)

theorem handlePulseSet_keeps (s : State) (a : PulseArgs) : Keeps m s (handlePulseSet s a).1 := by
  unfold handlePulseSet
  exact .iteReply (fun _ => .refl s) fun _ => .pair (applyPulse_keeps _ _ _)

/-! ## The bus controller -/

theorem offerProfile_keeps (s : State) (t : Txn) : Keeps m s (offerProfile s t) := (Keeps.onBus s _).trans (.push _ _)

theorem withdrawProfile_keeps (s : State) : Keeps m s (withdrawProfile s) := .onBus _ _

theorem internalEmptied_keeps (s : State) : Keeps m s (internalEmptied s) := by
  unfold internalEmptied
  dsimp only
  refine Keeps.trans ?_ (.onBus _ _)
  refine Keeps.trans (.ite (fun _ => .push s _) fun _ => .refl s) (.ite (fun _ => .push _ _) fun _ => .refl _)

theorem offerInternal_keeps (s : State) (t : Txn) : Keeps m s (offerInternal s t).1 := by
  unfold offerInternal
  split
  · exact .pair ((Keeps.onBus s _).trans (.push _ _))
  · exact .pair (.onBus _ _)

theorem withdrawInternal_keeps (s : State) (who : Requester) : Keeps m s (withdrawInternal s who) := by
  unfold withdrawInternal
  split
  · exact .refl s
  · exact .ite (fun _ => (Keeps.onBus s _).trans (internalEmptied_keeps _)) fun _ => .refl s

theorem expireHold_keeps (s : State) (p : Port) (c : HoldCause) : Keeps m s (expireHold s p c) :=
  (Keeps.onBus s _).trans ((Keeps.counting _ _).trans (noticeMasked_keeps _ _ _ _ _))

theorem updateHold_keeps (s : State) (p : Port) (t : Txn) (ok : Bool) (e : Option HoldCause) :
    Keeps m s (updateHold s p t ok e) := by
  unfold updateHold
  dsimp only
  refine .ite (fun _ => ?_) fun _ => .onBus _ _
  split
  · exact expireHold_keeps _ _ _
  · exact .onBus _ _

theorem holdDrop_keeps (s : State) (p : Port) (c : HoldCause) : Keeps m s (holdDrop s p c) := by
  unfold holdDrop
  dsimp only
  split
  · exact .ite (fun _ => .onBus _ _) fun _ => .refl s
  · split
    · exact .ite (fun _ => (expireHold_keeps _ _ _).trans (.push _ _)) fun _ => .refl s
    · exact .refl s

theorem countStatus_keeps (s : State) (b : BusStatus) : Keeps m s (countStatus s b) := by
  unfold countStatus
  cases b with
  | ok => exact .counting _ _
  | cancelled => exact .refl s
  | _ => exact (Keeps.counting s _).trans (setFlagBoth_keeps _ _)

theorem deliverTxn_keeps (s : State) (t : Txn) : Keeps m s (deliverTxn s t) := by
  unfold deliverTxn
  split
  · exact (Keeps.onBus s _).trans (notice_keeps _ _ _ _)
  · exact .push _ _
  · exact .push _ _

theorem completeCurrent_keeps (s : State) (x : InProgress) (st : BusStatus) (w : Nat) (d : List Byte) :
    Keeps m s (completeCurrent s x st w d) := by
  have hu : ∀ (t : State) (u : Txn), Keeps m t (match u.requester with
      | .port p => updateHold t p u (st == BusStatus.ok) x.expiry
      | _ => t) := by
    intro t u
    split
    · exact updateHold_keeps _ _ _ _ _
    · exact .refl t
  unfold completeCurrent
  dsimp only
  refine Keeps.trans ?_ (.push _ _)
  refine Keeps.trans ?_ (hu _ { x.txn with status := some st, written := w, data := d })
  exact (Keeps.onBus s _).trans ((countStatus_keeps _ _).trans (deliverTxn_keeps _ _))

theorem takeNext_keeps (s : State) {t : Txn} {u : State} (h : takeNext s = some (t, u)) : Keeps m s u := by
  unfold takeNext at h
  split at h
  · obtain ⟨r, -, hr⟩ := Option.map_eq_some_iff.mp h
    cases hr
    exact .onBus _ _
  · split at h <;> cases h
    · exact .onBus _ _
    · exact (Keeps.onBus s _).trans (internalEmptied_keeps _)
    · exact .onBus _ _

theorem chooseNext_keeps : ∀ (n : Nat) (s : State), Keeps m s (chooseNext n s)
  | 0, s => .refl s
  | n + 1, s => by
    unfold chooseNext
    refine .ite (fun _ => .refl s) fun _ => ?_
    split
    · exact .refl s
    next t u h =>
    refine (takeNext_keeps s h).trans ?_
    refine .ite (fun _ => .onBus _ _) fun _ => .ite (fun _ => .onBus _ _) fun _ => ?_
    exact (deliverTxn_keeps _ _).trans (chooseNext_keeps n _)

theorem choose_keeps (s : State) : Keeps m s (choose s) := chooseNext_keeps _ _

theorem busStart_keeps (s : State) : Keeps m s (busStart s) := by
  unfold busStart
  split
  · exact .refl s
  · exact .onBus _ _

theorem busFreeTimeout_keeps (s : State) : Keeps m s (busFreeTimeout s) := by
  unfold busFreeTimeout
  split
  · exact .refl s
  · exact .ite (fun _ => .refl s) fun _ => completeCurrent_keeps _ _ _ _ _

theorem busStretch_keeps (s : State) (n : Nat) (d : List Byte) : Keeps m s (busStretch s n d) := by
  unfold busStretch
  split
  · exact .refl s
  · exact completeCurrent_keeps _ _ _ _ _

theorem busComplete_keeps (s : State) (how : BusEnd) : Keeps m s (busComplete s how) := by
  unfold busComplete
  split
  · exact .refl s
  · split
    · exact .ite (fun _ => completeCurrent_keeps _ _ _ _ _) fun _ => .refl s
    · exact completeCurrent_keeps _ _ _ _ _
    · exact completeCurrent_keeps _ _ _ _ _

theorem holdDeadline_keeps (s : State) : Keeps m s (holdDeadline s) := by
  unfold holdDeadline
  split
  · exact .refl s
  · split
    · exact .onBus _ _
    · exact (expireHold_keeps _ _ _).trans (.push _ _)

theorem handleBusXfer_keeps (s : State) (p : Port) (tag : Tag) (a : XferArgs) :
    Keeps m s (handleBusXfer s p tag a).1 := by
  unfold handleBusXfer
  dsimp only
  split
  · exact .refl s
  · exact .iteReply (fun _ => .refl s) fun _ => .pair ((Keeps.onBus s _).trans (.push _ _))

/-! ## The level monitor -/

/-- A change of the level monitor that leaves the alignment record or removes it. -/
theorem Keeps.onLevel_less (s : State) (f : Level → Level)
    (h : (f s.level).align = s.level.align ∨ (f s.level).align = none) : Keeps m s (s.onLevel f) := by
  refine .onLevel s f fun a p ha ho => ?_
  rcases h with h | h <;> rw [h] at ha
  · exact ⟨a, ha, ho⟩
  · exact nomatch ha

/-- A change of the level monitor that leaves the owner of the alignment record, or passes it to MAST. -/
theorem Keeps.onLevel_owner (s : State) (f : Level → Level) (a b : AlignRec) (ha : s.level.align = some a)
    (hf : (f s.level).align = some b) (h : b.owner = a.owner ∨ b.owner = .mast) : Keeps m s (s.onLevel f) := by
  refine .onLevel s f fun c p hc ho => ⟨a, ha, ?_⟩
  cases hf.symm.trans hc
  rcases h with h | h <;> rw [h] at ho
  · exact ho
  · exact nomatch ho

theorem countSwitch_keeps (s : State) (a b : RangeName) : Keeps m s (countSwitch s a b) :=
  .ite (fun _ => .refl s) fun _ => .counting _ _

theorem endAlign_keeps (s : State) (c : String) : Keeps m s (endAlign s c) :=
  (Keeps.onLevel_less s _ (.inr rfl)).trans ((noticeBoth_keeps _ _ _ _).trans (.push _ _))

theorem beginMast_keeps (s : State) (n : Nat) : Keeps m s (beginAlign s .mast n) :=
  (Keeps.onLevel s _ fun a p ha ho => by cases ha; exact nomatch ho).trans
    ((noticeBoth_keeps _ _ _ _).trans (.push _ _))

theorem passAlign_keeps (s : State) {a b : AlignRec} (ha : s.level.align = some a)
    (h : b.owner = a.owner ∨ b.owner = .mast) : Keeps m s (passAlign s b) :=
  (Keeps.onLevel_owner s _ a b ha rfl h).trans (noticeBoth_keeps _ _ _ _)

theorem releaseAlign_keeps (s : State) (p : Port) (c : String) : Keeps m s (releaseAlign s p c) := by
  unfold releaseAlign
  split
  · exact .refl s
  next a ha =>
  refine .ite (fun _ => .ite (fun _ => ?_) fun _ => endAlign_keeps _ _) fun _ => .refl s
  exact passAlign_keeps s ha (.inr rfl)

theorem levelAccessDrop_keeps (s : State) (p : Port) : Keeps m s (levelAccessDrop s p) :=
  .ite (fun _ => .refl s) fun _ => releaseAlign_keeps _ _ _

theorem levelMast_keeps (s : State) (b : Bool) : Keeps m s (levelMast s b) := by
  unfold levelMast
  split
  · exact beginMast_keeps _ _
  · next a ha => split; exacts [.onLevel_owner s _ a _ ha rfl (.inl rfl), .refl s]
  · exact .refl s
  · next a ha => split; exacts [endAlign_keeps _ _, .onLevel_owner s _ a _ ha rfl (.inl rfl)]

theorem alignNotice_keeps (s : State) (a : AlignRec) : Keeps m s (alignNotice s a) := by
  unfold alignNotice
  split
  · exact notice_keeps _ _ _ _
  · exact noticeBoth_keeps _ _ _ _

theorem alignReport_keeps (s : State) (x : Int) : Keeps m s (alignReport s x) := by
  unfold alignReport
  split
  · exact .refl s
  next a ha =>
  refine .trans (.onLevel_owner s (fun v => { v with align := some (a.report x s.now).1 }) a _ ha rfl (.inl rfl)) ?_
  exact .ite (fun _ => alignNotice_keeps _ _) fun _ => .refl _

theorem levelReport_keeps (s : State) (x : Int) : Keeps m s (levelReport s x) := by
  unfold levelReport
  dsimp only
  refine Keeps.trans ?_ (.onLevel_less _ _ (.inl rfl))
  exact (Keeps.onLevel_less s _ (.inl rfl)).trans (alignReport_keeps _ _)

theorem takeSample_keeps (s : State) (n : Nat) : Keeps m s (takeSample s n).1 := by
  unfold takeSample
  dsimp only
  have hc : ∀ (t : State) (c : Prop) [Decidable c],
      Keeps m t (if c then t else setFlagBoth (t.counting fun k => { k with levelClamps := bump k.levelClamps }) .clamp) :=
    fun t _ _ => .ite (fun _ => .refl t) fun _ => (Keeps.counting t _).trans (setFlagBoth_keeps _ _)
  have ht := fun (a b c d : RangeName) (f : Level → Level) h (p : Prop) [Decidable p] =>
    ((countSwitch_keeps (m := m) s a b).trans (countSwitch_keeps _ c d)).trans
      ((Keeps.onLevel_less _ f (.inl h)).trans (hc _ p))
  refine .iteReply (fun _ => .pair (.trans (ht _ _ _ _ _ ?_ _) (levelReport_keeps _ _)))
    fun _ => .pair (ht _ _ _ _ _ ?_ _) <;> rfl

theorem handleLevelCal_keeps (s : State) (a : LevelCalArgs) : Keeps m s (handleLevelCal s a).1 := by
  unfold handleLevelCal
  dsimp only
  split
  · exact .refl s
  · exact .iteReply (fun _ => .refl s) fun _ => .pair (.settings _ _ rfl rfl rfl)
  · exact .iteReply (fun _ => .refl s) fun _ => .pair (.settings _ _ rfl rfl rfl)

theorem handleAlignStop_keeps (s : State) (p : Port) : Keeps m s (handleAlignStop s p).1 := by
  unfold handleAlignStop
  split
  · exact .refl s
  next a ha =>
  refine .iteReply (fun _ => .iteReply (fun _ => ?_) fun _ => .pair (endAlign_keeps _ _)) fun _ => .refl s
  exact .pair (passAlign_keeps s ha (.inr rfl))

theorem handleAlignMark_keeps (s : State) (p : Port) : Keeps m s (handleAlignMark s p).1 := by
  unfold handleAlignMark
  split
  · exact .refl s
  next a ha => exact .iteReply (fun _ => .pair (.onLevel_owner s _ a _ ha rfl (.inl rfl))) fun _ => .refl s

/-- A port that meets the minimum of the ALIGN group may become the owner of the alignment record. -/
theorem Keeps.onLevel_entitled (s : State) (f : Level → Level) (p : Port) (hp : inGroup s p .align = true)
    (h : ∀ b, (f s.level).align = some b → b.owner = .port p) : Keeps m s (s.onLevel f) :=
  ⟨id, id, fun _ => .congr rfl rfl, fun _ => .congr rfl rfl,
    fun _ _ q b hb hq => by
      cases (h b hb).symm.trans hq
      exact hp,
    fun _ => .congr rfl rfl, fun _ => .congr rfl, fun _ => .congr rfl fun _ => rfl⟩

theorem handleAlignStart_keeps (s : State) (p : Port) (k : Option Int) (hp : inGroup s p .align = true) :
    Keeps m s (handleAlignStart s p k).1 := by
  unfold handleAlignStart
  refine .iteReply (fun _ => .refl s) fun _ => .iteReply (fun _ => .refl s) fun _ => ?_
  split
  · refine .pair ((Keeps.onLevel_entitled s _ p hp ?_).trans ((noticeBoth_keeps _ _ _ _).trans (.push _ _)))
    intro b hb; cases hb; rfl
  next a ha =>
  split
  · refine .pair ((Keeps.onLevel_entitled s _ p hp ?_).trans (noticeBoth_keeps _ _ _ _))
    intro b hb; cases hb; rfl
  next q hq =>
  refine .iteReply (fun _ => .pair ?_) fun _ => .refl s
  exact .onLevel_owner s _ a _ ha rfl (.inl (by cases k <;> rfl))

theorem handleIndicatorSet_keeps (s : State) (a : IndicatorArgs) : Keeps m s (handleIndicatorSet s a).1 := by
  unfold handleIndicatorSet
  exact .iteReply (fun _ => .refl s) fun _ => .pair (.settings _ _ rfl rfl rfl)

end Sys2Proof.Machine
end

section
/-! SUPPORT. What the link supervisor keeps. Its inner steps leave the base as the event found it; the end of the event
recomputes it (R36). -/

namespace Sys2Proof.Machine

variable {m : Scope}

/-! ## The end of an event -/

/-- The base does not depend on the base held before. -/
theorem baseOf_base (cfg : Settings) (k : Link) (n : Nat) : baseOf cfg { k with base := n } = baseOf cfg k := rfl

theorem linkCommit_agrees (s : State) (old : Link) (cause : String) : BaseAgrees (linkCommit s old cause) := by
  have h := (linkCommit_shared s old cause).1.1
  have hl : (linkCommit s old cause).link = { s.link with base := baseOf s.cfg s.link } := by rw [h]
  have hc : (linkCommit s old cause).cfg = s.cfg := by rw [h]
  unfold BaseAgrees
  rw [hl, hc]
  rfl

theorem pushUnless_keeps (s : State) (c : Prop) [Decidable c] (a b : Signal) :
    Keeps m s (if c then s else (s.push a).push b) := .ite (fun _ => .refl s) fun _ => (Keeps.push s _).trans (.push _ _)

theorem linkCommit_keeps {s t : State} (h : Keeps m.noLink s t) (old : Link) (cause : String) :
    Keeps m s (linkCommit t old cause) := by
  refine Keeps.withBase (h.trans ?_) (linkCommit_agrees t old cause)
  unfold linkCommit
  dsimp only
  refine .trans ?_ (syncSummary_keeps _ _)
  refine .trans ?_ (pushUnless_keeps _ _ _ _)
  have hb : ∀ (v : State) (c : Prop) [Decidable c] (w : List String) (l : List Pair) (n : Nat),
      Keeps m.noLink v (if c then v else shareInput (noticeBoth v .link w l) fun h => { h with base := n }) :=
    fun v c _ w l n => .ite (fun _ => .refl v) fun _ => (noticeBoth_keeps v _ _ _).trans (shareInput_keeps _ _ rfl)
  refine .trans ?_ (hb _ _ _ _ _)
  refine .trans ?_ (noticeUnless_keeps _ _ _ _ _)
  exact .trans (.onLink t _) (noticeUnless_keeps _ _ _ _ _)

/-- A change of the link supervisor outside the profiles and the state. -/
theorem Keeps.onLink_aside (s : State) (f : Link → Link)
    (h : (f s.link).base = s.link.base ∧ (f s.link).state = s.link.state ∧ (f s.link).confirmed = s.link.confirmed
      ∧ (f s.link).pending = s.link.pending ∧ (f s.link).guard = s.link.guard) : Keeps m s (s.onLink f) := by
  obtain ⟨hb, hs, hc, hp, hg⟩ := h
  refine .onLink_same s f hb ?_
  unfold baseOf
  rw [hs, hc, hp, hg]

/-- The profiles may change while the link does not carry. -/
theorem Keeps.settings_profiles (s : State) (f : Settings → Settings) (hl : s.link.state.carries = false)
    (hc : (f s.cfg).carriers = s.cfg.carriers) (hm : (f s.cfg).minima = s.cfg.minima) :
    Keeps m s (s.settings f) := by
  refine ⟨id, fun h => ⟨h.1.congr hc, h.2⟩, fun _ => .congr hc rfl, fun _ => .congr hc rfl,
    fun _ => .congr rfl (fun _ => rfl) hm, fun _ h => ?_, fun _ => .congr rfl, fun _ => .congr rfl fun _ => rfl⟩
  unfold BaseAgrees baseOf at *
  rw [State.settings_link, hl]
  rw [hl] at h
  exact h

/-! ## Writes to the ODU -/

theorem issueProfile_keeps (s : State) (t : Fin 8) (c : Bool) : Keeps m.noLink s (issueProfile s t c) :=
  (Keeps.onLink s _).trans (offerProfile_keeps _ _)

theorem issueConfirmation_keeps (s : State) : Keeps m.noLink s (issueConfirmation s) :=
  (Keeps.onLink s _).trans (issueProfile_keeps _ _ _)

theorem oduFault_keeps (s : State) (p t : Val) (st : Option BusStatus) : Keeps m s (oduFault s p t st) :=
  (Keeps.counting s _).trans ((setFlagBoth_keeps _ _).trans (noticeBoth_keeps _ _ _ _))

/-! ## The init sequence -/

theorem offerInit_keeps (s : State) : Keeps m s (offerInit s) := by
  unfold offerInit
  dsimp only
  split
  · exact .refl s
  · refine .ite (fun _ => .onLink_aside _ _ ⟨rfl, rfl, rfl, rfl, rfl⟩) fun _ => ?_
    exact (offerInternal_keeps _ _).trans (.onLink_aside _ _ ⟨rfl, rfl, rfl, rfl, rfl⟩)

theorem beginInit_keeps (s : State) : Keeps m s (beginInit s) :=
  (Keeps.onLink_aside s _ ⟨rfl, rfl, rfl, rfl, rfl⟩).trans (offerInit_keeps _)

theorem endInitEarly_keeps (s : State) : Keeps m s (endInitEarly s) := by
  unfold endInitEarly
  dsimp only
  split
  · exact .refl s
  · exact (Keeps.onLink_aside s _ ⟨rfl, rfl, rfl, rfl, rfl⟩).trans (withdrawInternal_keeps _ _)

theorem initEnded_keeps (s : State) (w : InitWrite) : Keeps m.noLink s (initEnded s w) := by
  unfold initEnded
  dsimp only
  refine .ite (fun _ => ?_) fun _ => (Keeps.onLink s _).trans (offerInit_keeps _)
  exact (Keeps.onLink s _).trans (.ite (fun _ => issueConfirmation_keeps _) fun _ => .refl _)

theorem initCompleted_keeps (s : State) (t : Txn) : Keeps m.noLink s (initCompleted s t) := by
  unfold initCompleted
  refine .ite (fun _ => (Keeps.onLink s _).trans (offerInit_keeps _)) fun _ => ?_
  split
  · exact .refl s
  · refine .ite (fun _ => initEnded_keeps _ _) fun _ => .ite (fun _ => ?_) fun _ => ?_
    · exact (Keeps.onLink s _).trans (offerInit_keeps _)
    · exact (oduFault_keeps _ _ _ _).trans (initEnded_keeps _ _)

theorem linkSlotFree_keeps (s : State) : Keeps m s (linkSlotFree s) := by
  unfold linkSlotFree
  split
  · exact .ite (fun _ => offerInit_keeps _) fun _ => .refl s
  · exact .refl s

/-! ## Completions of profile writes -/

theorem countProfile_keeps (s : State) (t : Fin 8) : Keeps m s (countProfile s t) := by
  unfold countProfile
  split
  · exact .refl s
  · exact .ite (fun _ => .counting _ _) fun _ => .ite (fun _ => .counting _ _) fun _ => .refl s

theorem profileOk_keeps (s : State) (t : Fin 8) : Keeps m.noLink s (profileOk s t) := by
  unfold profileOk
  exact (countProfile_keeps s t).trans (.onLink _ _)

theorem confirmationCompleted_keeps (s : State) (t : Txn) : Keeps m.noLink s (confirmationCompleted s t) := by
  unfold confirmationCompleted
  refine .ite (fun _ => .ite (fun _ => ?_) fun _ => profileOk_keeps _ _) fun _ => .onLink _ _
  exact (countProfile_keeps s 0).trans (.onLink _ _)

theorem profileFailed_keeps (s : State) (t : Txn) (p : Fin 8) : Keeps m.noLink s (profileFailed s t p) := by
  unfold profileFailed
  split
  · exact .refl s
  · refine .ite (fun _ => offerProfile_keeps _ _) fun _ => ?_
    exact (oduFault_keeps _ _ _ _).trans (.onLink _ _)

theorem profileCompleted_keeps (s : State) (t : Txn) : Keeps m.noLink s (profileCompleted s t) := by
  unfold profileCompleted
  refine .ite (fun _ => .onLink _ _) fun _ => ?_
  split
  · exact .refl s
  · exact .ite (fun _ => confirmationCompleted_keeps _ _) fun _ =>
      .ite (fun _ => profileOk_keeps _ _) fun _ => profileFailed_keeps _ _ _

theorem linkCompleted_keeps (s : State) (t : Txn) : Keeps m s (linkCompleted s t) := by
  unfold linkCompleted
  split
  · exact linkCommit_keeps (initCompleted_keeps s t) _ _
  · exact linkCommit_keeps (profileCompleted_keeps s t) _ _
  · exact .refl s

/-! ## Level reports -/

theorem upshiftReport_keeps (s : State) (x : Int) : Keeps m s (upshiftReport s x) := by
  unfold upshiftReport
  exact .onLink_aside _ _ ⟨rfl, rfl, rfl, rfl, rfl⟩

theorem adapt_keeps (s : State) (x : Int) : Keeps m.noLink s (adapt s x) := by
  unfold adapt
  dsimp only
  exact .ite (fun _ => (Keeps.onLink s _).trans (issueProfile_keeps _ _ _)) fun _ => upshiftReport_keeps _ _

theorem enterFade_keeps (s : State) : Keeps m.noLink s (enterFade s) := by
  have hp : ∀ (t : State) (c : Prop) [Decidable c], Keeps m.noLink t (if c then issueProfile t 0 false else t) :=
    fun t c _ => .ite (fun _ => issueProfile_keeps _ _ _) fun _ => .refl t
  unfold enterFade
  dsimp only
  refine .trans ?_ (hp _ _)
  exact (Keeps.onLink s _).trans ((Keeps.counting _ _).trans (setFlagBoth_keeps _ _))

theorem restoreReport_keeps (s : State) (x : Int) : Keeps m s (restoreReport s x) := by
  unfold restoreReport
  exact .ite (fun _ => .onLink_aside _ _ ⟨rfl, rfl, rfl, rfl, rfl⟩) fun _ =>
    .ite (fun _ => .onLink_aside _ _ ⟨rfl, rfl, rfl, rfl, rfl⟩) fun _ => .refl s

theorem linkReport_keeps (s : State) (x : Int) : Keeps m s (linkReport s x) := by
  unfold linkReport
  split
  · exact linkCommit_keeps (.ite (fun _ => enterFade_keeps s) fun _ => adapt_keeps s x) _ _
  · exact .ite (fun _ => linkCommit_keeps (.onLink s _) _ _) fun _ => .refl s
  · exact restoreReport_keeps _ _
  · exact restoreReport_keeps _ _
  · exact .refl s

/-! ## Timers, lock and alignment -/

theorem enterLost_keeps (s : State) (c : String) : Keeps m s (enterLost s c) := by
  unfold enterLost
  exact linkCommit_keeps ((Keeps.onLink s _).trans ((Keeps.counting _ _).trans (setFlagBoth_keeps _ _))) _ _

theorem fadeExpired_keeps (s : State) : Keeps m s (fadeExpired s) :=
  .ite (fun _ => enterLost_keeps _ _) fun _ => .refl s

theorem restoreExpired_keeps (s : State) : Keeps m s (restoreExpired s) := by
  unfold restoreExpired
  dsimp only
  refine .ite (fun _ => .ite (fun _ => ?_) fun _ => ?_) fun _ => .refl s
  · exact (Keeps.onLink_aside s _ ⟨rfl, rfl, rfl, rfl, rfl⟩).trans (.onLink_aside _ _ ⟨rfl, rfl, rfl, rfl, rfl⟩)
  · exact linkCommit_keeps ((Keeps.onLink s _).trans (issueConfirmation_keeps _)) _ _

theorem upshiftExpired_keeps (s : State) : Keeps m s (upshiftExpired s) := by
  unfold upshiftExpired
  dsimp only
  refine .ite (fun _ => ?_) fun _ => .refl s
  split
  · exact linkCommit_keeps ((Keeps.onLink s _).trans (issueProfile_keeps _ _ _)) _ _
  · exact .onLink_aside _ _ ⟨rfl, rfl, rfl, rfl, rfl⟩

theorem linkLock_keeps (s : State) (b : Bool) : Keeps m s (linkLock s b) := by
  unfold linkLock
  dsimp only
  refine .trans (.onLink_aside s (fun k => { k with lockLevel := b }) ⟨rfl, rfl, rfl, rfl, rfl⟩) ?_
  exact .ite (fun _ => .refl _) fun _ => .ite (fun _ => enterLost_keeps _ _) fun _ =>
    .ite (fun _ => .onLink_aside _ _ ⟨rfl, rfl, rfl, rfl, rfl⟩) fun _ => .refl _

theorem linkAlignStart_keeps (s : State) : Keeps m s (linkAlignStart s) := by
  unfold linkAlignStart
  dsimp only
  exact .ite (fun _ => linkCommit_keeps ((Keeps.onLink s _).trans (.onLink _ _)) _ _) fun _ =>
    .onLink_aside _ _ ⟨rfl, rfl, rfl, rfl, rfl⟩

theorem linkAlignEnd_keeps (s : State) : Keeps m s (linkAlignEnd s) := by
  unfold linkAlignEnd
  dsimp only
  exact .ite (fun _ => linkCommit_keeps ((Keeps.onLink s _).trans (.onLink _ _)) _ _) fun _ =>
    .onLink_aside _ _ ⟨rfl, rfl, rfl, rfl, rfl⟩

/-! ## Start, stop and the link claim -/

theorem linkStart_keeps (s : State) (c : String) : Keeps m s (linkStart s c) := by
  unfold linkStart
  exact linkCommit_keeps ((Keeps.onLink s _).trans (beginInit_keeps _)) _ _

theorem linkStop_keeps (s : State) : Keeps m s (linkStop s) := by
  unfold linkStop
  dsimp only
  refine linkCommit_keeps ?_ _ _
  refine .trans ?_ (.onLink _ _)
  exact (Keeps.onLink s _).trans ((endInitEarly_keeps _).trans (withdrawProfile_keeps _))

theorem linkClaim_keeps (s : State) (n : Nat) : Keeps m s (linkClaim s n).1 := by
  unfold linkClaim
  refine .iteReply (fun _ => .refl s) fun _ => .iteReply (fun _ => .refl s) fun _ => .pair ?_
  exact linkCommit_keeps ((Keeps.onLink s _).trans (endInitEarly_keeps _)) _ _

theorem linkRelease_keeps (s : State) : Keeps m s (linkRelease s) := by
  unfold linkRelease
  exact linkCommit_keeps (.onLink s _) _ _

theorem loopOffFailed_keeps (s : State) (st : Option BusStatus) : Keeps m s (loopOffFailed s st) :=
  oduFault_keeps _ _ _ _

/-! ## Requests of the link supervisor -/

theorem handleLinkStart_keeps (s : State) : Keeps m s (handleLinkStart s).1 := by
  unfold handleLinkStart
  exact .iteReply (fun _ => .pair (linkStart_keeps _ _)) fun _ => .refl s

theorem handleLinkStop_keeps (s : State) : Keeps m s (handleLinkStop s).1 := by
  unfold handleLinkStop
  split
  · exact .refl s
  · exact .refl s
  · exact .pair (linkStop_keeps s)

theorem handleProfileSet_keeps (s : State) (p : Option Int) (a : ProfileArgs) :
    Keeps m s (handleProfileSet s p a).1 := by
  unfold handleProfileSet
  refine .iteReply (fun _ => .refl s) fun hs => ?_
  have hl : s.link.state.carries = false := by
    revert hs
    cases s.link.state <;> simp [LinkState.carries]
  split
  · exact .refl s
  · exact .iteReply (fun _ => .refl s) fun _ => .pair (.settings_profiles _ _ hl rfl rfl)

theorem handleTemplateSet_keeps (s : State) (n : Option (Named TemplateName)) (a : TemplateArgs) :
    Keeps m s (handleTemplateSet s n a).1 := by
  unfold handleTemplateSet
  refine .iteReply (fun _ => .refl s) fun _ => ?_
  split
  · exact .refl s
  · exact .iteReply (fun _ => .refl s) fun _ => .pair (.settings _ _ rfl rfl rfl)

theorem handleLinkSet_keeps (s : State) (a : LinkSetArgs) : Keeps m s (handleLinkSet s a).1 := by
  unfold handleLinkSet
  refine .iteReply (fun _ => .refl s) fun _ => .iteReply (fun _ => .refl s) fun _ => .pair ?_
  exact .trans (.settings s (fun cfg => { cfg with link := s.cfg.link.with a }) rfl rfl rfl) (shareInputUnless_keeps _ _ _ rfl)

end Sys2Proof.Machine
end

section
/-! SUPPORT. What the test sequencer keeps: its own tables are no part of an invariant, so each step keeps what the
blocks that it calls on keep. -/

namespace Sys2Proof.Machine

variable {m : Scope}

/-! ## Transactions and measurements -/

theorem offerTest_keeps (s : State) (o : Outstanding) : Keeps m s (offerTest s o) := by
  unfold offerTest
  split
  · exact .refl s
  · exact (offerInternal_keeps _ _).trans (.onTests _ _)

theorem testSlotFree_keeps (s : State) : Keeps m s (testSlotFree s) := by
  unfold testSlotFree
  split
  · exact .ite (fun _ => offerTest_keeps _ _) fun _ => .refl s
  · exact .refl s

theorem startTester_keeps (s : State) : Keeps m s (startTester s) := .onTests _ _

theorem beginMeasurement_keeps (s : State) (r : TestRec) : Keeps m s (beginMeasurement s r) := by
  unfold beginMeasurement
  split
  · exact .onTests _ _
  · exact offerTest_keeps _ _
  · exact startTester_keeps _
  · exact .onTests _ _
  · exact offerTest_keeps _ _

theorem runTest_keeps (s : State) (r : TestRec) : Keeps m s (runTest s r) := by
  unfold runTest
  exact (Keeps.onCurrent s _).trans ((Keeps.counting _ _).trans ((noticeBoth_keeps _ _ _ _).trans
    (beginMeasurement_keeps _ _)))

/-! ## Final records -/

theorem recordVerdict_keeps (s : State) (r : TestRec) : Keeps m s (recordVerdict s r) := by
  unfold recordVerdict
  split
  · exact (Keeps.onTests s _).trans (.counting _ _)
  · exact (Keeps.onTests s _).trans (.counting _ _)
  · exact .refl s

theorem fileRecord_keeps (s : State) (r : TestRec) : Keeps m s (fileRecord s r) := by
  have hd : ∀ (t : State) (c : Prop) [Decidable c] (f : Counters → Counters),
      Keeps m t (if c then t.counting f else t) := fun t _ _ _ => .ite (fun _ => .counting _ _) fun _ => .refl t
  unfold fileRecord
  dsimp only
  refine .trans ?_ (noticeOwner_keeps _ _ _ _ _)
  refine .trans ?_ (setFlagBoth_keeps _ _)
  refine .trans ?_ (hd _ _ _)
  exact (recordVerdict_keeps _ _).trans (.onTests _ _)

theorem releaseClaims_keeps (s : State) (n : Nat) : Keeps m s (releaseClaims s n) := by
  have hd : ∀ (t : State) (c : Prop) [Decidable c], Keeps m t (if c then setDiversion t none else t) :=
    fun t _ _ => .ite (fun _ => setDiversion_keeps _ _) fun _ => .refl t
  unfold releaseClaims
  dsimp only
  refine .trans ?_ (hd _ _)
  refine .trans ?_ (.foldl (fun t i => .ite (fun _ => timingUnmark_keeps _ _) fun _ => .refl t) _ _)
  exact .ite (fun _ => linkRelease_keeps _) fun _ => .refl s

theorem finalize_keeps (s : State) (st : TestState) (w : Option TestReason) : Keeps m s (finalize s st w) := by
  unfold finalize
  split
  · exact .refl s
  · refine .trans ?_ (.push _ _)
    refine .trans ?_ (syncSummary_keeps _ _)
    exact (releaseClaims_keeps _ _).trans ((Keeps.onTests _ _).trans (fileRecord_keeps _ _))

theorem cleanupDone_keeps (s : State) : Keeps m s (cleanupDone s) := by
  unfold cleanupDone
  split
  · exact .refl s
  · exact finalize_keeps _ _ _

/-! ## Ends of measurements and aborts -/

theorem stopMeasurement_keeps (s : State) : Keeps m s (stopMeasurement s) := .onTests _ _

theorem endMeasurement_keeps (s : State) (v : Verdict) (w : Option TestReason) (r : TestResults) :
    Keeps m s (endMeasurement s v w r) := by
  unfold endMeasurement
  exact .ite (fun _ => .refl s) fun _ => (stopMeasurement_keeps s).trans ((Keeps.onCurrent _ _).trans (.push _ _))

theorem abortTest_keeps (s : State) (w : TestReason) : Keeps m s (abortTest s w) := by
  unfold abortTest
  exact .ite (fun _ => .refl s) fun _ => (stopMeasurement_keeps s).trans ((Keeps.onCurrent _ _).trans (.push _ _))

theorem cleanupKind_keeps (s : State) (r : TestRec) : Keeps m s (cleanupKind s r) := by
  unfold cleanupKind
  split
  · exact (Keeps.onTests s _).trans (cleanupDone_keeps _)
  · exact (Keeps.onTests s _).trans (offerTest_keeps _ _)
  · exact (borrowEnd_keeps s).trans (cleanupDone_keeps _)
  · exact cleanupDone_keeps _
  · exact cleanupDone_keeps _

theorem cleanup_keeps (s : State) : Keeps m s (cleanup s) := by
  unfold cleanup
  split
  · exact .refl s
  refine .ite (fun _ => .refl s) fun _ => ?_
  split
  · exact cleanupKind_keeps _ _
  · refine .ite (fun _ => (Keeps.onTests s _).trans (cleanupKind_keeps _ _)) fun _ => .ite (fun _ => ?_) fun _ => .onTests _ _
    exact (Keeps.onTests s _).trans ((withdrawInternal_keeps _ _).trans (cleanupKind_keeps _ _))

theorem loopOffGivenUp_keeps (s : State) (st : Option BusStatus) : Keeps m s (loopOffGivenUp s st) := by
  unfold loopOffGivenUp
  exact (Keeps.onCurrent s _).trans ((loopOffFailed_keeps _ _).trans (cleanupDone_keeps _))

theorem judgeProbe_keeps (s : State) (e k : List Byte) (t : Txn) : Keeps m s (judgeProbe s e k t) := by
  unfold judgeProbe
  dsimp only
  refine .ite (fun _ => ?_) fun _ => endMeasurement_keeps _ _ _ _
  split
  · exact endMeasurement_keeps _ _ _ _
  · exact endMeasurement_keeps _ _ _ _

theorem testCompleted_keeps (s : State) (t : Txn) : Keeps m s (testCompleted s t) := by
  unfold testCompleted
  dsimp only
  split
  case h_2 => exact .refl s
  next o r _ _ =>
  refine .trans (.onTests s fun k => { k with outstanding := none }) ?_
  refine .ite (fun _ => cleanupKind_keeps _ _) fun _ => ?_
  split
  · refine .trans (.onTests _ fun k => { k with loopOnStatus := t.status }) ?_
    exact .ite (fun _ => .refl _) fun _ => .ite (fun _ => startTester_keeps _) fun _ => endMeasurement_keeps _ _ _ _
  · exact judgeProbe_keeps _ _ _ _
  · exact .ite (fun _ => cleanupDone_keeps _) fun _ => .ite (fun _ => offerTest_keeps _ _) fun _ =>
      loopOffGivenUp_keeps _ _
  · exact .refl _

/-! ## Starting a test -/

theorem markIf_keeps (s : State) (c : Prop) [Decidable c] (i : Source) (n : Nat) :
    Keeps m s (if c then timingMark s i n else (s, true)).1 :=
  .iteReply (fun _ => timingMark_keeps _ _ _) fun _ => .refl s

theorem claimIf_keeps (s : State) (c : Prop) [Decidable c] (n : Nat) :
    Keeps m s (if c then linkClaim s n else (s, none)).1 := .iteReply (fun _ => linkClaim_keeps _ _) fun _ => .refl s

theorem divertUnlessRefused_keeps (a : State × Option TestReason) (r : TestRec) : Keeps m a.1 (match a.2 with
    | some why => (a.1, some why)
    | none => (if r.kind = TestKind.pulse then setDiversion a.1 (some r.number) else a.1, none)).1 := by
  obtain ⟨t, _ | why⟩ := a
  · exact .pair (.ite (fun _ => setDiversion_keeps _ _) fun _ => .refl _)
  · exact .refl t

theorem startChecks_keeps (s : State) (r : TestRec) : Keeps m s (startChecks s r).1 := by
  unfold startChecks
  refine .iteReply (fun _ => .refl s) fun _ => .iteReply (fun _ => .refl s) fun _ => ?_
  refine .iteReply (fun _ => markIf_keeps _ _ _ _) fun _ => ?_
  refine .trans (markIf_keeps s (FeederLine.f1 ∈ r.params.lines) .gnss r.number) ?_
  refine .iteReply (fun _ => markIf_keeps _ _ _ _) fun _ => ?_
  refine .trans (markIf_keeps _ (r.kind = .pulse ∨ FeederLine.f2 ∈ r.params.lines) .aux r.number) ?_
  exact .trans (claimIf_keeps _ (needsLink r = true) r.number) (divertUnlessRefused_keeps _ r)

theorem deferTest_keeps (s : State) (r : TestRec) : Keeps m s (deferTest s r) := by
  unfold deferTest
  exact (Keeps.onCurrent s _).trans ((Keeps.onTests _ _).trans (borrowRequest_keeps _ _))

theorem takeTest_keeps (s : State) : Keeps m s (takeTest s) := by
  unfold takeTest
  split
  case h_2 => exact .refl s
  next r l _ _ =>
  dsimp only
  have hc : Keeps m s (startChecks (syncSummary testOwned (s.onTests fun t =>
      { t with current := some { r with start := some s.clock.sec }, queue := l, stage := .measuring }))
      { r with start := some s.clock.sec }).1 :=
    (Keeps.onTests s _).trans ((syncSummary_keeps _ _).trans (startChecks_keeps _ _))
  split
  · exact hc.trans (finalize_keeps _ _ _)
  · exact hc.trans (.ite (fun _ => deferTest_keeps _ _) fun _ => runTest_keeps _ _)

/-! ## Events of other blocks -/

theorem ifCurrent_keeps (s : State) (n : Nat) (k : TestRec → State) (h : ∀ r, Keeps m s (k r)) :
    Keeps m s (ifCurrent s n k) := by
  unfold ifCurrent
  split
  · exact .refl s
  · exact .ite (fun _ => h _) fun _ => .refl s

theorem testGranted_keeps (s : State) (n : Nat) : Keeps m s (testGranted s n) := by
  unfold testGranted
  exact ifCurrent_keeps _ _ _ fun _ => .ite (fun _ => (Keeps.onTests s _).trans (runTest_keeps _ _)) fun _ => .refl s

theorem testDeferred_keeps (s : State) (n : Nat) : Keeps m s (testDeferred s n) := by
  unfold testDeferred
  exact ifCurrent_keeps _ _ _ fun _ => .ite (fun _ => noticeBoth_keeps _ _ _ _) fun _ => .refl s

theorem testRevoked_keeps (s : State) (n : Nat) : Keeps m s (testRevoked s n) := by
  unfold testRevoked
  exact ifCurrent_keeps _ _ _ fun _ => .ite (fun _ => abortTest_keeps _ _) fun _ => .refl s

theorem endDeferred_keeps (s : State) (st : TestState) (w : TestReason) : Keeps m s (endDeferred s st w) := by
  unfold endDeferred
  exact (Keeps.onTests s _).trans ((borrowEnd_keeps _).trans (finalize_keeps _ _ _))

theorem testLinkState_keeps (s : State) (st : LinkState) : Keeps m s (testLinkState s st) := by
  unfold testLinkState
  split
  · exact .refl s
  · exact .ite (fun _ => .refl s) fun _ => .ite (fun _ => endDeferred_keeps _ _ _) fun _ => abortTest_keeps _ _

theorem deferExpired_keeps (s : State) : Keeps m s (deferExpired s) := by
  unfold deferExpired
  split
  · exact .ite (fun _ => endDeferred_keeps _ _ _) fun _ => .refl s
  · exact .refl s

theorem testMast_keeps (s : State) : Keeps m s (testMast s) := by
  unfold testMast
  split
  · exact .refl s
  · exact .ite (fun _ => abortTest_keeps _ _) fun _ => .refl s

theorem testAutonomous_keeps (s : State) : Keeps m s (testAutonomous s) := by
  have hc : ∀ t : State, Keeps m t (match t.tests.current with
      | none => t
      | some r =>
        if r.owner ≠ .main then t
        else if r.state = .deferred then endDeferred t .aborted .quiet
        else abortTest t .quiet) := by
    intro t
    split
    · exact .refl t
    · exact .ite (fun _ => .refl t) fun _ => .ite (fun _ => endDeferred_keeps _ _ _) fun _ => abortTest_keeps _ _
  unfold testAutonomous
  dsimp only
  refine .trans ?_ (hc _)
  exact (Keeps.onTests s _).trans (.foldl (fun _ _ => fileRecord_keeps _ _) _ _)

/-! ## The measurements of the kinds -/

theorem dischargeExpired_keeps (s : State) : Keeps m s (dischargeExpired s) := by
  unfold dischargeExpired
  split
  · split
    · exact .onTests _ _
    · exact .refl s
  · exact .refl s

theorem feederEnd_keeps (s : State) : Keeps m s (feederEnd s) := by
  unfold feederEnd
  split
  · exact .refl s
  · exact .ite (fun _ => .refl s) fun _ => endMeasurement_keeps _ _ _ _

theorem feederEvent_keeps (s : State) (i : FeederLine) (n : Nat) (f : Nat → FeederCount → FeederCount) :
    Keeps m s (feederEvent s i n f) := by
  unfold feederEvent
  split
  · exact .refl s
  · split
    · exact .ite (fun _ => .refl s) fun _ => (Keeps.onTests s _).trans (feederEnd_keeps _)
    · exact .refl s

theorem comparatorTrip_keeps (s : State) (i : FeederLine) (n : Nat) : Keeps m s (comparatorTrip s i n) :=
  feederEvent_keeps _ _ _ _

theorem overflowAfter_keeps (s : State) (i : FeederLine) (n : Nat) : Keeps m s (overflowAfter s i n) :=
  feederEvent_keeps _ _ _ _

theorem counterOverflow_keeps (s : State) (i : FeederLine) : Keeps m s (counterOverflow s i) :=
  overflowAfter_keeps _ _ _

theorem frameSent_keeps (s : State) : Keeps m s (frameSent s) := .onTests _ _

theorem loopEnd_keeps (s : State) (n : Nat) : Keeps m s (loopEnd s n) := endMeasurement_keeps _ _ _ _

theorem frameSettled_keeps (s : State) (c a : Nat) (f : Tester → Tester) : Keeps m s (frameSettled s c a f) := by
  unfold frameSettled
  dsimp only
  refine .trans (.onTests s fun t =>
    { t with tester := { f t.tester with outstanding := none, timer := none, next := t.tester.next + 1 } }) ?_
  exact .ite (fun _ => loopEnd_keeps _ _) fun _ => .refl _

theorem frameReceived_keeps (s : State) (l : List Byte) : Keeps m s (frameReceived s l) := by
  unfold frameReceived
  split
  · exact .refl s
  split
  · exact .refl s
  refine .ite (fun _ => .refl s) fun _ => ?_
  split
  · exact .ite (fun _ => frameSettled_keeps _ _ _ _) fun _ => .onTests _ _
  · exact .onTests _ _

theorem returnExpired_keeps (s : State) : Keeps m s (returnExpired s) := by
  unfold returnExpired
  split
  · split
    · exact .refl s
    · exact frameSettled_keeps _ _ _ _
  · exact .refl s

theorem testEdge_keeps (s : State) (d : EdgeDir) (t : SiteTime) : Keeps m s (testEdge s d t) := by
  unfold testEdge
  split
  · next r k _ _ =>
    split
    · refine .trans (.onTests s fun u => { u with pulse := some (k.edge d t) }) ?_
      exact .ite (fun _ => endMeasurement_keeps _ _ _ _) fun _ => .refl _
    · exact .refl s
  · exact .refl s

theorem edgeWatchExpired_keeps (s : State) : Keeps m s (edgeWatchExpired s) := by
  unfold edgeWatchExpired
  split
  · exact .ite (fun _ => endMeasurement_keeps _ _ _ _) fun _ => .refl s
  · exact .refl s

/-! ## Requests of the test sequencer -/

theorem handleTestAdd_keeps (s : State) (p : Port) (k : Option (Named TestKind)) (a : TestArgs) :
    Keeps m s (handleTestAdd s p k a).1 := by
  unfold handleTestAdd
  split
  · exact .refl s
  split
  · exact .refl s
  · exact .iteReply (fun _ => .refl s) fun _ => .pair ((Keeps.onTests s _).trans (.push _ _))

theorem cancelCurrent_keeps (s : State) (r : TestRec) : Keeps m s (cancelCurrent s r).1 := by
  unfold cancelCurrent
  exact .iteReply (fun _ => .pair (endDeferred_keeps _ _ _)) fun _ => .pair (abortTest_keeps _ _)

theorem cancelQueued_keeps (s : State) (r : TestRec) : Keeps m s (cancelQueued s r).1 :=
  .pair ((Keeps.onTests s _).trans (fileRecord_keeps _ _))

theorem handleTestCancel_keeps (s : State) (p : Port) (n : Option Int) : Keeps m s (handleTestCancel s p n).1 := by
  unfold handleTestCancel
  split
  · exact .refl s
  split
  · exact .iteReply (fun _ => cancelCurrent_keeps _ _) fun _ => .refl s
  · split
    · exact .iteReply (fun _ => cancelQueued_keeps _ _) fun _ => .refl s
    · exact .refl s

theorem handleAcceptSet_keeps (s : State) (l : Option (List (Named TestKind))) :
    Keeps m s (handleAcceptSet s l).1 := by
  unfold handleAcceptSet
  split
  · exact .refl s
  · exact .pair (.settings _ _ rfl rfl rfl)

theorem handleFeederSet_keeps (s : State) (f : Option (Named FeederLine)) (a : FeederArgs) :
    Keeps m s (handleFeederSet s f a).1 := by
  unfold handleFeederSet
  split
  · exact .refl s
  · exact .iteReply (fun _ => .refl s) fun _ => .pair (.settings _ _ rfl rfl rfl)

end Sys2Proof.Machine
end

section
/-! SUPPORT. What the site supervisor, the ports' own requests and the settings store keep. -/

namespace Sys2Proof.Machine

variable {m : Scope}

/-! ## The site supervisor -/

theorem autonomousIf_keeps (s : State) (c : Prop) [Decidable c] : Keeps m s (if c then testAutonomous s else s) :=
  .ite (fun _ => testAutonomous_keeps _) fun _ => .refl s

/-- The phase may be taken out of STAGING where its invariant is not asked for. -/
theorem Keeps.onPhase (s : State) (p : SitePhase) (f : Bool)
    (hp : m.site = true → s.site.phase = .staging → p = .staging) :
    Keeps m s (s.onSite fun x => { x with phase := p, forced := f }) where
  queues := id
  lines := id
  permits _ := .congr rfl rfl
  shares _ := .congr rfl rfl
  owners _ := .congr rfl (fun _ => rfl) rfl
  base _ := .congr rfl rfl
  selection _ := .congr rfl
  staged e := ⟨hp e, fun _ => List.Subset.refl _⟩

theorem changePhase_keeps (s : State) (p : SitePhase) (f : Bool) (c : String)
    (hp : m.site = true → s.site.phase = .staging → p = .staging) : Keeps m s (changePhase s p f c) := by
  unfold changePhase
  dsimp only
  refine .trans ?_ (syncSummary_keeps _ _)
  refine .trans ?_ (noticeBoth_keeps _ _ _ _)
  refine .trans ?_ (shareInput_keeps _ _ rfl)
  exact (Keeps.onPhase s p f hp).trans (autonomousIf_keeps _ _)

theorem quietHalf_keeps (s : State) : Keeps m s (quietHalf s) := by
  unfold quietHalf
  exact .ite (fun _ => (Keeps.onSite s _ fun _ => rfl).trans (noticeBoth_keeps _ _ _ _)) fun _ => .refl s

theorem quietExpire_keeps (s : State) : Keeps m s (quietExpire s) := by
  have hp : ∀ (t : State) (f : Bool), t.site.phase = s.site.phase →
      Keeps m t (if decide (s.site.phase = .live) = true then changePhase t .autonomous f "QUIET" else t) :=
    fun t _ ht => .ite (fun hl => changePhase_keeps _ _ _ _ fun _ hs => by
      rw [ht, of_decide_eq_true hl] at hs
      exact nomatch hs) fun _ => .refl t
  unfold quietExpire
  dsimp only
  refine .ite (fun _ => .trans ((Keeps.onSite s _ fun _ => rfl).trans (noticeBoth_keeps _ _ _ _)) (hp _ _ ?_)) fun _ => .refl s
  rw [PortsOnly.site (noticeBoth_noticed _ _ _ _).1.1]
  rfl

theorem quietCheck_keeps (s : State) : Keeps m s (quietCheck s) := (quietHalf_keeps s).trans (quietExpire_keeps _)

theorem raiseQuiet_keeps (s : State) (n : Nat) : Keeps m s (raiseQuiet s n) := .onSite _ _ fun _ => rfl

theorem quietHalfReached_keeps (s : State) : Keeps m s (quietHalfReached s) :=
  .ite (fun _ => .refl s) fun _ => (raiseQuiet_keeps s _).trans (quietHalf_keeps _)

theorem quietPeriodReached_keeps (s : State) : Keeps m s (quietPeriodReached s) :=
  .ite (fun _ => .refl s) fun _ => (raiseQuiet_keeps s _).trans (quietCheck_keeps _)

theorem lineEvent_keeps (s : State) : Keeps m s (lineEvent s) := by
  have hp : ∀ t : State, Keeps m t
      (if t.site.phase = .autonomous then changePhase t .live t.site.forced "RETURN" else t) :=
    fun t => .ite (fun ha => changePhase_keeps _ _ _ _ fun _ hs => by
      rw [ha] at hs
      exact nomatch hs) fun _ => .refl t
  unfold lineEvent
  exact (Keeps.onSite s _ fun _ => rfl).trans (hp _)

/-! ## Falls of a port's level -/

theorem releaseAlign_inGroup (s : State) (p q : Port) (c : String) (g : Group) :
    inGroup (releaseAlign s p c) q g = inGroup s q g := by
  obtain ⟨l, sg, hn, -⟩ := releaseAlign_noticed s p c
  have hc : (releaseAlign s p c).cfg = s.cfg := by rw [hn.1.1]
  unfold inGroup
  rw [hc, (hn.1.2 q).2.2.2.1]
  rfl

theorem levelAccessDrop_inGroup (s : State) (p q : Port) (g : Group) :
    inGroup (levelAccessDrop s p) q g = inGroup s q g := by
  unfold levelAccessDrop
  split
  · rfl
  · exact releaseAlign_inGroup _ _ _ _ _

theorem passAlign_align (s : State) (a : AlignRec) : (passAlign s a).level.align = some a := by
  unfold passAlign
  rw [noticeBoth_level]
  rfl

theorem endAlign_align (s : State) (c : String) : (endAlign s c).level.align = none := by
  unfold endAlign
  rw [State.push_level, noticeBoth_level]
  rfl

/-- A port that owns the alignment record after a release owned it before, and is not the port that was released. -/
theorem releaseAlign_owner {s : State} {p q : Port} {c : String} {a : AlignRec}
    (ha : (releaseAlign s p c).level.align = some a) (ho : a.owner = .port q) : s.level.align = some a ∧ q ≠ p := by
  unfold releaseAlign at ha
  split at ha
  · next hs => rw [hs] at ha; exact nomatch ha
  next b hs =>
  split at ha
  · split at ha
    · rw [passAlign_align] at ha
      cases ha
      exact nomatch ho
    · rw [endAlign_align] at ha
      exact nomatch ha
  · next hb =>
    cases hs.symm.trans ha
    exact ⟨hs, fun e => hb (e ▸ ho)⟩

/-- A port that owns the alignment record after an access drop owned it before; the port dropped meets the minimum. -/
theorem levelAccessDrop_owner {s : State} {p q : Port} {a : AlignRec}
    (ha : (levelAccessDrop s p).level.align = some a) (ho : a.owner = .port q) :
    s.level.align = some a ∧ (q = p → inGroup s q .align = true) := by
  unfold levelAccessDrop at ha
  split at ha
  · next hp => exact ⟨ha, fun e => e ▸ hp⟩
  · have h := releaseAlign_owner ha ho
    exact ⟨h.1, fun e => absurd e h.2⟩

/-- A port whose alignment is released leaves the other's owner entitled. -/
theorem releaseAlign_owners (s : State) (p : Port) (c : String)
    (h : ∀ q, q ≠ p → ∀ a, s.level.align = some a → a.owner = .port q → inGroup s q .align = true) :
    AlignOwnersEntitled (releaseAlign s p c) := by
  intro q a ha ho
  obtain ⟨hs, hq⟩ := releaseAlign_owner ha ho
  rw [releaseAlign_inGroup]
  exact h q hq a hs ho

/-- The same where the port may still meet the minimum. -/
theorem levelAccessDrop_owners (s : State) (p : Port)
    (h : ∀ q, q ≠ p → ∀ a, s.level.align = some a → a.owner = .port q → inGroup s q .align = true) :
    AlignOwnersEntitled (levelAccessDrop s p) := by
  intro q a ha ho
  obtain ⟨hs, hq⟩ := levelAccessDrop_owner ha ho
  rw [levelAccessDrop_inGroup]
  by_cases e : q = p
  · exact hq e
  · exact h q e a hs ho

/-- A change of one port's level leaves the other port entitled. -/
theorem entitled_other {s : State} (h : AlignOwnersEntitled s) (p : Port) (f : PortState → PortState) (q : Port)
    (hq : q ≠ p) (a : AlignRec) (ha : s.level.align = some a) (ho : a.owner = .port q) :
    inGroup (s.onPort p f) q .align = true := by
  have := h q a ha ho
  unfold inGroup at *
  rw [State.onPort_port_other s f hq]
  exact this

/-- A port takes another level, and the level monitor the access drop. -/
theorem accessDropped_keeps (s : State) (p : Port) (f : PortState → PortState)
    (hq : (f (s.port p)).txq = (s.port p).txq ∧ (f (s.port p)).rxq = (s.port p).rxq) :
    Keeps m s (levelAccessDrop (s.onPort p f) p) :=
  .withOwners ((Keeps.onAccess s p f hq).trans (levelAccessDrop_keeps _ _))
    fun h => levelAccessDrop_owners _ _ (entitled_other h p f)

theorem serviceGone_keeps (s : State) : Keeps m s (serviceGone s) := by
  unfold serviceGone
  refine .trans (.withOwners ?_ fun h => releaseAlign_owners _ .service _ ?_) (holdDrop_keeps _ _ _)
  · exact (Keeps.onAccess s .service (fun x => { x with access := .opened }) ⟨rfl, rfl⟩).trans (releaseAlign_keeps _ _ _)
  · exact entitled_other h .service _

theorem takeChange_keeps (s : State) (i : InputPin) (b : Bool) : Keeps m s (takeChange s i b) := by
  unfold takeChange
  dsimp only
  refine .ite (fun _ => .refl s) fun _ => .trans (.setInput s i { pin := b, filtered := b, change := none }) ?_
  cases i with
  | resetN => exact .refl _
  | mastMoving =>
    exact .ite (fun _ => (levelMast_keeps _ _).trans (testMast_keeps _)) fun _ => levelMast_keeps _ _
  | oduLock => exact linkLock_keeps _ _
  | svcConnect => exact .ite (fun _ => .refl _) fun _ => serviceGone_keeps _

/-! ## Requests of the site supervisor -/

/-- GO LIVE takes the site out of STAGING. -/
theorem handleGoLive_keeps (s : State) (p : Port) (f : Bool) (hm : m.site = false) : Keeps m s (handleGoLive s p f).1 := by
  unfold handleGoLive
  dsimp only
  exact .iteReply (fun _ => .refl s) fun _ => .iteReply (fun _ => .refl s) fun _ => .iteReply (fun _ => .refl s)
    fun _ => .iteReply (fun _ => .refl s) fun _ => .iteReply (fun _ => .refl s) fun _ =>
      .pair (changePhase_keeps _ _ _ _ fun e => nomatch hm.symm.trans e)

theorem handleStage_keeps (s : State) : Keeps m s (handleStage s).1 :=
  .pair (.ite (fun _ => .refl s) fun _ => changePhase_keeps _ _ _ _ fun _ _ => rfl)

theorem handleQuietSet_keeps (s : State) (n : Option Int) : Keeps m s (handleQuietSet s n).1 := by
  unfold handleQuietSet
  exact .iteReply (fun _ => .refl s) fun _ => .pair ((Keeps.settings s _ rfl rfl rfl).trans (quietCheck_keeps _))

theorem handleRestart_keeps (s : State) (p : Port) : Keeps m s (handleRestart s p).1 :=
  .iteReply (fun _ => .refl s) fun _ => .pair (.onSite _ _ fun _ => rfl)

theorem handleInputSet_keeps (s : State) (n : Option (Named InputPin)) (f : Option Int) :
    Keeps m s (handleInputSet s n f).1 := by
  unfold handleInputSet
  split
  · exact .refl s
  · exact .iteReply (fun _ => .refl s) fun _ => .pair (.settings _ _ rfl rfl rfl)

/-! ## Check mode, mask and summary -/

theorem Keeps.onPortSettings (s : State) (p : Port) (f : PortSettings → PortSettings) :
    Keeps m s (s.onPortSettings p f) := .settings _ _ rfl rfl rfl

theorem handleCheckSet_keeps (s : State) (p : Port) (k : Option (Named CheckMode)) :
    Keeps m s (handleCheckSet s p k).1 := by
  unfold handleCheckSet
  split
  · exact .refl s
  · exact .pair (.onPortSettings _ _ _)

theorem handleNoticeSet_keeps (s : State) (p : Port) (l : Option (List (Named NoticeClass))) :
    Keeps m s (handleNoticeSet s p l).1 := by
  unfold handleNoticeSet
  split
  · exact .refl s
  · exact .pair (.onPortSettings _ _ _)

theorem restartSummaryTimers_keeps (s : State) (p : Port) : Keeps m s (restartSummaryTimers s p) :=
  .onPort _ _ _ rfl id fun _ => List.Subset.refl _

theorem handleSummary_keeps (s : State) (p : Port) : Keeps m s (handleSummary s p).1 :=
  .pair (.trans (.onPort s p (fun x => { x with summary := x.summary.cleared }) rfl id fun _ => List.Subset.refl _)
    (restartSummaryTimers_keeps _ _))

theorem sendSummary_keeps (s : State) (p : Port) : Keeps m s (sendSummary s p) := .of_noticed (sendSummary_noticed _ _)

theorem applySummary_keeps (s : State) (p : Port) (n : Option Nat) (c : Option Bool) :
    Keeps m s (applySummary s p n c) := by
  have hc : ∀ t : State, Keeps m t (match c with
      | none => t
      | some b =>
        (t.onPortSettings p fun g => { g with change := b }).onPort p fun x =>
          { x with changePending := x.changePending && b }) := by
    intro t
    split
    · exact .refl t
    · exact (Keeps.onPortSettings t _ _).trans (.onPort _ _ _ rfl id fun _ => List.Subset.refl _)
  unfold applySummary
  dsimp only
  refine .trans ?_ (hc _)
  split
  · exact .refl s
  · exact (Keeps.onPortSettings s _ _).trans (.onPort _ _ _ rfl id fun _ => List.Subset.refl _)

theorem handleSummarySet_keeps (s : State) (p : Port) (n : Option Int) (c : Option (Named Bool)) :
    Keeps m s (handleSummarySet s p n c).1 := by
  unfold handleSummarySet
  exact .iteReply (fun _ => .refl s) fun _ => .pair (applySummary_keeps _ _ _ _)

theorem intervalExpired_keeps (s : State) (p : Port) : Keeps m s (intervalExpired s p) :=
  .ite (fun _ => sendSummary_keeps _ _) fun _ => .refl s

theorem spacingExpired_keeps (s : State) (p : Port) : Keeps m s (spacingExpired s p) := by
  unfold spacingExpired
  dsimp only
  refine .ite (fun _ => ?_) fun _ => .refl s
  refine .trans (.onPort s p (fun x => { x with spacingTimer := none, changePending := false }) rfl id
    fun _ => List.Subset.refl _) ?_
  exact .ite (fun _ => sendSummary_keeps _ _) fun _ => .refl _

/-! ## Unlocking and credentials -/

theorem unlockFailed_keeps (s : State) (p : Port) : Keeps m s (unlockFailed s p).1 := by
  unfold unlockFailed
  dsimp only
  exact .iteReply (fun _ => .pair ((Keeps.counting s _).trans (.onPort _ _ _ rfl id fun _ => List.Subset.refl _)))
    fun _ => .pair ((Keeps.counting s _).trans (.onPort _ _ _ rfl id fun _ => List.Subset.refl _))

/-- A port that was at a tenant's level or below and takes another meets the minimum of ALIGN still, or owns no
record. -/
theorem raised_owners {s : State} (p : Port) (f : PortState → PortState) (who : Option (Fin 4))
    (hf : (f (s.port p)).access = levelOf who) (hn : ¬(atSite s p && who.isSome) = true) (h : AlignOwnersEntitled s) :
    AlignOwnersEntitled (s.onPort p f) := by
  intro q a ha ho
  by_cases e : q = p
  · subst e
    have hg := h q a ha ho
    unfold inGroup at *
    rw [State.onPort_port_same, hf]
    revert hg hn
    unfold atSite levelOf
    show _ → (s.port q).access.meets (s.cfg.minima.get .align) = true →
      AccessLevel.meets _ (s.cfg.minima.get .align) = true
    generalize s.cfg.minima.get .align = min
    cases who with
    | none => cases min <;> simp [AccessLevel.meets]
    | some t => cases min <;> cases (s.port q).access <;> simp [AccessLevel.meets]
  · exact entitled_other h p f q e a ha ho

theorem handleUnlock_keeps (s : State) (p : Port) (a : CredArgs) : Keeps m s (handleUnlock s p a).1 := by
  unfold handleUnlock
  dsimp only
  split
  case h_2 => exact .refl s
  next who k _ _ =>
  refine .iteReply (fun _ => .refl s) fun _ => .iteReply (fun _ => .pair ?_) fun _ => unlockFailed_keeps _ _
  refine .ite (fun _ => accessDropped_keeps s p _ ⟨rfl, rfl⟩) fun hn => ?_
  exact .withOwners (.onAccess s p _ ⟨rfl, rfl⟩) fun h => raised_owners p _ who rfl hn h

theorem lockoutExpired_keeps (s : State) (p : Port) : Keeps m s (lockoutExpired s p) :=
  .ite (fun _ => .onPort _ _ _ rfl id fun _ => List.Subset.refl _) fun _ => .refl s

theorem handleLock_keeps (s : State) (p : Port) : Keeps m s (handleLock s p).1 :=
  .pair ((accessDropped_keeps s p (fun x => { x with access := .opened }) ⟨rfl, rfl⟩).trans (holdDrop_keeps _ _ _))

theorem handleCredSet_keeps (s : State) (a : CredArgs) : Keeps m s (handleCredSet s a).1 := by
  unfold handleCredSet
  dsimp only
  split
  · next who k _ _ => cases who <;> exact .pair (.settings _ _ rfl rfl rfl)
  · exact .refl s

/-- The minima change; whether the owner of the alignment record is still entitled is open. -/
theorem Keeps.settings_minima (s : State) (f : Settings → Settings)
    (hc : (f s.cfg).carriers = s.cfg.carriers) (hp : (f s.cfg).profiles = s.cfg.profiles) :
    Keeps m.noOwners s (s.settings f) :=
  ⟨id, fun h => ⟨h.1.congr hc, h.2⟩, fun _ => .congr hc rfl, fun _ => .congr hc rfl, nofun,
    fun _ => .congr hp rfl, fun _ => .congr rfl, fun _ => .congr rfl fun _ => rfl⟩

theorem alignMinimumChanged_owners (s : State) : AlignOwnersEntitled (alignMinimumChanged s) := by
  refine levelAccessDrop_owners _ _ fun q hq a ha ho => ?_
  rw [levelAccessDrop_inGroup]
  refine (levelAccessDrop_owner ha ho).2 ?_
  cases q with
  | main => rfl
  | service => exact absurd rfl hq

theorem alignMinimumChanged_keeps (s : State) : Keeps m s (alignMinimumChanged s) :=
  (levelAccessDrop_keeps _ _).trans (levelAccessDrop_keeps _ _)

theorem minimaChanged_keeps (s : State) (f : Settings → Settings)
    (hc : (f s.cfg).carriers = s.cfg.carriers) (hp : (f s.cfg).profiles = s.cfg.profiles) :
    Keeps m s (alignMinimumChanged (s.settings f)) :=
  .withOwners ((Keeps.settings_minima s f hc hp).trans (alignMinimumChanged_keeps _))
    fun _ => alignMinimumChanged_owners _

end Sys2Proof.Machine
end

section
/-! SUPPORT. What the settings store, the resets and the supply keep, and the deliveries between blocks. -/

namespace Sys2Proof.Machine

variable {m : Scope}

/-! ## The settings store -/

/-- The store may change if the settings that it holds keep their permit lines apart. -/
theorem Keeps.onStore (s : State) (f : Store → Store)
    (h : LinesApartIn s → LinesApart (f s.store).image.settings
      ∧ ∀ w, (f s.store).writing = some w → LinesApart w.settings) : Keeps m s (s.onStore f) :=
  ⟨id, fun k => ⟨k.1, h k⟩, fun _ => .congr rfl rfl, fun _ => .congr rfl rfl, fun _ => .congr rfl (fun _ => rfl) rfl,
    fun _ => .congr rfl rfl, fun _ => .congr rfl, fun _ => .congr rfl fun _ => rfl⟩

theorem countOn_fields (s : State) (k n : Nat) : (countOn s k n).1.cfg = s.cfg ∧ (countOn s k n).1.store = s.store := by
  unfold countOn
  split <;> exact ⟨rfl, rfl⟩

theorem countIf_keeps (s : State) (c : Prop) [Decidable c] (k n r : Nat) :
    Keeps m s (if c then countOn s k n else (s, r)).1 := .iteReply (fun _ => countOn_keeps _ _ _) fun _ => .refl s

theorem handleSave_keeps (s : State) (p : Port) (t : Tag) : Keeps m s (handleSave s p t).1 := by
  unfold handleSave
  refine .iteReply (fun _ => .refl s) fun _ => .pair ?_
  refine .trans (countIf_keeps s (s.store.image.good = true) 1 s.store.image.number 1) (.onStore _ _ fun h => ⟨h.2.1, ?_⟩)
  have hc : (if s.store.image.good = true then countOn s 1 s.store.image.number else (s, 1)).1.cfg = s.cfg := by
    split
    · exact (countOn_fields _ _ _).1
    · rfl
  intro w hw
  cases hw
  rw [← hc]
  exact h.1

theorem saveWriteEnd_keeps (s : State) (b : Bool) : Keeps m s (saveWriteEnd s b) := by
  unfold saveWriteEnd
  split
  · exact .refl s
  next w hw =>
  dsimp only
  refine .trans (.onStore s (fun _ => ⟨⟨w.settings, w.number, b⟩, !b, none⟩) ?_)
    (.ite (fun _ => noticeOwner_keeps _ _ _ _ _) fun _ => noticeOwner_keeps _ _ _ _ _)
  exact fun h => ⟨h.2.2 w hw, fun _ hx => absurd hx (Option.some_ne_none _).symm⟩

/-! ## LOAD -/

theorem loadLink_keeps (s : State) (img : Settings) (hl : s.link.state.carries = false) : Keeps m s (loadLink s img) := by
  unfold loadLink
  dsimp only
  refine .trans (.settings_profiles s
    (fun cfg => { cfg with link := img.link, profiles := img.profiles, templates := img.templates }) hl rfl rfl) ?_
  exact shareInputUnless_keeps _ _ _ rfl

theorem loadTiming_keeps (s : State) (img : Settings) : Keeps m s (loadTiming s img) := by
  unfold loadTiming
  refine .trans ?_ (applyPulse_keeps _ _ _)
  refine .trans ?_ (.settings _ _ rfl rfl rfl)
  exact (applySource_keeps s _ _).trans ((applySource_keeps _ _ _).trans (applySource_keeps _ _ _))

theorem loadSite_keeps (s : State) (img : Settings) : Keeps m s (loadSite s img) :=
  (Keeps.settings s _ rfl rfl rfl).trans (quietCheck_keeps _)

theorem loadPort_keeps (s : State) (img : Settings) (p : Port) : Keeps m s (loadPort s img p) := by
  unfold loadPort
  exact (Keeps.onPortSettings s p _).trans (applySummary_keeps _ _ _ _)

theorem loadAccess_keeps (s : State) (img : Settings) : Keeps m s (loadAccess s img) := minimaChanged_keeps _ _ rfl rfl

theorem applyImage_keeps (s : State) (img : Settings) (hl : s.link.state.carries = false)
    (ha : LinesApartIn s → LinesApart img) : Keeps m s (applyImage s img) := by
  unfold applyImage
  dsimp only
  have h1 : Keeps m s (s.settings fun cfg => { cfg with level := img.level }) := .settings _ _ rfl rfl rfl
  have h3 := (h1.trans (loadLink_keeps _ img hl)).trans (loadTiming_keeps _ img)
  refine .trans ?_ (loadAccess_keeps _ _)
  refine .trans ?_ (loadPort_keeps _ _ _)
  refine .trans ?_ (loadPort_keeps _ _ _)
  exact (loadShare_keeps h3 img ha).trans (loadSite_keeps _ _)

theorem handleLoad_keeps (s : State) : Keeps m s (handleLoad s).1 := by
  unfold handleLoad
  refine .iteReply (fun _ => .refl s) fun _ => .iteReply (fun _ => .refl s) fun _ =>
    .iteReply (fun _ => .refl s) fun hn => .pair (applyImage_keeps _ _ ?_ fun h => h.2.1)
  have ho : s.link.state = .off := by
    rw [Bool.or_eq_true, not_or] at hn
    exact of_not_not fun h => hn.2 (bne_iff_ne.mpr h)
  rw [ho]
  rfl

theorem handleAccessSet_keeps (s : State) (g : Option (Named Group)) (l : Option (Named MinLevel)) :
    Keeps m s (handleAccessSet s g l).1 := by
  unfold handleAccessSet
  split
  case h_2 => exact .refl s
  next g l _ _ =>
  refine .pair (.ite (fun _ => minimaChanged_keeps _ _ rfl rfl) fun hg => ?_)
  refine .withOwners (.settings_minima s _ rfl rfl) fun h q a ha ho => ?_
  have := h q a ha ho
  unfold inGroup at *
  have hm : (s.cfg.minima.put g l).get .align = s.cfg.minima.get .align := by
    cases g <;> first | rfl | exact absurd rfl hg
  rw [State.settings_cfg, hm]
  exact this

/-! ## Resets -/

theorem factory_lines : LinesApart Settings.factory := by
  intro x y dx dy l _ hx
  have hn : Settings.factory.carriers.get x = none := replicate_get _ _
  rw [hn] at hx
  exact nomatch hx

theorem replicate_idle (c : Fin 16) : (Vector.replicate 16 Carrier.idle).get c = .idle := replicate_get _ _

/-- Carriers that are all IDLE may be reshared. -/
theorem Demanding.idle {s : State} (h : ∀ c, s.share.carriers.get c = .idle) : Demanding s :=
  ⟨fun c _ _ hs => absurd (by rw [h c]; rfl) hs, fun c _ => h c⟩

/-- Carriers that are all IDLE drive no permit line. -/
theorem PermitsAgree.idle {s : State} (h : ∀ c, s.share.carriers.get c = .idle)
    (hp : ∀ l, s.share.permits.get l = false) : PermitsAgree s := by
  intro l
  rw [hp]
  refine ⟨nofun, ?_⟩
  rintro ⟨c, d, -, -, ha⟩
  unfold OnAir at ha
  rw [h] at ha
  exact absurd ha (by simp [Carrier.idle])

/-- Carriers that are all IDLE are granted nothing. -/
theorem SharesSound.idle {s : State} (h : ∀ c, s.share.carriers.get c = .idle) (hb : heldAmount s.share.borrow = 0) :
    SharesSound s := by
  refine ⟨fun c d _ ha => ?_, fun c _ => by rw [h]; rfl, fun c d _ hs => absurd (by rw [h]; rfl) hs, fun c _ => h c, ?_⟩
  · unfold OnAir at ha
    rw [h] at ha
    exact absurd ha (by simp [Carrier.idle])
  · have hg : givenOut s = 0 := by
      rw [givenOut_eq, hb, List.map_congr_left fun c _ => show (s.share.carriers.get c).grant = 0 by rw [h]; rfl,
        List.map_const', List.sum_replicate, smul_zero]
    rw [hg]
    exact Nat.zero_le _

/-- The blocks as a reset leaves them, before the reshare that ends it. -/
theorem resetBlocks_keeps {s v : State} (hl : LinesApartIn s → LinesApartIn v)
    (ht : SelectionQualified s → SelectionQualified v) (c : ResetCause) : Keeps m.noShare s (resetBlocks v c) where
  queues _ p := by cases p <;> exact ⟨Nat.zero_le _, Nat.zero_le _⟩
  lines h := hl h
  permits := nofun
  shares := nofun
  owners _ _ := nofun
  base _ _ := rfl
  selection _ h := ht h
  staged _ := .reset rfl fun p => by cases p <;> rfl

theorem resetBlocks_demanding (v : State) (c : ResetCause) : Demanding (resetBlocks v c) := .idle replicate_idle

theorem mastIf_keeps (s : State) (c : Prop) [Decidable c] : Keeps m s (if c then levelMast s true else s) :=
  .ite (fun _ => levelMast_keeps _ _) fun _ => .refl s

theorem autostartIf_keeps (s : State) (c : Prop) [Decidable c] : Keeps m s (if c then linkStart s "AUTOSTART" else s) :=
  .ite (fun _ => linkStart_keeps _ _) fun _ => .refl s

theorem endReset_keeps {s u : State} (h : Keeps m.noShare s u) (hd : Demanding u) : Keeps m s (endReset u) := by
  unfold endReset
  dsimp only
  refine .trans ?_ (autostartIf_keeps _ _)
  refine .trans ?_ (mastIf_keeps _ _)
  exact (h.thenReshare u.share none false fun _ => hd).trans (noticeBoth_keeps _ _ _ _)

theorem abandon_fields (x : Store) : x.abandon.image.settings = x.image.settings ∧ x.abandon.writing = none := by
  unfold Store.abandon
  split
  · next h => exact ⟨rfl, h⟩
  · exact ⟨rfl, rfl⟩

theorem readStore_lines (s : State) (h : LinesApartIn s) : LinesApartIn (readStore { s with store := s.store.abandon }) := by
  obtain ⟨h1, h2⟩ := abandon_fields s.store
  obtain ⟨h3, h4⟩ := abandon_fields s.store.abandon
  have hi : LinesApart s.store.abandon.image.settings := h1 ▸ h.2.1
  refine ⟨?_, ?_, fun w hw => ?_⟩
  · unfold readStore
    dsimp only
    split
    · exact hi
    · exact factory_lines
  · exact h3 ▸ hi
  · exact nomatch h4.symm.trans hw

theorem fullReset_keeps (s : State) (c : ResetCause) : Keeps m s (fullReset s c) := by
  unfold fullReset
  refine endReset_keeps (resetBlocks_keeps (fun h => ?_) (fun _ i hi => ?_) c) (resetBlocks_demanding _ c)
  · exact readStore_lines s h
  · exact nomatch (show none = some i from hi)

/-- A part at rest, whatever its settings. -/
theorem quiesce_keeps {s v : State} (hl : LinesApartIn s → LinesApart v.cfg ∧ LinesApart v.store.image.settings) (r : Run) :
    Keeps m s (quiesce v r) where
  queues _ p := by cases p <;> exact ⟨Nat.zero_le _, Nat.zero_le _⟩
  lines h := by
    obtain ⟨h1, h2⟩ := abandon_fields v.store
    exact ⟨(hl h).1, show LinesApart v.store.abandon.image.settings from h1 ▸ (hl h).2,
      fun w hw => nomatch h2.symm.trans hw⟩
  permits _ _ := .idle replicate_idle fun l => replicate_get false l
  shares _ _ := .idle replicate_idle rfl
  owners _ _ := nofun
  base _ _ := rfl
  selection _ _ i hi := nomatch (show none = some i from hi)
  staged _ := .reset rfl fun p => by cases p <;> rfl

theorem pinReset_keeps {s v : State} (hl : LinesApartIn s → LinesApart v.cfg ∧ LinesApart v.store.image.settings) :
    Keeps m s (pinReset v) :=
  quiesce_keeps (v := v.onSite fun x => { x with inputs := lowReset x.inputs }) hl .held

theorem pinResetEnd_keeps (s : State) : Keeps m s (pinResetEnd s) := 
  (Keeps.onSite s _ fun _ => rfl).trans (fullReset_keeps _ _)

theorem powerOn_keeps (s : State) : Keeps m s (powerOn s) :=
  .ite (fun _ => fullReset_keeps _ _) fun _ => pinReset_keeps fun h => ⟨factory_lines, h.2.1⟩

theorem restartSettings_lines (s : State) (h : LinesApartIn s) : LinesApart (restartSettings s) := by
  refine LinesApart.congr (a := match s.store.writing with
     | some w => w.settings
     | none => if s.store.image.good then s.store.image.settings else .factory) rfl ?_
  split
  · next w hw => exact h.2.2 w hw
  · split
    · exact h.2.1
    · exact factory_lines

theorem restartClock_frame (s : State) : ∃ k, restartClock s = { s with clock := k } := by
  unfold restartClock setDiversion
  dsimp only
  split
  · exact ⟨_, rfl⟩
  · exact ⟨_, rfl⟩

theorem restartEffect_keeps (s : State) : Keeps m s (restartEffect s) := by
  unfold restartEffect
  dsimp only
  refine .trans ?_ (.push _ _)
  refine endReset_keeps (resetBlocks_keeps (fun h => ?_) (fun h => ?_) _) (resetBlocks_demanding _ _)
  · obtain ⟨k, hk⟩ := restartClock_frame
      { s with cfg := restartSettings s, store := { s.store with blank := restartBlank s } }
    rw [hk]
    exact ⟨restartSettings_lines s h, h.2⟩
  · obtain ⟨k, hk⟩ := restartClock_frame
      { s with cfg := restartSettings s, store := { s.store with blank := restartBlank s } }
    rw [hk]
    exact SameSelection.qualified (s := s)
      (.map rfl (fun r => { r with mark := none }) rfl fun _ => ⟨rfl, fun _ => rfl⟩) h

theorem restartTakesPlace_keeps (s : State) : Keeps m s (restartTakesPlace s) :=
  .ite (fun _ => restartEffect_keeps _) fun _ => .refl s

/-! ## Deliveries -/

theorem deliver_keeps (s : State) (g : Signal) : Keeps m s (deliver s g) := by
  cases g with
  | alignStart => exact linkAlignStart_keeps _
  | alignEnd => exact linkAlignEnd_keeps _
  | linkToTiming st => exact timingLink_keeps _ _
  | linkToTests st => exact testLinkState_keeps _ _
  | busChoose => exact choose_keeps _
  | completeLink t => exact linkCompleted_keeps _ _
  | completeTest t => exact testCompleted_keeps _ _
  | slotFreeLink => exact linkSlotFree_keeps _
  | slotFreeTest => exact testSlotFree_keeps _
  | borrowGranted n => exact testGranted_keeps _ _
  | borrowDeferred n => exact testDeferred_keeps _ _
  | borrowRevoked n => exact testRevoked_keeps _ _
  | takeTest => exact takeTest_keeps _
  | cleanup => exact cleanup_keeps _

theorem settleFor_keeps : ∀ (n : Nat) (s : State), Keeps m s (settleFor n s)
  | 0, s => .refl s
  | n + 1, s => by
    unfold settleFor
    split
    · exact .refl s
    · next g l _ =>
      refine .trans (.frame (t := { s with signals := l }) rfl rfl rfl rfl rfl rfl rfl fun _ => rfl) ?_
      exact (deliver_keeps _ _).trans (settleFor_keeps n _)

theorem settle_keeps (s : State) : Keeps m s (settle s) := settleFor_keeps _ _

theorem live_keeps (f : State → State) (h : ∀ s, Keeps m s (f s)) (s : State) : Keeps m s (live f s) := by
  unfold live
  exact .ite (fun _ => (h s).trans (settle_keeps _)) fun _ => .refl s

end Sys2Proof.Machine
end

section
/-! SUPPORT. What each request, each command and each step keeps. -/

namespace Sys2Proof.Machine

variable {m : Scope}

/-! ## Requests -/

theorem answer_keeps (rq : Req) (n : Need) (h : State → State × Reply) (s : State)
    (k : n.met s rq.port = true → Keeps m s (h s).1) : Keeps m s (answer rq n h s) := by
  unfold answer
  refine .ite (fun _ => offerReply_keeps _ _ _ _) fun hn => .ite (fun _ => offerReply_keeps _ _ _ _) fun _ => ?_
  exact (k (by simpa using hn)).trans (offerReply_keeps _ _ _ _)

/-- A request that reads leaves the state. -/
theorem answer_reads (rq : Req) (n : Need) (h : State → State × Reply) (s : State) (k : (h s).1 = s) :
    Keeps m s (answer rq n h s) :=
  answer_keeps _ _ _ _ fun _ => by rw [k]; exact .refl s

theorem noteRestart_keeps (s t : State) (p : Port) : Keeps m t (noteRestart s t p) :=
  .ite (fun _ => .onSite _ _ fun _ => rfl) fun _ => .refl t

/-- A handler that answers each way with the state as it found it. -/
theorem handleLevelHistory_state (s : State) (a b : Option Int) : (handleLevelHistory s a b).1 = s := by
  unfold handleLevelHistory; split <;> rfl
theorem handleAlignRead_state (s : State) : (handleAlignRead s).1 = s := by
  unfold handleAlignRead; split <;> rfl
theorem handleProfileRead_state (s : State) (p : Option Int) : (handleProfileRead s p).1 = s := by
  unfold handleProfileRead; split <;> rfl
theorem handleTemplateRead_state (s : State) (n : Option (Named TemplateName)) : (handleTemplateRead s n).1 = s := by
  unfold handleTemplateRead; split <;> rfl
theorem handleBusResult_state (s : State) (p : Port) (t : Option Int) : (handleBusResult s p t).1 = s := by
  unfold handleBusResult
  split
  · rfl
  · dsimp only; split <;> rfl
theorem handleCaptureRead_state (s : State) (i : Option Int) : (handleCaptureRead s i).1 = s := by
  unfold handleCaptureRead; split <;> rfl
theorem handleSourceRead_state (s : State) (i : Option Int) : (handleSourceRead s i).1 = s := by
  unfold handleSourceRead; split <;> rfl
theorem handleTenantRead_state (s : State) (p : Port) (t : Option Int) : (handleTenantRead s p t).1 = s := by
  unfold handleTenantRead
  split <;> first | rfl | (split <;> rfl)
theorem handleCarrierRead_state (s : State) (c : Option Int) : (handleCarrierRead s c).1 = s := by
  unfold handleCarrierRead; split <;> rfl
theorem handleTestRead_state (s : State) (n : Option Int) : (handleTestRead s n).1 = s := by
  unfold handleTestRead
  dsimp only
  split
  · rfl
  split
  · rfl
  split
  · rfl
  split <;> rfl
theorem handleResultRead_state (s : State) (n : Option Int) : (handleResultRead s n).1 = s := by
  unfold handleResultRead
  dsimp only
  split
  · rfl
  split <;> rfl
theorem handleFeederRead_state (s : State) (f : Option (Named FeederLine)) : (handleFeederRead s f).1 = s := by
  unfold handleFeederRead; split <;> rfl
theorem handleCountRead_state (s : State) (n : Option (Named CounterName)) (i : Option IndexArg) :
    (handleCountRead s n i).1 = s := by
  unfold handleCountRead
  split
  · rfl
  split
  · rfl
  · split <;> rfl
  · split <;> rfl
  · rfl

theorem handleCountClear_keeps (s : State) (n : Option (Named CounterName)) (i : Option IndexArg) :
    Keeps m s (handleCountClear s n i).1 := by
  unfold handleCountClear
  split
  · exact .pair (.counting _ _)
  · exact .refl s
  · exact .refl s
  · exact .pair (.counting _ _)
  · split
    · exact .pair (.counting _ _)
    · exact .pair (.counting _ _)
    · exact .refl s

/-- What the effect of a request keeps. -/
theorem serve_keeps (i : Instr) (s : State) (hi : m.site = true → ∀ rq f, i ≠ .goLive rq f) : Keeps m s (serve i s) := by
  cases i
  case levelRead rq => apply answer_reads; rfl
  case levelHistory rq a b => apply answer_reads; exact handleLevelHistory_state _ _ _
  case levelCal rq a => apply answer_keeps; exact fun _ => handleLevelCal_keeps _ _
  case alignStart rq k => apply answer_keeps; exact fun h => handleAlignStart_keeps _ _ _ h
  case alignStop rq => apply answer_keeps; exact fun _ => handleAlignStop_keeps _ _
  case alignMark rq => apply answer_keeps; exact fun _ => handleAlignMark_keeps _ _
  case alignRead rq => apply answer_reads; exact handleAlignRead_state _
  case indicatorSet rq a => apply answer_keeps; exact fun _ => handleIndicatorSet_keeps _ _
  case linkStart rq => apply answer_keeps; exact fun _ => handleLinkStart_keeps _
  case linkStop rq => apply answer_keeps; exact fun _ => handleLinkStop_keeps _
  case profileSet rq p a => apply answer_keeps; exact fun _ => handleProfileSet_keeps _ _ _
  case profileRead rq p => apply answer_reads; exact handleProfileRead_state _ _
  case templateSet rq n a => apply answer_keeps; exact fun _ => handleTemplateSet_keeps _ _ _
  case templateRead rq n => apply answer_reads; exact handleTemplateRead_state _ _
  case linkSet rq a => apply answer_keeps; exact fun _ => handleLinkSet_keeps _ _
  case linkRead rq => apply answer_reads; rfl
  case busXfer rq a => apply answer_keeps; exact fun _ => handleBusXfer_keeps _ _ _ _
  case busResult rq t => apply answer_reads; exact handleBusResult_state _ _ _
  case busRead rq => apply answer_reads; rfl
  case pulseSet rq a => apply answer_keeps; exact fun _ => handlePulseSet_keeps _ _
  case timeRead rq => apply answer_reads; rfl
  case captureRead rq i => apply answer_reads; exact handleCaptureRead_state _ _
  case sourceSet rq i a => apply answer_keeps; exact fun _ => handleSourceSet_keeps _ _ _
  case timingSet rq a => apply answer_keeps; exact fun _ => handleTimingSet_keeps _ _
  case sourceRead rq i => apply answer_reads; exact handleSourceRead_state _ _
  case timingRead rq => apply answer_reads; rfl
  case tenantSet rq t a => apply answer_keeps; exact fun _ => handleTenantSet_keeps _ _ _
  case tenantRead rq t => apply answer_reads; exact handleTenantRead_state _ _ _
  case carrierDefine rq c a => apply answer_keeps; exact fun _ => handleCarrierDefine_keeps _ _ _
  case carrierRequest rq c d => apply answer_keeps; exact fun _ => handleCarrierRequest_keeps _ _ _ _
  case carrierRelease rq c => apply answer_keeps; exact fun _ => handleCarrierRelease_keeps _ _ _
  case carrierHold rq c n => apply answer_keeps; exact fun _ => handleCarrierHold_keeps _ _ _ _
  case carrierRead rq c => apply answer_reads; exact handleCarrierRead_state _ _
  case shareSet rq b r => apply answer_keeps; exact fun _ => handleShareSet_keeps _ _ _
  case shareRead rq => apply answer_reads; rfl
  case testAdd rq k a => apply answer_keeps; exact fun _ => handleTestAdd_keeps _ _ _ _
  case testCancel rq n => apply answer_keeps; exact fun _ => handleTestCancel_keeps _ _ _
  case testRead rq n => apply answer_reads; exact handleTestRead_state _ _
  case resultRead rq n => apply answer_reads; exact handleResultRead_state _ _
  case acceptSet rq l => apply answer_keeps; exact fun _ => handleAcceptSet_keeps _ _
  case acceptRead rq => apply answer_reads; rfl
  case feederSet rq f a => apply answer_keeps; exact fun _ => handleFeederSet_keeps _ _ _
  case feederRead rq f => apply answer_reads; exact handleFeederRead_state _ _
  case inputSet rq n f => apply answer_keeps; exact fun _ => handleInputSet_keeps _ _ _
  case inputRead rq => apply answer_reads; rfl
  case goLive rq f => apply answer_keeps; exact fun _ => handleGoLive_keeps _ _ _ (Bool.eq_false_iff.2 fun e => hi e rq f rfl)
  case stage rq => apply answer_keeps; exact fun _ => handleStage_keeps _
  case quietSet rq n => apply answer_keeps; exact fun _ => handleQuietSet_keeps _ _
  case siteRead rq => apply answer_reads; rfl
  case checkSet rq k => apply answer_keeps; exact fun _ => handleCheckSet_keeps _ _ _
  case noticeSet rq l => apply answer_keeps; exact fun _ => handleNoticeSet_keeps _ _ _
  case summary rq => apply answer_keeps; exact fun _ => handleSummary_keeps _ _
  case summarySet rq n c => apply answer_keeps; exact fun _ => handleSummarySet_keeps _ _ _ _
  case unlock rq a => exact answer_keeps rq .nothing (fun s => handleUnlock s rq.port a) s fun _ => handleUnlock_keeps _ _ _
  case lock rq => exact answer_keeps rq .nothing (fun s => handleLock s rq.port) s fun _ => handleLock_keeps _ _
  case credSet rq a => apply answer_keeps; exact fun _ => handleCredSet_keeps _ _
  case accessSet rq g l => apply answer_keeps; exact fun _ => handleAccessSet_keeps _ _ _
  case countRead rq n i => apply answer_reads; exact handleCountRead_state _ _ _
  case countClear rq n i => apply answer_keeps; exact fun _ => handleCountClear_keeps _ _ _
  case save rq => apply answer_keeps; exact fun _ => handleSave_keeps _ _ _
  case load rq => apply answer_keeps; exact fun _ => handleLoad_keeps _
  case storeRead rq => apply answer_reads; rfl
  case restart rq =>
    refine .trans (t := answer rq (.siteIn .sitePhase) (fun s => handleRestart s rq.port) s) ?_ (noteRestart_keeps _ _ _)
    exact answer_keeps _ _ _ _ fun _ => handleRestart_keeps _ _
  all_goals exact .refl s

theorem portLine_keeps (s : State) (p : Port) : Keeps m s (portLine s p) := by
  cases p with
  | main => exact (lineEvent_keeps s).trans (settle_keeps _)
  | service => exact .refl s

theorem takeIf_keeps (s : State) (c : Prop) [Decidable c] (p : Port) (f : State → State) (h : ∀ s, Keeps m s (f s)) :
    Keeps m s (if c then f (portLine s p) else s) :=
  .ite (fun _ => (portLine_keeps s p).trans (h _)) fun _ => .refl s

theorem requestRow_keeps (rq : Req) (f : State → State) (h : ∀ s, Keeps m s (f s)) (s : State) :
    Keeps m s (requestRow rq f s) := live_keeps _ (fun s => takeIf_keeps s _ _ _ h) s

/-! ## The ports' lines -/

theorem answerBad_keeps (s : State) (p : Port) (w : NotRequest) : Keeps m s (answerBad s p w) := by
  cases w with
  | unknownVerb t => exact (portLine_keeps s p).trans (offerReply_keeps _ _ _ _)
  | _ => exact offerReply_keeps _ _ _ _

/-- A line that spells no GO LIVE, in either check mode. -/
def NotGoLive (p : Port) (x : RxLine) : Prop := ∀ mode rq force, judgeLine p mode x ≠ .request (.goLive rq force)

theorem runLine_keeps (s : State) (p : Port) (x : RxLine) (hx : m.site = true → NotGoLive p x) :
    Keeps m s (runLine s p x) := by
  unfold runLine
  cases hj : judgeLine p (s.cfg.ports.get p).check x with
  | bad why => exact (answerBad_keeps _ _ _).trans (settle_keeps _)
  | request i =>
    refine (portLine_keeps _ _).trans ((serve_keeps _ _ fun e rq f hi => ?_).trans (settle_keeps _))
    exact hx e _ rq f (hi ▸ hj)

theorem drainFor_keeps (p : Port) : ∀ (n : Nat) (s : State),
    (m.site = true → ∀ x ∈ (s.port p).rxq, NotGoLive p x) → Keeps m s (drainFor n p s)
  | 0, s, _ => .refl s
  | n + 1, s, hx => by
    unfold drainFor
    refine .ite (fun _ => ?_) fun _ => .refl s
    split
    · exact .refl s
    · next x l hl =>
      rw [hl] at hx
      have ho : Keeps m s (s.onPort p fun y => { y with rxq := l }) := by
        refine .onPort s p _ rfl (fun h => ⟨h.1, ?_⟩) fun _ => ?_
        · rw [hl, List.length_cons] at h
          exact Nat.le_of_succ_le h.2
        · rw [hl]
          exact List.subset_cons_self _ _
      have hr : Keeps m _ (runLine (s.onPort p fun y => { y with rxq := l }) p x) :=
        runLine_keeps _ _ _ fun e => hx e x (List.mem_cons_self ..)
      refine (ho.trans hr).trans (drainFor_keeps p n _ fun e y hy => hx e y (List.mem_cons_of_mem _ ?_))
      have hq := (hr.staged e).lines p hy
      rw [State.onPort_port_same] at hq
      exact hq

theorem lineNotRequest_keeps (s : State) (p : Port) (w : NotRequest) : Keeps m s (lineNotRequest s p w) :=
  .ite (fun _ => answerBad_keeps _ _ _) fun _ => .refl s

theorem dropLine_keeps (s : State) (p : Port) (x : RxLine) : Keeps m s (dropLine s p x) := by
  unfold dropLine
  exact (Keeps.counting s _).trans ((setFlag_keeps _ _ _).trans (noticeMasked_keeps _ _ _ _ _))

section
/-! A complete line or a sending may let a port take a line that it held. -/

variable (hm : m.site = false)
include hm

theorem receiveLine_keeps (s : State) (p : Port) (x : RxLine) : Keeps m s (receiveLine s p x) := by
  unfold receiveLine
  refine .ite (fun h => .onPort _ _ _ rfl (fun k => ⟨k.1, ?_⟩) fun e => nomatch hm.symm.trans e)
    fun _ => dropLine_keeps _ _ _
  rw [List.length_append]
  exact h

theorem receiveIf_keeps (s : State) (c : Prop) [Decidable c] (p : Port) (x : RxLine) :
    Keeps m s (if c then s else drain (receiveLine s p x) p) :=
  .ite (fun _ => .refl s) fun _ =>
    (receiveLine_keeps hm _ _ _).trans (drainFor_keeps _ _ _ fun e => nomatch hm.symm.trans e)

theorem lineComplete_keeps (s : State) (p : Port) (l : List RxChar) : Keeps m s (lineComplete s p l) := by
  unfold lineComplete
  exact .trans (.onPort s p (fun y => { y with assembly := .empty }) rfl id fun _ => List.Subset.refl _)
    (receiveIf_keeps hm _ _ _ _)

theorem lineSent_keeps (s : State) (p : Port) : Keeps m s (lineSent s p) := by
  unfold lineSent
  split
  · exact .refl s
  · next x l hl =>
    refine .trans ?_ (drainFor_keeps _ _ _ fun e => nomatch hm.symm.trans e)
    refine .trans (.onPort s p (fun y => { y with txq := l }.enter) rfl (fun h => ⟨enter_bounded _ ?_, h.2⟩)
      fun _ => List.Subset.refl _) (.onSite _ _ fun _ => rfl)
    rw [hl, List.length_cons] at h
    exact Nat.le_of_succ_le h.1

end

/-! ## Events -/

theorem sampleEvent_keeps (s : State) (raw : Fin 4096) : Keeps m s (sampleEvent s raw) := by
  unfold sampleEvent
  dsimp only
  split
  · exact takeSample_keeps _ _
  · exact (takeSample_keeps _ _).trans (linkReport_keeps _ _)

theorem ppsEdge_keeps (s : State) (i : Source) (d : EdgeDir) (n : Nat) : Keeps m s (ppsEdge s i d n) := by
  unfold ppsEdge
  refine .trans (.onClock s fun k => k.advance n) ?_
  refine .ite (fun _ => (Keeps.onClock _ _).trans (testEdge_keeps _ _ _)) fun _ =>
    .ite (fun _ => risingEdge_keeps _ _) fun _ => .refl _

theorem restoreEnded_keeps (s : State) (c : Fin 16) : Keeps m s (restoreEnded s c) :=
  .ite (fun h => endRestore_keeps s h) fun _ => .refl s

theorem holdEnded_keeps (s : State) (c : Fin 16) : Keeps m s (holdEnded s c) := by
  unfold holdEnded
  split
  · next h _ => exact endHold_keeps s h
  · exact .refl s

/-- A row whose effect the running part takes. -/
theorem keeps_of_live {f : State → State} {s t : State} (h : Host.Outcome.next (live f s) = (.next t : Result))
    (k : ∀ s, Keeps m s (f s)) : Keeps m s t := by
  cases h
  exact live_keeps f k s

/-- Every command but GO LIVE and those that let a port take a line, which may spell one, leaves the site in STAGING. -/
def leavesStaging : Instr → Bool
  | .goLive .. | .lineComplete .. | .transmitLineSent .. => true
  | _ => false

/-- Every command keeps every invariant. -/
theorem exec_keeps (i : Instr) (s t : State) (h : exec i s = .next t) (hi : m.site = true → leavesStaging i = false) :
    Keeps m s t := by
  have request : ∀ rq f, exec i s = .next (requestRow rq f s) → f = serve i → Keeps m s t := by
    intro rq f hx hf
    cases hx.symm.trans h
    refine requestRow_keeps rq f (fun u => hf ▸ serve_keeps i u fun e rq f hg => ?_) s
    have hl := hi e
    rw [hg] at hl
    exact nomatch hl
  cases i
  case powerOnReset => cases h; exact (powerOn_keeps s).trans (settle_keeps _)
  case pinReset => cases h; exact .ite (fun _ => pinReset_keeps fun h => ⟨h.1, h.2.1⟩) fun _ => .refl s
  case pinResetEnd => cases h; exact .ite (fun _ => (pinResetEnd_keeps s).trans (settle_keeps _)) fun _ => .refl s
  case supplyLoss => cases h; exact quiesce_keeps (fun h => ⟨h.1, h.2.1⟩) _
  case inputPinChange p l => cases h; exact .setInput _ _ _
  case restartTakesPlace => exact keeps_of_live h restartTakesPlace_keeps
  case sample raw => exact keeps_of_live h fun s => sampleEvent_keeps s raw
  case fadeTimerExpiry => exact keeps_of_live h fadeExpired_keeps
  case restoreTimerExpiry => exact keeps_of_live h restoreExpired_keeps
  case upshiftHoldExpiry => exact keeps_of_live h upshiftExpired_keeps
  case mastMovingChange l => exact keeps_of_live h fun s => takeChange_keeps s _ _
  case oduLockChange l => exact keeps_of_live h fun s => takeChange_keeps s _ _
  case svcConnectDeassert => exact keeps_of_live h fun s => takeChange_keeps s _ _
  case svcConnectAssert => exact keeps_of_live h fun s => takeChange_keeps s _ _
  case busFreeStart => exact keeps_of_live h busStart_keeps
  case busFreeTimeout => exact keeps_of_live h busFreeTimeout_keeps
  case byteStretchTimeout w d => exact keeps_of_live h fun s => busStretch_keeps s _ _
  case transactionComplete b => exact keeps_of_live h fun s => busComplete_keeps s _
  case holdDeadlineExpiry => exact keeps_of_live h holdDeadline_keeps
  case secondBoundary => exact keeps_of_live h secondBoundary_keeps
  case startHoldEnd => exact keeps_of_live h startHoldEnd_keeps
  case pulseWidthEnd => exact keeps_of_live h pulseWidthEnd_keeps
  case steeringPoint => exact keeps_of_live h steeringPoint_keeps
  case oscCheckWindowEnd n => exact keeps_of_live h fun s => oscWindow_keeps s _
  case ppsEdge i d n => exact keeps_of_live h fun s => ppsEdge_keeps s _ _ _
  case missing i => exact keeps_of_live h fun s => timingMissing_keeps s _
  case carrierRestoreExpiry c => exact keeps_of_live h fun s => restoreEnded_keeps s _
  case holdTimerExpiry c => exact keeps_of_live h fun s => holdEnded_keeps s _
  case deferTimerExpiry => exact keeps_of_live h deferExpired_keeps
  case dischargeTimerExpiry => exact keeps_of_live h dischargeExpired_keeps
  case comparatorTrip l n => exact keeps_of_live h fun s => comparatorTrip_keeps s _ _
  case feederCounterOverflow l => exact keeps_of_live h fun s => counterOverflow_keeps s _
  case frameSent => exact keeps_of_live h frameSent_keeps
  case frameReceived c => exact keeps_of_live h fun s => frameReceived_keeps s _
  case returnTimerExpiry => exact keeps_of_live h returnExpired_keeps
  case edgeWatchExpiry => exact keeps_of_live h edgeWatchExpired_keeps
  case quietHalf => exact keeps_of_live h quietHalfReached_keeps
  case quietExpired => exact keeps_of_live h quietPeriodReached_keeps
  case lineComplete p l => exact keeps_of_live h fun s => lineComplete_keeps (Bool.eq_false_iff.2 fun e => nomatch hi e) s _ _
  case lineNotRequest p w => exact keeps_of_live h fun s => lineNotRequest_keeps s _ _
  case transmitLineSent p => exact keeps_of_live h fun s => lineSent_keeps (Bool.eq_false_iff.2 fun e => nomatch hi e) s _
  case lockoutTimerExpiry p => exact keeps_of_live h fun s => lockoutExpired_keeps s _
  case intervalTimerExpiry p => exact keeps_of_live h fun s => intervalExpired_keeps s _
  case spacingTimerExpiry p => exact keeps_of_live h fun s => spacingExpired_keeps s _
  case saveWriteEnd b => exact keeps_of_live h fun s => saveWriteEnd_keeps s _
  all_goals exact request _ _ rfl rfl

end Sys2Proof.Machine
end

section
/-! SUPPORT. What one cycle of the RC clock and one step keep. -/

namespace Sys2Proof.Machine

variable {m : Scope}

/-! ## Events that fall due -/

theorem occur_keepsAll (s : State) (i : Instr) (hi : leavesStaging i = false) : Keeps m s (occur s i) := by
  unfold occur
  split
  · next t h => exact exec_keeps i s t h fun _ => hi
  · exact .refl s
  · exact .refl s

/-- What may fall due takes no site out of STAGING. -/
def StagedDue (l : List Due) : Prop := ∀ d ∈ l, ∀ s i, d s = some i → leavesStaging i = false

theorem StagedDue.nil : StagedDue [] := fun _ h => nomatch h

theorem StagedDue.append {l k : List Due} (hl : StagedDue l) (hk : StagedDue k) : StagedDue (l ++ k) := fun d hd =>
  (List.mem_append.1 hd).elim (hl d) (hk d)

theorem StagedDue.cons {d : Due} {l : List Due} (hd : ∀ s i, d s = some i → leavesStaging i = false) (hl : StagedDue l) :
    StagedDue (d :: l) := fun e he => (List.mem_cons.1 he).elim (fun h => h ▸ hd) (hl e)

theorem StagedDue.when {c : State → Bool} {i : Instr} {l : List Due} (hi : leavesStaging i = false) (hl : StagedDue l) :
    StagedDue (dueWhen c i :: l) :=
  .cons (fun s j h => by
    unfold dueWhen at h
    split at h
    · exact Option.some.inj h ▸ hi
    · exact nomatch h) hl

theorem StagedDue.row {p : InputPin} {f : Bool → Instr} {l : List Due} (hf : ∀ b, leavesStaging (f b) = false)
    (hl : StagedDue l) : StagedDue (changeRow p f :: l) :=
  .cons (fun s j h => by
    obtain ⟨b, -, hb⟩ := Option.map_eq_some_iff.1 h
    exact hb ▸ hf b) hl

theorem StagedDue.flatMap {α : Type} {l : List α} {f : α → List Due} (h : ∀ a, StagedDue (f a)) :
    StagedDue (l.flatMap f) := fun d hd => by
  obtain ⟨a, -, ha⟩ := List.mem_flatMap.1 hd
  exact h a d ha

theorem StagedDue.map {α : Type} {l : List α} {c : α → State → Bool} {f : α → Instr}
    (h : ∀ a, leavesStaging (f a) = false) : StagedDue (l.map fun a => dueWhen (c a) (f a)) := fun d hd => by
  obtain ⟨a, -, rfl⟩ := List.mem_map.1 hd
  exact StagedDue.when (h a) .nil _ (List.mem_singleton.2 rfl)

theorem occurDue_keepsAll (l : List Due) (s : State) (hl : StagedDue l) : Keeps m s (occurDue l s) := by
  induction l generalizing s with
  | nil => exact .refl s
  | cons d l ih =>
    refine .trans ?_ (ih _ fun e he => hl e (List.mem_cons_of_mem _ he))
    show Keeps m s (match d s with | some i => occur s i | none => s)
    cases hd : d s with
    | none => exact .refl s
    | some i => exact occur_keepsAll s i (hl d (List.mem_cons_self ..) s i hd)

theorem portDue_staged (p : Port) : StagedDue (portDue p) := .when rfl (.when rfl (.when rfl .nil))

theorem resetDue_staged : StagedDue [resetDue] := .row (fun b => by cases b <;> rfl) .nil

theorem timersDue_staged : StagedDue timersDue := by
  unfold timersDue
  refine .append (.append (.append (.append (.append (.append ?_ ?_) ?_) ?_) ?_) (portDue_staged _)) (portDue_staged _)
  · exact .when rfl (.when rfl (.when rfl .nil))
  · exact .when rfl (.when rfl .nil)
  · exact .map (c := fun i s => ended (s.timing.sources.get i).watch) fun _ => rfl
  · exact .flatMap fun c => .when rfl (.when rfl .nil)
  · exact .when rfl (.when rfl (.when rfl (.when rfl .nil)))

theorem tickDue_staged : StagedDue tickDue := by
  unfold tickDue
  refine .append (.append (.append ?_ timersDue_staged) (.when rfl (.when rfl .nil))) resetDue_staged
  exact .row (fun _ => rfl) (.row (fun _ => rfl) (.row (fun b => by cases b <;> rfl) .nil))

/-! ## One cycle -/

theorem clockEdge_keeps (s : State) : Keeps m s (clockEdge s) := by
  unfold clockEdge
  exact .ite (fun _ => (passToRc_keeps s).trans ((settle_keeps _).trans
    (occurDue_keepsAll _ _ (.when rfl .nil)))) fun _ => .refl s

theorem clockCycle_keeps (s : State) : Keeps m s (clockCycle s) := by
  unfold clockCycle
  dsimp only
  refine .trans ?_ (occurDue_keepsAll _ _ (.when rfl .nil))
  refine .trans ?_ (clockEdge_keeps _)
  refine .trans ?_ (.onClock _ _)
  exact (Keeps.onClock s _).trans (occurDue_keepsAll _ _ (.when rfl (.when rfl (.when rfl .nil))))

theorem senseCycle_keeps (s : State) : Keeps m s (senseCycle s) := by
  unfold senseCycle
  split
  · refine .trans (.onTests s _) (.foldl (fun t i => ?_) _ _)
    exact .ite (fun _ => live_keeps _ (fun u => overflowAfter_keeps u i 0) t) fun _ => .refl t
  · exact .refl s

theorem lower_keeps (s : State) : Keeps m s (lowerTimers s) := by
  have hk : Keeps m s (s.onLink fun k =>
      { k with fadeTimer := lower k.fadeTimer, restoreTimer := lower k.restoreTimer
               upshiftTimer := lower k.upshiftTimer }) := .onLink_aside s _ ⟨rfl, rfl, rfl, rfl, rfl⟩
  have ht : ∀ u : State, Keeps m u (u.onTiming fun t => { t with sources := t.sources.map SourceRec.lower }) :=
    fun u => .onTiming_same u _ (.map rfl SourceRec.lower rfl fun _ => ⟨rfl, id⟩)
  have hs : ∀ u : State, Keeps m u
      { u with share := { u.share with carriers := ofCarriers fun c => (u.share.carriers.get c).lower } } := by
    intro u
    refine .onShare_same u _ rfl (fun c => ?_) (fun c hc => ?_) rfl rfl
    · show ((ofCarriers fun c => (u.share.carriers.get c).lower).get c).state = _ ∧ _
      unfold ofCarriers
      rw [Vector.get_ofFn]
      exact ⟨rfl, rfl, rfl⟩
    · show (ofCarriers fun c => (u.share.carriers.get c).lower).get c = _
      unfold ofCarriers
      rw [Vector.get_ofFn, hc]
      rfl
  have hp : ∀ (u : State) (p : Port), Keeps m u (u.onPort p PortState.lower) :=
    fun u p => .onPort u p _ rfl id fun _ => List.Subset.refl _
  have all := ((((hk.trans (.onBus _ Bus.lower)).trans (ht _)).trans (hs _)).trans (.onTests _ Tests.lower)).trans
    ((hp _ .main).trans (hp _ .service))
  exact all

theorem lowerInput_keeps (s : State) (i : InputPin) : Keeps m s (lowerInput s i) := .setInput _ _ _

theorem lowerInputs_keeps (s : State) : Keeps m s (lowerInputs s) :=
  (lowerInput_keeps s .mastMoving).trans ((lowerInput_keeps _ .oduLock).trans
    ((lowerInput_keeps _ .svcConnect).trans (lowerInput_keeps _ .resetN)))

theorem msTick_keeps (s : State) : Keeps m s (msTick s) :=
  (lower_keeps s).trans ((lowerInputs_keeps _).trans (.trans (.onSite _ _ fun _ => rfl)
    (occurDue_keepsAll _ _ tickDue_staged)))

theorem heldTick_keeps (s : State) : Keeps m s (heldTick s) := 
  (lowerInput_keeps s _).trans (occurDue_keepsAll _ _ resetDue_staged)

theorem rcCycle_keeps (s : State) : Keeps m s (rcCycle s).1 := by
  unfold rcCycle
  exact .iteReply (fun _ => .pair (.onRc _ _)) fun _ => .pair (.onRc _ _)

theorem runCycle_keeps (s : State) : Keeps m s (runCycle s) := by
  have hb : ∀ (t : State) (c : Prop) [Decidable c] (f : State → State), (∀ u, Keeps m u (f u)) →
      Keeps m t (if c then f t else t) := fun t _ _ f h => .ite (fun _ => h t) fun _ => .refl t
  unfold runCycle
  split
  · exact .refl s
  · exact (rcCycle_keeps s).trans (hb _ _ _ heldTick_keeps)
  · refine .trans ?_ (occurDue_keepsAll _ _ (.when rfl .nil))
    refine .trans ?_ (hb _ _ _ msTick_keeps)
    refine .trans ?_ (rcCycle_keeps _)
    exact (Keeps.onLevel_less s _ (.inl (by unfold Level.cycle; split <;> rfl))).trans
      ((clockCycle_keeps _).trans (senseCycle_keeps _))

theorem tick_keeps (s : State) : Keeps m s (tick s) :=
  .ite (fun _ => .refl s) fun _ => (runCycle_keeps s).trans (.onRc _ _)

/-- Every step keeps every invariant, but that a command may take the site out of STAGING. -/
theorem step_keeps {s t : State} (hm : m.site = false) (h : step s = .next t) : Keeps m s t := by
  unfold step at h
  split at h
  · cases h
    exact tick_keeps s
  · next c l _ =>
    exact .trans (t := { s with pending := l }) (.frame rfl rfl rfl rfl rfl rfl rfl fun _ => rfl)
      (exec_keeps c _ t h fun e => nomatch hm.symm.trans e)

/-- Every command leaves the part in a next state. -/
theorem exec_next (i : Instr) (s : State) : ∃ t, exec i s = .next t := by
  cases i <;> exact ⟨_, rfl⟩

/-- Every part's invariants hold at the ends of a step. -/
def Scope.all : Scope := { share := true, owners := true, link := true, timing := true, site := false }

/-! ## The base capacity -/

theorem leastCap_le (cfg : Settings) (n : Nat) (o : Option (Fin 8)) : leastCap cfg n o ≤ n := by
  cases o with
  | none => exact Nat.le_refl _
  | some p => exact Nat.min_le_left _ _

theorem leastCap_some_le (cfg : Settings) (n : Nat) (p : Fin 8) : leastCap cfg n (some p) ≤ capOf cfg p :=
  Nat.min_le_right _ _

theorem leastCap_cases (cfg : Settings) (n : Nat) (o : Option (Fin 8)) :
    leastCap cfg n o = n ∨ ∃ p, o = some p ∧ leastCap cfg n o = capOf cfg p := by
  cases o with
  | none => exact .inl rfl
  | some p =>
    rcases Nat.le_total n (capOf cfg p) with h | h
    · exact .inl (Nat.min_eq_left h)
    · exact .inr ⟨p, rfl, Nat.min_eq_right h⟩

theorem baseOf_not_carries (cfg : Settings) {k : Link} (h : k.state.carries = false) : baseOf cfg k = 0 := by
  unfold baseOf
  rw [h]

theorem baseOf_unconfirmed (cfg : Settings) {k : Link} (h : k.confirmed = none) : baseOf cfg k = 0 := by
  unfold baseOf
  rw [h]
  cases k.state.carries <;> rfl

theorem baseOf_carries (cfg : Settings) {k : Link} {c : Fin 8} (h : k.state.carries = true) (hc : k.confirmed = some c) :
    baseOf cfg k = leastCap cfg (leastCap cfg (capOf cfg c) k.pending) k.guard := by
  unfold baseOf
  rw [h, hc]

end Sys2Proof.Machine
end

section
/-! SUPPORT. The statements about what every step keeps. -/

open Sys2Proof Sys2Proof.Machine

/-- Settles O1. -/
theorem stepTakesFrontCommand : Obligations.StepTakesFrontCommand := by
  intro s c l h
  unfold step
  rw [h]

/-- Settles O3. -/
theorem everyStepAnswersNext : Obligations.EveryStepAnswersNext := by
  intro s
  unfold step
  split
  · exact ⟨_, rfl⟩
  · next c l _ => exact exec_next c _

theorem reset_port (p : Port) : (State.reset.port p).access = .opened ∧ (State.reset.port p).mismatches = 0
    ∧ (State.reset.port p).rxq = [] := by
  cases p <;> exact ⟨rfl, rfl, rfl⟩

/-- Settles O4. -/
theorem resetValues : Obligations.ResetValues := by
  refine ⟨?_, ?_, ?_, ?_, ?_, ?_, ?_, ?_, ?_, ?_, ?_, ?_, ?_, ?_, ?_, ?_, ?_, ?_, ?_, ?_, ?_, ?_, ?_,
    fun l => replicate_get false l, ?_, ?_, ?_, ?_, reset_port, ?_, ?_, ?_, ?_⟩
  all_goals exact rfl

/-- Settles O5. -/
theorem resetSatisfiesInvariants : Obligations.ResetSatisfiesInvariants := by
  refine ⟨fun p => ?_, .idle replicate_idle fun l => replicate_get false l, 
    ⟨factory_lines, factory_lines, fun _ hw => absurd hw (Option.some_ne_none _).symm⟩,
    .idle replicate_idle rfl, rfl, fun i hi => absurd hi (Option.some_ne_none i).symm,
    fun _ _ => nofun⟩
  cases p <;> exact ⟨by decide, by decide⟩

/-- Settles O6. -/
theorem stepKeepsQueuesBounded : Obligations.StepKeepsQueuesBounded :=
  fun _ _ h e => (step_keeps (m := .all) rfl e).queues h

/-- Settles O7. -/
theorem stepKeepsPermitsAgree : Obligations.StepKeepsPermitsAgree :=
  fun _ _ h e => (step_keeps (m := .all) rfl e).permits rfl h

/-- Settles O21. -/
theorem baseIsLeastCapacity : Obligations.BaseIsLeastCapacity := by
  refine ⟨fun cfg k => ⟨fun hu hf => ?_, baseOf_unconfirmed cfg, fun c hs hc => ?_⟩,
    fun _ _ h e => (step_keeps (m := .all) rfl e).base rfl h, fun _ _ h e => (step_keeps (m := .all) rfl e).selection rfl h⟩
  · refine baseOf_not_carries cfg ?_
    cases hk : k.state <;> first | rfl | exact absurd hk hu | exact absurd hk hf
  · have hk : k.state.carries = true := by rcases hs with h | h <;> rw [h] <;> rfl
    rw [baseOf_carries cfg hk hc]
    refine ⟨(leastCap_le _ _ _).trans (leastCap_le _ _ _), fun p hp => ?_, fun g hg => ?_, ?_⟩
    · rw [hp]
      exact (leastCap_le _ _ _).trans (leastCap_some_le _ _ _)
    · rw [hg]
      exact leastCap_some_le _ _ _
    · rcases leastCap_cases cfg (leastCap cfg (capOf cfg c) k.pending) k.guard with h | ⟨g, hg, h⟩ <;> rw [h]
      · rcases leastCap_cases cfg (capOf cfg c) k.pending with h | ⟨p, hp, h⟩ <;> rw [h]
        · exact .inl rfl
        · exact .inr (.inl ⟨p, hp, rfl⟩)
      · exact .inr (.inr ⟨g, hg, rfl⟩)

/-- Settles O35. -/
theorem resharePermitsAgree : Obligations.ResharePermitsAgree := by
  refine ⟨fun s before named fr => ?_, fun _ _ h e => (step_keeps (m := .all) rfl e).shares rfl h⟩
  refine ⟨reshare_permitsAgree s before named fr, ?_, ?_, fun k => reshare_grantsTotal s before named fr k,
    fun k hk => reshare_ceiling s before named fr hk, fun hd hu => reshare_sound s before named fr ⟨hd, hu⟩⟩
  · rw [reshare_pool, reshare_borrow]
    unfold poolAfter
    cases (borrowAfter s fr).1 <;> rfl
  · exact reshare_admitted_sum s before named fr

/-- Settles O39. -/
theorem carrierDefineKeepsLinesApart : Obligations.CarrierDefineKeepsLinesApart := by
  refine ⟨fun s c a h => ?_, fun _ _ h e => (step_keeps (m := .all) rfl e).lines h⟩
  rcases handleCarrierDefine_cases s c a with hs | ⟨x, o, hs, ho⟩ <;> rw [hs]
  · exact h
  · unfold putCarrier shareInput
    rw [(reshare_shareOnly _ _ _ _).cfg]
    exact h.set x o ho

end

section
/-! SUPPORT. Frames of requests: the answer of a request row, and updates of one block before and after notices. -/

namespace Sys2Proof.Machine

/-! ## Answers -/

theorem answers {s t : State} {rq : Req} {n : Need} {f : State → State × Reply} {r : Reply} (h : Executes s rq n)
    (e : f (portLine s rq.port) = (t, r)) :
    (.next (requestRow rq (answer rq n f) s) : Result) = .next (answered t rq r) := by
  rw [requestRow_answers h e]

/-- The same, where the reply is OK with some list of fields. -/
theorem answersOk {s t : State} {rq : Req} {n : Need} {f : State → State × Reply} (h : Executes s rq n)
    (e : ∃ l, f (portLine s rq.port) = (t, .ok l [])) :
    ∃ l, (.next (requestRow rq (answer rq n f) s) : Result) = .next (answered t rq (.ok l [])) :=
  e.imp fun _ e => answers h e

/-- The answer in terms of the state `u` that the line event leaves. -/
theorem answersAt {s t u : State} {rq : Req} {n : Need} {f : State → State × Reply} {r : Reply}
    (hu : portLine s rq.port = u) (h : Executes s rq n) (e : f u = (t, r)) :
    (.next (requestRow rq (answer rq n f) s) : Result) = .next (answered t rq r) := answers h (hu ▸ e)

theorem answersOkAt {s t u : State} {rq : Req} {n : Need} {f : State → State × Reply} (hu : portLine s rq.port = u)
    (h : Executes s rq n) (e : ∃ l, f u = (t, .ok l [])) :
    ∃ l, (.next (requestRow rq (answer rq n f) s) : Result) = .next (answered t rq (.ok l [])) := answersOk h (hu ▸ e)

theorem answers_noLevel {s : State} {rq : Req} {n : Need} {f : State → State × Reply} (h : Takes s rq)
    (k : n.met (portLine s rq.port) rq.port = false) :
    (.next (requestRow rq (answer rq n f) s) : Result) = .next (answered (portLine s rq.port) rq (.no .noLevel)) := by
  rw [requestRow_noLevel _ _ _ _ h k]

theorem lives {f : State → State} {s t : State} (h : s.run = .running) (e : f s = t) :
    (.next (live f s) : Result) = .next (settle t) := by
  rw [live_result h e]

/-! ## What notices leave -/

section
variable {s t : State} (h : Noticed s t)
include h

theorem Noticed.run : t.run = s.run := PortsOnly.run h.1.1
theorem Noticed.cfg : t.cfg = s.cfg := PortsOnly.cfg h.1.1
theorem Noticed.level : t.level = s.level := PortsOnly.level h.1.1
theorem Noticed.link : t.link = s.link := PortsOnly.link h.1.1
theorem Noticed.bus : t.bus = s.bus := PortsOnly.bus h.1.1
theorem Noticed.clock : t.clock = s.clock := PortsOnly.clock h.1.1
theorem Noticed.timing : t.timing = s.timing := PortsOnly.timing h.1.1
theorem Noticed.share : t.share = s.share := PortsOnly.share h.1.1
theorem Noticed.tests : t.tests = s.tests := PortsOnly.tests h.1.1
theorem Noticed.site : t.site = s.site := PortsOnly.site h.1.1
theorem Noticed.store : t.store = s.store := PortsOnly.store h.1.1
theorem Noticed.rc : t.rc = s.rc := PortsOnly.rc h.1.1
theorem Noticed.free : t.free = s.free := PortsOnly.free h.1.1
theorem Noticed.signals : t.signals = s.signals := PortsOnly.signals h.1.1
theorem Noticed.pending : t.pending = s.pending := PortsOnly.pending h.1.1

end

/-! ## Updates of one block after notices -/

section
variable {s t : State} (h : Noticed s t)
include h

theorem Noticed.onLevel (f : Level → Level) : Noticed (s.onLevel f) (t.onLevel f) :=
  ⟨⟨by conv_lhs => rw [h.1.1]
       rfl, h.1.2⟩, h.2⟩

theorem Noticed.onLink (f : Link → Link) : Noticed (s.onLink f) (t.onLink f) :=
  ⟨⟨by conv_lhs => rw [h.1.1]
       rfl, h.1.2⟩, h.2⟩

theorem Noticed.onBus (f : Bus → Bus) : Noticed (s.onBus f) (t.onBus f) :=
  ⟨⟨by conv_lhs => rw [h.1.1]
       rfl, h.1.2⟩, h.2⟩

theorem Noticed.onClock (f : Clock → Clock) : Noticed (s.onClock f) (t.onClock f) :=
  ⟨⟨by conv_lhs => rw [h.1.1]
       rfl, h.1.2⟩, h.2⟩

theorem Noticed.onTiming (f : Timing → Timing) : Noticed (s.onTiming f) (t.onTiming f) :=
  ⟨⟨by conv_lhs => rw [h.1.1]
       rfl, h.1.2⟩, h.2⟩

theorem Noticed.onTests (f : Tests → Tests) : Noticed (s.onTests f) (t.onTests f) :=
  ⟨⟨by conv_lhs => rw [h.1.1]
       rfl, h.1.2⟩, h.2⟩

theorem Noticed.onSite (f : Site → Site) : Noticed (s.onSite f) (t.onSite f) :=
  ⟨⟨by conv_lhs => rw [h.1.1]
       rfl, h.1.2⟩, h.2⟩

theorem Noticed.onStore (f : Store → Store) : Noticed (s.onStore f) (t.onStore f) :=
  ⟨⟨by conv_lhs => rw [h.1.1]
       rfl, h.1.2⟩, h.2⟩

theorem Noticed.settings (f : Settings → Settings) : Noticed (s.settings f) (t.settings f) :=
  ⟨⟨by conv_lhs => rw [h.1.1]
       rfl, h.1.2⟩, h.2⟩

/-- Counting of anything but dropped notices. -/
theorem Noticed.counting (f : Counters → Counters)
    (hf : ∀ c n, f { c with noticeDrops := n } = { f c with noticeDrops := n }) :
    Noticed (s.counting f) (t.counting f) := by
  have e : f t.counts = { f s.counts with noticeDrops := t.counts.noticeDrops } := by
    rw [show t.counts = { s.counts with noticeDrops := t.counts.noticeDrops } from PortsOnly.counts h.1.1]
    exact hf _ _
  have hc : ∀ c : Counters, ({ t with counts := c } : State) = { s with ports := t.ports, counts := c } := fun c => by
    conv_lhs => rw [h.1.1]
  refine ⟨⟨(hc (f t.counts)).trans ?_, h.1.2⟩, h.2⟩
  rw [e]
  show _ = { s with ports := t.ports
                    counts := { f s.counts with noticeDrops := (f t.counts).noticeDrops } }
  rw [e]

end

/-! ## After reshares -/

section
variable {u t : State} (h : AfterReshares u t)
include h

theorem AfterReshares.run : t.run = u.run := by rw [h.1]
theorem AfterReshares.cfg : t.cfg = u.cfg := by rw [h.1]
theorem AfterReshares.level : t.level = u.level := by rw [h.1]
theorem AfterReshares.link : t.link = u.link := by rw [h.1]
theorem AfterReshares.bus : t.bus = u.bus := by rw [h.1]
theorem AfterReshares.timing : t.timing = u.timing := by rw [h.1]
theorem AfterReshares.tests : t.tests = u.tests := by rw [h.1]
theorem AfterReshares.site : t.site = u.site := by rw [h.1]
theorem AfterReshares.store : t.store = u.store := by rw [h.1]
theorem AfterReshares.clock : t.clock = { u.clock with permitted := t.clock.permitted } := by conv_lhs => rw [h.1]
theorem AfterReshares.counts :
    t.counts =
      { u.counts with noticeDrops := t.counts.noticeDrops, reshares := t.counts.reshares, sheds := t.counts.sheds } := by
  conv_lhs => rw [h.1]

end

section
variable {s t : State} (h : Shared s t)
include h

theorem Shared.onLevel (f : Level → Level) : Shared (s.onLevel f) (t.onLevel f) :=
  ⟨⟨by conv_lhs => rw [h.1.1]
       rfl, h.1.2⟩, h.2⟩

theorem Shared.onLink (f : Link → Link) : Shared (s.onLink f) (t.onLink f) :=
  ⟨⟨by conv_lhs => rw [h.1.1]
       rfl, h.1.2⟩, h.2⟩

theorem Shared.onBus (f : Bus → Bus) : Shared (s.onBus f) (t.onBus f) :=
  ⟨⟨by conv_lhs => rw [h.1.1]
       rfl, h.1.2⟩, h.2⟩

theorem Shared.onTiming (f : Timing → Timing) : Shared (s.onTiming f) (t.onTiming f) :=
  ⟨⟨by conv_lhs => rw [h.1.1]
       rfl, h.1.2⟩, h.2⟩

theorem Shared.onTests (f : Tests → Tests) : Shared (s.onTests f) (t.onTests f) :=
  ⟨⟨by conv_lhs => rw [h.1.1]
       rfl, h.1.2⟩, h.2⟩

theorem Shared.onSite (f : Site → Site) : Shared (s.onSite f) (t.onSite f) :=
  ⟨⟨by conv_lhs => rw [h.1.1]
       rfl, h.1.2⟩, h.2⟩

theorem Shared.settings (f : Settings → Settings) : Shared (s.settings f) (t.settings f) :=
  ⟨⟨by conv_lhs => rw [h.1.1]
       rfl, h.1.2⟩, h.2⟩

end

theorem Noticed.congr {s t u v : State} (h : Noticed s t) (e : u = s) (k : v = t) : Noticed u v :=
  e ▸ k ▸ h

end Sys2Proof.Machine
end

section
/-! SUPPORT. The level monitor's requests, case by case. -/

namespace Sys2Proof.Machine

/-! ## What each request makes of the alignment record -/

theorem beginAlign_noticed (s : State) (o : Owner) (n : Nat) :
    Noticed
      { s with
        level := { s.level with align := some (newAlign o s.now n), indicator := 0
                                density := densityOf s.level.outPolarity 0 }
        signals := s.signals ++ [.alignStart] } (beginAlign s o n) := by
  unfold beginAlign
  dsimp only
  exact (noticeBoth_noticed _ _ _ _).push _

theorem endAlign_noticed (s : State) (c : String) :
    Noticed
      { s with
        level := { s.level with align := none, indicator := 0, density := densityOf s.level.outPolarity 0 }
        signals := s.signals ++ [.alignEnd] } (endAlign s c) := by
  unfold endAlign
  dsimp only
  exact (noticeBoth_noticed _ _ _ _).push _

theorem passAlign_noticed (s : State) (a : AlignRec) :
    Noticed { s with level := { s.level with align := some a } } (passAlign s a) := noticeBoth_noticed _ _ _ _

section
variable {s : State} {p : Port} {k : Option Int}

theorem handleAlignStart_staged (hk : inRange 1 50 k = true) (hp : s.site.phase ≠ .staging) :
    handleAlignStart s p k = (s, .no .noPhase) := by
  simp [handleAlignStart, hk, hp]

theorem handleAlignStart_none (hk : inRange 1 50 k = true) (hp : s.site.phase = .staging) (ha : s.level.align = none) :
    handleAlignStart s p k
      = (beginAlign s (.port p) (natOr 2 k), alignReply (newAlign (.port p) s.now (natOr 2 k))) := by
  simp [handleAlignStart, hk, hp, ha]

theorem handleAlignStart_mast {a : AlignRec} (hk : inRange 1 50 k = true) (hp : s.site.phase = .staging)
    (ha : s.level.align = some a) (ho : a.owner = .mast) :
    handleAlignStart s p k =
      (let b := { a with owner := .port p, mastFlag := true, interval := natOr a.interval k
                         toNext := natOr a.interval k }
       (passAlign s b, alignReply b)) := by
  simp [handleAlignStart, hk, hp, ha, ho]

theorem handleAlignStart_own {a : AlignRec} (hk : inRange 1 50 k = true) (hp : s.site.phase = .staging)
    (ha : s.level.align = some a) (ho : a.owner = .port p) :
    handleAlignStart s p k =
      (let b := { a with interval := natOr a.interval k, toNext := natOr a.toNext k }
       (s.onLevel fun v => { v with align := some b }, alignReply b)) := by
  cases a
  cases ho
  cases k <;> simp [handleAlignStart, hk, hp, ha, natOr]

theorem handleAlignStart_other {a : AlignRec} {q : Port} (hk : inRange 1 50 k = true) (hp : s.site.phase = .staging)
    (ha : s.level.align = some a) (ho : a.owner = .port q) (hq : q ≠ p) :
    handleAlignStart s p k = (s, .no .noOwned) := by
  simp [handleAlignStart, hk, hp, ha, ho, hq]

theorem handleAlignMark_own {a : AlignRec} (ha : s.level.align = some a) (ho : a.owner = .port p) :
    handleAlignMark s p =
      (let b := { a with peak := a.current.map fun l => (l, s.now), reports := 0 }
       (s.onLevel fun v => { v with align := some b }, .ok [kv "peak" (.optInt (peakLevel b))] [])) := by
  simp [handleAlignMark, ha, ho]

theorem handleAlignStop_end {a : AlignRec} (ha : s.level.align = some a) (ho : a.owner = .port p)
    (hm : a.mastFlag = false) : handleAlignStop s p = (endAlign s "STOP", .ok [kv "owner" .absent] []) := by
  simp [handleAlignStop, ha, ho, hm]

theorem handleAlignStop_pass {a : AlignRec} (ha : s.level.align = some a) (ho : a.owner = .port p)
    (hm : a.mastFlag = true) :
    handleAlignStop s p = (passAlign s (toMast a), .ok [kv "owner" (.word Owner.mast.word)] []) := by
  simp [handleAlignStop, ha, ho, hm]

end
end Sys2Proof.Machine
end

section
/-! SUPPORT. The statements about the level monitor's requests. -/

open Sys2Proof Sys2Proof.Machine

/-- Settles O14. -/
theorem levelReadsReply : Obligations.LevelReadsReply := by
  intro s rq start n ht hx
  refine ⟨fun hv => answers ⟨ht, hx, hv⟩ rfl, fun hv hs hn => answers ⟨ht, hx, hv⟩ ?_,
    fun hv hn => answers ⟨ht, hx, hv⟩ ?_, fun hv => ⟨answers_noLevel ht hv, answers_noLevel ht hv⟩⟩
  · simp [handleLevelHistory, hs, hn]
  · rcases hn with hn | hn <;> simp [handleLevelHistory, hn]

/-- Settles O15. -/
theorem levelSettingsSet : Obligations.LevelSettingsSet := by
  intro s rq h
  refine ⟨fun a r hr hc hf ho => answersOk h (f := fun s => handleLevelCal s a) ?_,
    fun a hr hc hf hx hm => answersOk h (f := fun s => handleLevelCal s a) ?_,
    fun a hs hf hn hp => answersOk h (f := fun s => handleIndicatorSet s a) ?_⟩
  · constructor
    simp only [handleLevelCal, hr, hc, hf, ho, Bool.not_true, Bool.or_self, Bool.false_eq_true, if_false]
    rfl
  · constructor
    simp only [handleLevelCal, hr, hc, hf, hx, hm, Bool.not_true, Bool.or_self, Bool.false_eq_true, if_false]
    rfl
  · have hno : (a.floor.isNone && a.span.isNone && a.polarity.isNone) = false := by
      revert hs
      cases a.floor <;> cases a.span <;> cases a.polarity <;> simp
    constructor
    simp only [handleIndicatorSet, hno, hf, hn, hp, Bool.not_true, Bool.or_self, Bool.false_eq_true, if_false]
    rfl

/-- Settles O16. -/
theorem alignmentRequests : Obligations.AlignmentRequests := by
  intro s rq k h
  refine ⟨fun hk hp => ⟨fun ha => ?_, fun a ha ho => ?_, fun a ha ho => ?_, fun a p ha ho hq => ?_⟩,
    fun hk hp => ?_, fun a ha ho => ⟨?_, fun hm => ?_, fun hm => ?_⟩⟩
  · exact ⟨_, _, answers h (handleAlignStart_none hk hp ha), (beginAlign_noticed _ _ _).1⟩
  · exact ⟨_, _, answers h (handleAlignStart_mast hk hp ha ho), (passAlign_noticed _ _).1⟩
  · exact ⟨_, answers h (handleAlignStart_own hk hp ha ho)⟩
  · exact answers h (handleAlignStart_other hk hp ha ho hq)
  · exact answers h (handleAlignStart_staged hk hp)
  · exact ⟨_, answers h (handleAlignMark_own ha ho)⟩
  · exact ⟨_, _, answers h (handleAlignStop_end ha ho hm), (endAlign_noticed _ _).1⟩
  · exact ⟨_, _, answers h (handleAlignStop_pass ha ho hm), (passAlign_noticed _ _).1⟩

end

section
/-! SUPPORT. The link supervisor's events and requests, case by case, and what they leave but for reshares. -/

namespace Sys2Proof.Machine

/-! ## The internal slot -/

theorem offerInternal_free {s : State} (h : s.bus.internalSlot = none) (x : Txn) :
    offerInternal s x = ((s.onBus fun b => { b with internalSlot := some x }).push .busChoose, true) := by
  unfold offerInternal
  rw [h]

theorem offerInternal_full {s : State} {y : Txn} (h : s.bus.internalSlot = some y) (x : Txn) :
    offerInternal s x = (s.onBus fun b =>
      { b with noteLink := b.noteLink || x.requester == .link, noteTest := b.noteTest || x.requester == .test },
      false) := by
  unfold offerInternal
  rw [h]

/-! ## The end of an event -/

/-- The base that an event of the link supervisor leaves is computed from the other items. -/
theorem Shared.commit {v u : State} (h : Shared v u) (old : Link) (c : String) :
    Shared (v.onLink fun k => { k with base := baseOf v.cfg k }) (linkCommit u old c) := by
  have e : Shared (v.onLink fun k => { k with base := baseOf v.cfg k }) (u.onLink fun k => { k with base := baseOf u.cfg k }) := by
    rw [show u.cfg = v.cfg from h.1.cfg]
    exact h.onLink _
  exact e.trans (linkCommit_shared u old c)

theorem linkCommit_ends {v u : State} (h : Shared v u) (old : Link) (c : String) :
    AfterReshares { v with link := { v.link with base := (linkCommit u old c).link.base } } (linkCommit u old c)
      ∧ (linkCommit u old c).link.base = baseOf v.cfg (linkCommit u old c).link := by
  have k := (h.commit old c).1
  have hb : (linkCommit u old c).link.base = baseOf v.cfg v.link := by rw [k.link]; rfl
  exact ⟨by rw [hb]; exact k, by rw [hb, k.link]; rfl⟩

/-- A link that carries nothing has base 0. -/
theorem Shared.commit_down {v u : State} (h : Shared v u) (hd : v.link.state.carries = false) (old : Link) (c : String) :
    Shared (v.onLink fun k => { k with base := 0 }) (linkCommit u old c) := by
  have k := h.commit old c
  unfold State.onLink at k ⊢
  dsimp only at k ⊢
  rw [baseOf_not_carries v.cfg hd] at k
  exact k

theorem oduFault_noticed (s : State) (p t : Val) (st : Option BusStatus) :
    Noticed (s.counting fun c => { c with oduFaults := bump c.oduFaults }) (oduFault s p t st) :=
  (setFlagBoth_noticed _ _).trans (noticeBoth_noticed _ _ _ _)

/-! ## The init sequence -/

theorem offerInit_free {s : State} {w : InitWrite} (hi : s.link.init = some w) (hd : s.link.discardInit = false)
    (hs : s.bus.internalSlot = none) :
    offerInit s = ((s.onBus fun b => { b with internalSlot := some (initTxn s.cfg w) }).push .busChoose).onLink fun k =>
      { k with init := some { w with place := .offered, formed := some (initForm s.cfg w) } } := by
  unfold offerInit
  rw [hi]
  simp only [hd, offerInternal_free hs]
  rfl

/-- Handing over a write of the sequence, or keeping it back, changes the sequence, the internal slot and its note. -/
theorem offerInit_shared (s : State) : ∃ w n i,
    Shared { s with link := { s.link with init := w }, bus := { s.bus with internalSlot := i, noteLink := n } }
        (offerInit s) ∧ (s.link.init.isSome → w.isSome = true) := by
  unfold offerInit
  split
  · next h => exact ⟨none, s.bus.noteLink, s.bus.internalSlot, by rw [← h]; exact .refl _, fun k => by rw [h] at k; cases k⟩
  · next w h =>
    split
    · exact ⟨some { w with place := .keptBack }, s.bus.noteLink, s.bus.internalSlot, .refl _, fun _ => rfl⟩
    · cases hs : s.bus.internalSlot with
      | none =>
        rw [offerInternal_free hs]
        refine ⟨some { w with place := .offered, formed := some (initForm s.cfg w) }, s.bus.noteLink,
          some (initTxn s.cfg w), ?_, fun _ => rfl⟩
        exact Shared.push ((s.onBus fun b => { b with internalSlot := some (initTxn s.cfg w) }).onLink fun k =>
          { k with init := some { w with place := .offered, formed := some (initForm s.cfg w) } }) .busChoose
      | some y =>
        rw [offerInternal_full hs]
        refine ⟨some { w with place := .keptBack }, true, some y, ?_, fun _ => rfl⟩
        have e : (s.bus.noteTest || (initTxn s.cfg w).requester == .test) = s.bus.noteTest := Bool.or_false _
        have e' : (s.bus.noteLink || (initTxn s.cfg w).requester == .link) = true := Bool.or_true _
        dsimp only [State.onBus, State.onLink]
        rw [e, e', ← hs]
        exact .refl _

/-- Ending the sequence early changes what the internal slot and the sequence hold. -/
theorem endInitEarly_shared (s : State) : ∃ d i n m,
    Shared { s with link := { s.link with init := none, discardInit := d }
                    bus := { s.bus with internalSlot := i, noteLink := n, noteTest := m } } (endInitEarly s) := by
  have hw : ∀ (t : State) (who : Requester), ∃ i n m,
      Shared { t with bus := { t.bus with internalSlot := i, noteLink := n, noteTest := m } } (withdrawInternal t who) := by
    intro t who
    unfold withdrawInternal
    split
    · exact ⟨t.bus.internalSlot, t.bus.noteLink, t.bus.noteTest, .refl _⟩
    · split
      · refine ⟨none, false, false, ?_⟩
        have hp : ∀ (v : State) (c : Bool) (g : Signal), Shared v (if c then v.push g else v) := by
          intro v c g
          split
          · exact .push _ _
          · exact .refl _
        unfold internalEmptied
        exact ((hp _ _ _).trans (hp _ _ _)).onBus fun b => { b with noteLink := false, noteTest := false }
      · exact ⟨t.bus.internalSlot, t.bus.noteLink, t.bus.noteTest, .refl _⟩
  unfold endInitEarly
  split
  · next h => exact ⟨s.link.discardInit, s.bus.internalSlot, s.bus.noteLink, s.bus.noteTest, by rw [← h]; exact .refl _⟩
  · dsimp only
    obtain ⟨i, n, m, h⟩ := hw (s.onLink fun k => { k with init := none, discardInit := _ }) .link
    exact ⟨_, i, n, m, h⟩

theorem bringUpState_down (k : Link) : (bringUpState k).carries = false := by
  unfold bringUpState
  split <;> rfl

/-- The state in which a start hands its first write over. -/
def linkStarting (s : State) : State :=
  (s.onLink fun k => { k with state := bringUpState k, restoreTimer := none }).onLink fun k =>
    { k with init := some (newInit false) }

theorem linkStart_eq (s : State) (c : String) : linkStart s c = linkCommit (offerInit (linkStarting s)) s.link c := rfl

theorem linkStart_shared (s : State) (c : String) : ∃ w n i,
    Shared
        { s with
          link := { s.link with state := bringUpState s.link, restoreTimer := none, init := w, base := 0 }
          bus := { s.bus with internalSlot := i, noteLink := n } } (linkStart s c) ∧ w.isSome = true := by
  rw [linkStart_eq]
  obtain ⟨w, n, i, h, hw⟩ := offerInit_shared (linkStarting s)
  exact ⟨w, n, i, h.commit_down (bringUpState_down _) _ _, hw rfl⟩

/-- With a free slot and no write of a former sequence to discard, the LOOPOFF write is handed over at once. -/
theorem linkStart_free {s : State} (hd : s.link.discardInit = false) (hs : s.bus.internalSlot = none) (c : String) :
    (linkStart s c).link.init = some
        { second := false, attempt := 1, place := .offered
          formed := some (s.cfg.templates.loopOff.addr, s.cfg.templates.loopOff.bytes) }
      ∧ (linkStart s c).bus.internalSlot = some (linkTxn .init none 1 false s.cfg.templates.loopOff.addr
          s.cfg.templates.loopOff.bytes) := by
  have h := (linkCommit_shared (offerInit (linkStarting s)) s.link c).1
  rw [linkStart_eq, h.link, h.bus, offerInit_free (s := linkStarting s) (w := newInit false) rfl hd hs]
  exact ⟨rfl, rfl⟩

theorem linkStop_shared (s : State) : ∃ d i n m,
    Shared
        { s with
          link := { s.link with
            state := .off, base := 0, confirmed := none, pending := none, guard := none, fadeTimer := none
            restoreTimer := none, upshiftTimer := none, restoreDue := false, unbroken := false, init := none
            discardInit := d, discardProfile := profileInProgress s }
          bus := { s.bus with profileSlot := none, internalSlot := i, noteLink := n, noteTest := m } } (linkStop s) := by
  obtain ⟨d, i, n, m, h⟩ := endInitEarly_shared (s.onLink fun k => { k.stopTimers with state := .off })
  have k := (h.onBus fun b => { b with profileSlot := none }).onLink fun k =>
    { k with discardProfile := profileInProgress s, confirmed := none, pending := none, guard := none }
  exact ⟨d, i, n, m, k.commit_down rfl s.link "STOP"⟩

theorem handleLinkStart_starts {s : State} (ho : s.link.state = .off) :
    handleLinkStart s = (linkStart s "START", .ok [kv "state" (.word (linkStart s "START").link.state.word)] []) := by
  unfold handleLinkStart
  rw [if_pos ho]

theorem handleLinkStop_claimed {s : State} (ht : s.link.state = .test) : handleLinkStop s = (s, .no .noBusy) := by
  unfold handleLinkStop
  rw [ht]

theorem handleLinkStop_stops {s : State} (ho : s.link.state ≠ .off) (ht : s.link.state ≠ .test) :
    handleLinkStop s = (linkStop s, .ok [kv "state" (.word LinkState.off.word)] []) := by
  unfold handleLinkStop
  split
  · next h => exact absurd h ht
  · next h => exact absurd h ho
  · rfl

/-! ## The settings -/

theorem intOr_eq (x : Int) (o : Option Int) : intOr x o = o.getD x := by cases o <;> rfl

theorem boolOr_eq (x : Bool) (o : Option Bool) : boolOr x o = o.getD x := by cases o <;> rfl

theorem Profile.with_eq (r : Profile) (a : ProfileArgs) : r.with a =
    { enabled := a.enabled.getD r.enabled, cap := natOr r.cap a.cap, up := a.up.getD r.up, down := a.down.getD r.down
      code := (a.code.map fun i => BitVec.ofNat 8 i.toNat).getD r.code } := by
  unfold Profile.with
  rw [boolOr_eq, intOr_eq, intOr_eq]
  cases a.code <;> rfl

theorem LinkSettings.with_eq (k : LinkSettings) (a : LinkSetArgs) : k.with a =
    { high := a.high.getD k.high, low := a.low.getD k.low, fade := natOr k.fade a.fade
      restore := natOr k.restore a.restore, upshift := natOr k.upshift a.upshift
      reserve := natOr k.reserve a.reserve, autostart := nameOr k.autostart a.autostart } := by
  unfold LinkSettings.with
  rw [intOr_eq, intOr_eq]

section
variable {s : State}

theorem handleProfileSet_ok {p : Fin 8} {a : ProfileArgs}
    (hs : s.link.state = .off ∨ s.link.state = .acquire ∨ s.link.state = .align) (ha : profileArgsOk p a = true)
    (ht : tableOk (s.cfg.profiles.set p ((s.cfg.profiles.get p).with a)) = true) :
    ∃ l, handleProfileSet s (some p.val) a =
      (s.settings fun cfg => { cfg with profiles := s.cfg.profiles.set p ((s.cfg.profiles.get p).with a) }, .ok l []) := by
  have hn : ¬(s.link.state = .up ∨ s.link.state = .fade ∨ s.link.state = .lost ∨ s.link.state = .test) := by
    rcases hs with h | h | h <;> simp [h]
  constructor
  unfold handleProfileSet
  rw [if_neg hn, indexOf_val]
  simp only [ha, ht, Bool.not_true, Bool.or_self, Bool.false_eq_true, if_false]
  rfl

theorem handleTemplateSet_ok {n : TemplateName} {a : TemplateArgs} (hs : s.link.state = .off)
    (ht : templateOk n a ((s.cfg.templates.get n).with a) = true) :
    ∃ l, handleTemplateSet s (some (.known n)) a =
      (s.settings fun cfg => { cfg with templates := cfg.templates.put n ((s.cfg.templates.get n).with a) }, .ok l []) := by
  constructor
  unfold handleTemplateSet
  rw [if_neg (not_not_intro hs)]
  simp only [nameOf, ht, Bool.not_true, Bool.false_eq_true, if_false]
  rfl

/-- LINK SET sets what it carries; a new reserve goes to the share engine. -/
theorem handleLinkSet_ok {a : LinkSetArgs} (ha : linkArgsOk a = true)
    (hk : (s.cfg.link.with a).low < (s.cfg.link.with a).high)
    (hs : (s.link.state = .off ∨ s.link.state = .acquire ∨ s.link.state = .align)
      ∨ a.high = none ∧ a.low = none ∧ a.fade = none) :
    let v := s.settings fun cfg => { cfg with link := s.cfg.link.with a }
    ∃ l, handleLinkSet s a =
      (if (s.cfg.link.with a).reserve = s.cfg.link.reserve then v
       else shareInput v fun h => { h with reserve := (s.cfg.link.with a).reserve }, .ok l []) := by
  have hn : ((a.high.isSome || a.low.isSome || a.fade.isSome)
      && (s.link.state.carries || s.link.state == .lost || s.link.state == .test)) = false := by
    rcases hs with (h | h | h) | ⟨h1, h2, h3⟩
    · simp [h, LinkState.carries]
    · simp [h, LinkState.carries]
    · simp [h, LinkState.carries]
    · simp [h1, h2, h3]
  constructor
  unfold handleLinkSet
  simp only [ha, decide_eq_false (Int.not_le.2 hk), hn, Bool.not_true, Bool.or_self, Bool.false_eq_true, if_false]
  rfl

end

end Sys2Proof.Machine
end

section
/-! SUPPORT. The statements about the link supervisor's requests. -/

open Sys2Proof Sys2Proof.Machine

/-- Settles O17. -/
theorem linkStartsAndStops : Obligations.LinkStartsAndStops := by
  intro s rq h u
  have hu : portLine s rq.port = u := rfl
  clear_value u
  refine ⟨fun ho => ?_, fun ho ht => ?_, fun ht => answersAt hu h (handleLinkStop_claimed ht)⟩
  · obtain ⟨w, n, i, k, hw⟩ := linkStart_shared u "START"
    have hi : (linkStart u "START").link.init = w := by rw [k.1.link]
    have hb : (linkStart u "START").bus = { u.bus with internalSlot := i, noteLink := n } := k.1.bus
    refine ⟨_, _, answersAt hu h (handleLinkStart_starts ho), ?_, by rw [hi]; exact hw, fun hd hs => ?_⟩
    · rw [hi, hb]
      exact k.1
    · exact linkStart_free hd hs "START"
  · obtain ⟨d, i, n, m, k⟩ := linkStop_shared u
    have hd : (linkStop u).link.discardInit = d := by rw [k.1.link]
    have hb : (linkStop u).bus =
      { u.bus with profileSlot := none, internalSlot := i, noteLink := n, noteTest := m } := k.1.bus
    refine ⟨_, _, answersAt hu h (handleLinkStop_stops ho ht), ?_⟩
    rw [hd, hb]
    exact k.1

/-- Settles O18. -/
theorem linkSettingsSet : Obligations.LinkSettingsSet := by
  intro s rq h u
  have hu : portLine s rq.port = u := rfl
  clear_value u
  refine ⟨fun p a hs ha ht => answersOkAt hu h ?_, fun n a hs ht => answersOkAt hu h (handleTemplateSet_ok hs ht), fun a ha => ?_⟩
  · rw [← Profile.with_eq] at ht ⊢
    exact handleProfileSet_ok hs ha ht
  intro old new hk hs v
  have en : u.cfg.link.with a = new := LinkSettings.with_eq _ _
  have e := handleLinkSet_ok (s := u) ha (by rw [en]; exact hk) (by tauto)
  dsimp only at e
  rw [en] at e
  refine ⟨fun hr => answersOkAt hu h ?_, fun hr => ?_⟩
  · rw [if_pos hr] at e
    exact e
  · rw [if_neg hr] at e
    obtain ⟨l, e⟩ := e
    refine ⟨_, l, answersAt hu h e, (shareInput_shared' v _).1, ?_, ?_⟩
    · unfold shareInput
      rw [reshare_share]
      rfl
    · unfold shareInput
      rw [reshare_counts]
      rfl

end

section
/-! SUPPORT. The link supervisor's timers and the completions of its writes. -/

namespace Sys2Proof.Machine

/-- What the entry into LOST sets before its notices. -/
def lostLink (k : Link) : Link :=
  { k with state := .lost, fadeTimer := none, restoreTimer := none, upshiftTimer := none }

theorem enterLost_noticed (s : State) :
    Noticed ((s.onLink lostLink).counting fun c => { c with linkLosses := bump c.linkLosses })
      (setFlagBoth ((s.onLink lostLink).counting fun c => { c with linkLosses := bump c.linkLosses }) .loss) :=
  setFlagBoth_noticed _ _

theorem enterLost_eq (s : State) (c : String) :
    enterLost s c = linkCommit
      (setFlagBoth ((s.onLink lostLink).counting fun c => { c with linkLosses := bump c.linkLosses }) .loss) s.link c := rfl

theorem enterLost_shared (s : State) (c : String) :
    Shared
      { s with
        link := { s.link with state := .lost, fadeTimer := none, restoreTimer := none, upshiftTimer := none, base := 0 }
        counts := { s.counts with linkLosses := bump s.counts.linkLosses } } (enterLost s c) := by
  rw [enterLost_eq]
  exact (enterLost_noticed s).shared.commit_down rfl _ _

theorem enterLost_shareBase (s : State) (c : String) :
    (enterLost s c).share.base = if s.link.base = 0 then s.share.base else 0 := by
  have hl := PortsOnly.link (enterLost_noticed s).1.1
  have hc := PortsOnly.cfg (enterLost_noticed s).1.1
  have hs := PortsOnly.share (enterLost_noticed s).1.1
  have h0 : baseOf s.cfg (lostLink s.link) = 0 := baseOf_not_carries _ rfl
  rw [enterLost_eq, linkCommit_base, hl, hc, hs]
  simp only [State.counting_cfg, State.counting_link, State.counting_share, State.onLink_cfg, State.onLink_link,
    State.onLink_share, h0, eq_comm]

theorem fadeExpired_fade {s : State} (hs : s.link.state = .fade) (ht : s.link.fadeTimer.isSome) :
    fadeExpired s = enterLost s "FADE_TIMER" := if_pos ⟨hs, ht⟩

/-! ## Writes that a timer issues -/

theorem restoreExpired_issues {s : State} (ht : s.link.restoreTimer.isSome) (hi : s.link.init = none) :
    restoreExpired s = linkCommit (issueConfirmation (s.onLink fun k => { k with restoreTimer := none })) s.link "RESTORE" := by
  unfold restoreExpired
  rw [if_pos ht]
  simp only [State.onLink_link, hi, Option.isSome_none, Bool.false_eq_true, if_false]

theorem restoreExpired_waits {s : State} (ht : s.link.restoreTimer.isSome) (hi : s.link.init.isSome) :
    restoreExpired s = { s with link := { s.link with restoreTimer := none, restoreDue := true } } := by
  unfold restoreExpired
  rw [if_pos ht]
  exact if_pos hi

theorem upshiftExpired_issues {s : State} {q : Fin 8} (hs : s.link.state = .up) (hp : s.link.pending = none)
    (hq : upCandidate s.cfg s.link = some q) (ht : s.link.upshiftTimer.isSome) :
    upshiftExpired s = linkCommit (issueProfile (s.onLink fun k => { k with upshiftTimer := none }) q false) s.link "RESTORE" := by
  unfold upshiftExpired
  rw [if_pos ht]
  simp only [hs, hp, hq]

theorem issueProfile_eq (s : State) (q : Fin 8) (c : Bool) :
    issueProfile s q c =
      { s with link := { s.link with pending := some q }
               bus := { s.bus with profileSlot := some (profileWrite s.cfg q c) }
               signals := s.signals ++ [.busChoose] } := rfl

theorem issueConfirmation_eq (s : State) :
    issueConfirmation s =
      { s with link := { s.link with pending := some 0, unbroken := true, restoreDue := false }
               bus := { s.bus with profileSlot := some (profileWrite s.cfg 0 true) }
               signals := s.signals ++ [.busChoose] } := rfl

/-! ## Completions of the init sequence -/

theorem linkCompleted_init {s : State} {x : Txn} (h : x.purpose = some .init) :
    linkCompleted s x = linkCommit (initCompleted s x) s.link "START" := by
  unfold linkCompleted
  rw [h]

/-- The fault of a write of the sequence that has failed for the last time. -/
def initFault (s : State) (x : Txn) (w : InitWrite) : State :=
  if x.status = some .ok then s else oduFault s (.word Purpose.init.word) (.word (initWriteName w)) x.status

/-- The state that differs from one after `initFault` by notices alone. -/
def initCounted (s : State) (x : Txn) : State :=
  s.counting fun c => { c with oduFaults := if x.status = some .ok then c.oduFaults else bump c.oduFaults }

theorem initFault_noticed (s : State) (x : Txn) (w : InitWrite) : Noticed (initCounted s x) (initFault s x w) := by
  unfold initCounted initFault
  by_cases h : x.status = some .ok
  · rw [if_pos h]
    simp only [if_pos h]
    exact .refl s
  · rw [if_neg h]
    simp only [if_neg h]
    exact oduFault_noticed _ _ _ _

section
variable {s : State} {x : Txn} {w : InitWrite} (hd : s.link.discardInit = false) (hi : s.link.init = some w)
include hd hi

theorem initCompleted_again (hf : x.status ≠ some .ok) (ha : w.attempt < 3) : initCompleted s x =
    offerInit (s.onLink fun k => { k with init := some { w with attempt := w.attempt + 1, place := .keptBack } }) := by
  unfold initCompleted
  simp only [hd, hi, hf, ha, if_true, if_false, Bool.false_eq_true]

theorem initCompleted_ended (hf : x.status ≠ some .ok → 3 ≤ w.attempt) :
    initCompleted s x = initEnded (initFault s x w) w := by
  unfold initCompleted initFault
  simp only [hd, hi, Bool.false_eq_true, if_false]
  by_cases h : x.status = some .ok
  · simp only [if_pos h]
  · simp only [if_neg h, if_neg (Nat.not_lt.2 (hf h))]

end

/-- After notices, a write of the sequence is handed over into a free slot. -/
theorem offerInit_handed {v u : State} {w : InitWrite} (h : Noticed v u) (hi : v.link.init = some w)
    (hd : v.link.discardInit = false) (hs : v.bus.internalSlot = none) :
    Shared ((v.onBus fun b => { b with internalSlot := some (initTxn v.cfg w) }).onLink fun k =>
      { k with init := some { w with place := .offered, formed := some (initForm v.cfg w) } }) (offerInit u) := by
  have hl := PortsOnly.link h.1.1
  have hb := PortsOnly.bus h.1.1
  have hc := PortsOnly.cfg h.1.1
  rw [offerInit_free (s := u) (w := w) (by rw [hl, hi]) (by rw [hl, hd]) (by rw [hb, hs]), hc]
  exact ((h.onBus _).onLink _).shared.trans (.push _ .busChoose)

theorem initEnded_first {v u : State} {w : InitWrite} (h : Noticed v u) (hw : w.second = false)
    (hd : v.link.discardInit = false) (hs : v.bus.internalSlot = none) :
    Shared
      ((v.onBus fun b => { b with internalSlot := some (initTxn v.cfg (newInit true)) }).onLink fun k =>
        { k with init := some { second := true, attempt := 1, place := .offered
                                formed := some (v.cfg.templates.profile.addr, profileBytes v.cfg 0) } })
      (initEnded u w) := by
  unfold initEnded
  rw [hw]
  exact offerInit_handed (w := newInit true) (h.onLink fun k => { k with init := some (newInit true) }) rfl hd hs

/-- The link as the end of the sequence leaves it, a restore due taken. -/
def initDone (k : Link) : Link :=
  { k with init := none, unbroken := k.unbroken || k.restoreDue, restoreDue := false
           pending := if k.restoreDue then some 0 else k.pending }

theorem initEnded_last {v u : State} {w : InitWrite} (h : Noticed v u) (hw : w.second = true) :
    Shared
      ((v.onLink initDone).onBus fun b =>
        { b with profileSlot := if v.link.restoreDue then some (profileWrite v.cfg 0 true) else b.profileSlot })
      (initEnded u w) := by
  have hl := PortsOnly.link h.1.1
  have hc := PortsOnly.cfg h.1.1
  unfold initEnded
  rw [hw]
  simp only [if_true, State.onLink_link, hl]
  by_cases hr : v.link.restoreDue = true
  · rw [if_pos hr]
    have k : Shared _ ((u.onLink fun k => { k with init := none, unbroken := true, restoreDue := false, pending := some 0 }).onBus
        fun b => { b with profileSlot := some (profileWrite u.cfg 0 true) }) := ((h.onLink _).onBus _).shared
    refine Shared.trans ?_ (k.trans (.push _ .busChoose))
    rw [hc]
    unfold State.onLink State.onBus initDone
    simp only [hr, Bool.or_true, if_true]
    exact .refl _
  · rw [if_neg hr]
    have hf := Bool.eq_false_iff.2 hr
    refine Shared.trans ?_ (h.onLink _).shared
    unfold State.onLink State.onBus initDone
    simp only [hf, Bool.or_false, Bool.false_eq_true, if_false]
    rw [← hf]
    exact .refl _

/-- After the completion of a write of the sequence: what the supervisor has made of it, and the faults counted. -/
theorem initCompletion_ends {s v : State} {x : Txn} (hx : x.purpose = some .init) (h : Shared v (initCompleted s x)) :
    AfterReshares { v with link := { v.link with base := (linkCompleted s x).link.base } } (linkCompleted s x)
      ∧ (linkCompleted s x).counts.oduFaults = v.counts.oduFaults := by
  have k := (linkCommit_ends h s.link "START").1
  rw [← linkCompleted_init hx] at k
  refine ⟨k, ?_⟩
  rw [k.counts]

section
variable {s : State} {x : Txn} {w : InitWrite} (hx : x.purpose = some .init) (hd : s.link.discardInit = false)
  (hi : s.link.init = some w) (hb : s.bus.internalSlot = none)
include hx hd hi

include hb in
theorem initCompletion_again (hf : x.status ≠ some .ok) (ha : w.attempt < 3) {f : Nat × List Byte} (hw : w.formed = some f) :
    AfterReshares
        { s with
          link := { s.link with
            init := some { w with attempt := w.attempt + 1, place := .offered, formed := some f }
            base := (linkCompleted s x).link.base }
          bus := { s.bus with internalSlot := some (linkTxn .init none (w.attempt + 1) false f.1 f.2) } }
        (linkCompleted s x)
      ∧ (linkCompleted s x).counts.oduFaults = s.counts.oduFaults := by
  have h := offerInit_handed (.refl (s.onLink fun k =>
    { k with init := some { w with attempt := w.attempt + 1, place := .keptBack } })) rfl hd hb
  rw [← initCompleted_again hd hi hf ha] at h
  simp only [initTxn, initForm, State.onLink_cfg, hw, Option.getD_some] at h
  exact initCompletion_ends hx h

include hb in
theorem initCompletion_first (hf : x.status ≠ some .ok → 3 ≤ w.attempt) (h1 : w.second = false) :
    AfterReshares
        { s with
          link := { s.link with
            init := some { second := true, attempt := 1, place := .offered
                           formed := some (s.cfg.templates.profile.addr, profileBytes s.cfg 0) }
            base := (linkCompleted s x).link.base }
          bus := { s.bus with
            internalSlot := some (linkTxn .init none 1 false s.cfg.templates.profile.addr (profileBytes s.cfg 0)) }
          counts := { s.counts with oduFaults := (linkCompleted s x).counts.oduFaults } } (linkCompleted s x)
      ∧ (linkCompleted s x).counts.oduFaults
        = if x.status = some .ok then s.counts.oduFaults else bump s.counts.oduFaults := by
  have h := initEnded_first (initFault_noticed s x w) h1 hd hb
  rw [← initCompleted_ended hd hi hf] at h
  obtain ⟨k, hc⟩ := initCompletion_ends hx h
  refine ⟨?_, hc⟩
  rw [hc]
  exact k

theorem initCompletion_last (hf : x.status ≠ some .ok → 3 ≤ w.attempt) (h2 : w.second = true) :
    AfterReshares
        { s with
          link := { s.link with
            init := none, base := (linkCompleted s x).link.base, unbroken := s.link.unbroken || s.link.restoreDue
            restoreDue := false, pending := if s.link.restoreDue then some 0 else s.link.pending }
          bus := { s.bus with
            profileSlot := if s.link.restoreDue then some (profileWrite s.cfg 0 true) else s.bus.profileSlot }
          counts := { s.counts with oduFaults := (linkCompleted s x).counts.oduFaults } } (linkCompleted s x)
      ∧ (linkCompleted s x).counts.oduFaults
        = if x.status = some .ok then s.counts.oduFaults else bump s.counts.oduFaults := by
  have h := initEnded_last (initFault_noticed s x w) h2
  rw [← initCompleted_ended hd hi hf] at h
  obtain ⟨k, hc⟩ := initCompletion_ends hx h
  refine ⟨?_, hc⟩
  rw [hc]
  exact k

end

/-! ## Completions of profile writes -/

theorem linkCompleted_profile {s : State} {x : Txn} (h : x.purpose = some .profile) :
    linkCompleted s x = linkCommit (profileCompleted s x) s.link "RESTORE" := by
  unfold linkCompleted
  rw [h]

theorem countProfile_eq (s : State) (q : Fin 8) :
    countProfile s q = s.counting fun c =>
      { c with
        profileUp := if s.link.confirmed.any (· < q) then bump c.profileUp else c.profileUp
        profileDown := if s.link.confirmed.any (q < ·) then bump c.profileDown else c.profileDown } := by
  unfold countProfile
  cases s.link.confirmed with
  | none => rfl
  | some c =>
    rcases lt_trichotomy c q with h | h | h
    · simp [h, h.not_gt]
    · simp [h, State.counting]
    · simp [h, h.not_gt]

theorem restoring_iff (k : LinkState) : k.restoring = true ↔ k = .acquire ∨ k = .lost := by
  cases k <;> simp [LinkState.restoring]

section
variable {s : State} {x : Txn} {p : Fin 8} (hd : s.link.discardProfile = false) (hp : x.target = some p)
include hd hp

theorem profileCompleted_confirm (hc : x.confirm = true) : profileCompleted s x = confirmationCompleted s x := by
  simp [profileCompleted, hd, hp, hc]

theorem profileCompleted_ok (hc : x.confirm = false) (hs : x.status = some .ok) : profileCompleted s x = profileOk s p := by
  simp [profileCompleted, hd, hp, hc, hs]

theorem profileCompleted_failed (hc : x.confirm = false) (hs : x.status ≠ some .ok) :
    profileCompleted s x = profileFailed s x p := by
  simp [profileCompleted, hd, hp, hc, hs]

end

theorem countProfile_cfg (s : State) (q : Fin 8) : (countProfile s q).cfg = s.cfg := by
  rw [countProfile_eq]
  rfl

theorem profileOk_cfg (s : State) (q : Fin 8) : (profileOk s q).cfg = s.cfg := countProfile_cfg s q

theorem confirmationCompleted_cfg (s : State) (x : Txn) : (confirmationCompleted s x).cfg = s.cfg := by
  unfold confirmationCompleted
  split
  · split
    · exact countProfile_cfg s 0
    · exact profileOk_cfg s 0
  · rfl

theorem oduFault_cfg (s : State) (p t : Val) (st : Option BusStatus) : (oduFault s p t st).cfg = s.cfg :=
  (oduFault_noticed s p t st).cfg

theorem profileFailed_cfg (s : State) (x : Txn) (p : Fin 8) : (profileFailed s x p).cfg = s.cfg := by
  unfold profileFailed
  split
  · rfl
  · split
    · rfl
    · rw [State.onLink_cfg]
      exact oduFault_cfg s _ _ _

theorem profileCompleted_cfg (s : State) (x : Txn) : (profileCompleted s x).cfg = s.cfg := by
  unfold profileCompleted
  split
  · rfl
  · split
    · rfl
    · split
      · exact confirmationCompleted_cfg s x
      · split
        · exact profileOk_cfg s _
        · exact profileFailed_cfg s x _

theorem profileOk_eq (s : State) (q : Fin 8) :
    profileOk s q = (countProfile s q).onLink fun k =>
      { k with confirmed := some q, guard := none, pending := s.bus.profileSlot.bind (·.target) } := by
  unfold profileOk
  rw [countProfile_eq]
  rfl

theorem confirmationCompleted_up {s : State} {x : Txn} (hs : x.status = some .ok) (hu : s.link.unbroken = true)
    (hr : s.link.state = .acquire ∨ s.link.state = .lost) :
    confirmationCompleted s x = (countProfile s 0).onLink fun k =>
      { k with state := .up, confirmed := some 0, guard := none, pending := none, restoreTimer := none
               restoreDue := false, unbroken := false } := by
  simp [confirmationCompleted, hs, hu, (restoring_iff _).2 hr]

theorem confirmationCompleted_ok {s : State} {x : Txn} (hs : x.status = some .ok)
    (hr : s.link.unbroken = true → ¬(s.link.state = .acquire ∨ s.link.state = .lost)) :
    confirmationCompleted s x = profileOk s 0 := by
  have h : (s.link.unbroken && s.link.state.restoring) = false := by
    rw [Bool.and_eq_false_imp]
    exact fun hu => Bool.eq_false_iff.2 fun hk => hr hu ((restoring_iff _).1 hk)
  simp [confirmationCompleted, hs, h]

theorem confirmationCompleted_failed {s : State} {x : Txn} (hs : x.status ≠ some .ok) :
    confirmationCompleted s x = s.onLink fun k =>
      { k with pending := s.bus.profileSlot.bind (·.target)
               restoreTimer := if s.link.state = .acquire ∨ s.link.state = .lost then some (s.cfg.link.restore * 1000)
                 else k.restoreTimer } := by
  unfold confirmationCompleted
  rw [if_neg hs]
  simp only [State.onLink, restoring_iff]
  rfl

theorem profileFailed_slot {s : State} {x : Txn} (h : s.bus.profileSlot.isSome) (p : Fin 8) : profileFailed s x p = s := by
  unfold profileFailed
  split
  · rfl
  · next e => rw [e] at h; cases h

theorem profileFailed_again {s : State} {x : Txn} (h : s.bus.profileSlot = none) (ha : x.attempt < 3) (p : Fin 8) :
    profileFailed s x p =
      (s.onBus fun b =>
        { b with profileSlot := some { x with attempt := x.attempt + 1, status := none, written := 0, data := [] } }).push
        .busChoose := by
  unfold profileFailed
  rw [h]
  exact if_pos ha

theorem profileFailed_last {s : State} {x : Txn} (h : s.bus.profileSlot = none) (ha : 3 ≤ x.attempt) (p : Fin 8) :
    Noticed
      { s with
        link := { s.link with pending := none, guard := if s.link.confirmed.any (p < ·) then some p else none }
        counts := { s.counts with oduFaults := bump s.counts.oduFaults } } (profileFailed s x p) := by
  unfold profileFailed
  rw [h]
  simp only [if_neg (Nat.not_lt.2 ha)]
  refine ((oduFault_noticed s _ _ _).onLink fun k =>
    { k with pending := none, guard := match k.confirmed with
      | none => none
      | some c => if p < c then some p else none }).congr ?_ rfl
  unfold State.onLink State.counting
  dsimp only
  cases s.link.confirmed <;> simp

end Sys2Proof.Machine
end

section
/-! SUPPORT. The statements about the link supervisor's timers. -/

open Sys2Proof Sys2Proof.Machine

/-- Settles O19. -/
theorem fadeTimerEndsInLost : Obligations.FadeTimerEndsInLost := by
  intro s hr hs ht
  exact ⟨_, lives hr (fadeExpired_fade hs ht), (enterLost_shared s _).1, enterLost_shareBase s _⟩

/-- Settles O20. -/
theorem linkTimersIssueWrites : Obligations.LinkTimersIssueWrites := by
  refine ⟨fun s hr => ⟨fun ht hi => ?_, fun ht hi => lives hr (restoreExpired_waits ht hi), fun q hs hp hq ht => ?_⟩,
    fun s x w hx hd hi hb => ?_, fun s x p hx hd hp => ?_⟩
  · refine ⟨_, lives hr (restoreExpired_issues ht hi), ?_⟩
    rw [issueConfirmation_eq]
    exact linkCommit_ends (.refl _) s.link "RESTORE"
  · refine ⟨_, lives hr (upshiftExpired_issues hs hp hq ht), ?_⟩
    rw [issueProfile_eq]
    exact linkCommit_ends (.refl _) s.link "RESTORE"
  · refine ⟨fun hf ha f hw => ?_, fun h1 hf => initCompletion_first hx hd hi hb hf h1,
      fun h2 hf => initCompletion_last hx hd hi hf h2⟩
    obtain ⟨k, hc⟩ := initCompletion_again hx hd hi hb hf ha hw
    refine ⟨?_, hc⟩
    dsimp only
    rw [show (deliver s (.completeLink x)).counts.oduFaults = s.counts.oduFaults from hc]
    exact k
  · intro t
    have ht : t = linkCommit (profileCompleted s x) s.link "RESTORE" := linkCompleted_profile hx
    have ends : ∀ {u v}, Shared v (profileCompleted s x) → u = { v with link := { v.link with base := t.link.base } } →
        AfterReshares u t := fun h e => by
      rw [e, ht]
      exact (linkCommit_ends h _ _).1
    have same : ∀ {u v}, profileCompleted s x = v → u = { v with link := { v.link with base := t.link.base } } →
        AfterReshares u t := fun h => ends (h ▸ .refl _)
    clear_value t
    refine ⟨?_, fun hc hs hu hr => ?_, fun hc hs => ?_, fun q hs hq => ?_, fun hc hs hb => ?_, fun hc hs hb ha => ?_,
      fun hc hs hb ha => ?_⟩
    · rw [ht, ← profileCompleted_cfg s x]
      exact (linkCommit_ends (.refl _) _ _).2
    · refine same ((profileCompleted_confirm hd hp hc).trans (confirmationCompleted_up hs hu hr)) ?_
      rw [countProfile_eq]
      rfl
    · exact same ((profileCompleted_confirm hd hp hc).trans (confirmationCompleted_failed hs)) rfl
    · have e : profileCompleted s x = profileOk s q := by
        rcases hq with ⟨hc, rfl⟩ | ⟨hc, rfl, hr⟩
        · exact profileCompleted_ok hd hp hc hs
        · rw [profileCompleted_confirm hd hp hc, confirmationCompleted_ok hs hr]
      refine same (e.trans (profileOk_eq s q)) ?_
      rw [countProfile_eq]
      rfl
    · exact same ((profileCompleted_failed hd hp hc hs).trans (profileFailed_slot hb p)) rfl
    · have e := (profileCompleted_failed hd hp hc hs).trans (profileFailed_again hb ha p)
      rw [e] at ends
      exact ends (Shared.push _ .busChoose) rfl
    · rw [profileCompleted_failed hd hp hc hs] at ends
      exact ends (profileFailed_last hb ha p).shared rfl

end

section
/-! SUPPORT. Level samples: the calibrated sample, the report that every tenth one forms, and what the link supervisor
makes of a report. -/

namespace Sys2Proof.Machine

/-! ## The sample -/

/-- The range in which a sample is taken, its calibrated value before the clamp, and the range of the next one. -/
def sampledRange (s : State) : RangeName := sampleRange s.cfg.level s.level.range

def exactOf (s : State) (raw : Nat) : Int := (Cal.of s.cfg.level (sampledRange s)).apply raw

def rangeAfter (s : State) (raw : Nat) : RangeName := nextRange s.cfg.level (sampledRange s) raw

/-- The level monitor with the sample taken. -/
def sampleLevel (s : State) (raw : Nat) : Level :=
  { s.level with
    last := some { raw := raw, range := sampledRange s, value := clampLevel (exactOf s raw) }
    window := keepLast 10 (s.level.window ++ [clampLevel (exactOf s raw)])
    samples := s.level.samples + 1, range := rangeAfter s raw }

def sampleCounts (s : State) (raw : Nat) : Counters :=
  { s.counts with
    rangeSwitches := if s.level.range = rangeAfter s raw then s.counts.rangeSwitches else bump s.counts.rangeSwitches
    levelClamps := if exactOf s raw = clampLevel (exactOf s raw) then s.counts.levelClamps else bump s.counts.levelClamps }

/-- One switch at most is counted: by the mode set since the last sample, or by this one's value. -/
theorem countSwitch_twice (s : State) (raw : Nat) :
    countSwitch (countSwitch s s.level.range (sampledRange s)) (sampledRange s) (rangeAfter s raw)
      = countSwitch s s.level.range (rangeAfter s raw) := by
  have h : s.level.range = sampledRange s ∨ sampledRange s = rangeAfter s raw := by
    unfold rangeAfter sampledRange sampleRange nextRange
    cases s.cfg.level.mode <;> simp
  rcases h with h | h
  · rw [← h]
    simp [countSwitch]
  · rw [← h]
    simp [countSwitch]

/-- The state with the sample taken and its clamp flagged. -/
def sampleTaken (s : State) (raw : Nat) : State :=
  let t := (countSwitch s s.level.range (rangeAfter s raw)).onLevel fun v =>
    { v with range := rangeAfter s raw
             last := some { raw := raw, range := sampledRange s, value := clampLevel (exactOf s raw) }
             window := keepLast 10 (v.window ++ [clampLevel (exactOf s raw)]), samples := v.samples + 1 }
  if exactOf s raw = clampLevel (exactOf s raw) then t
  else setFlagBoth (t.counting fun c => { c with levelClamps := bump c.levelClamps }) .clamp

theorem sampleTaken_noticed (s : State) (raw : Nat) :
    Noticed { s with level := sampleLevel s raw, counts := sampleCounts s raw } (sampleTaken s raw) := by
  have hc : countSwitch s s.level.range (rangeAfter s raw) = s.counting fun c =>
      { c with rangeSwitches := if s.level.range = rangeAfter s raw then c.rangeSwitches else bump c.rangeSwitches } := by
    unfold countSwitch
    split <;> rfl
  unfold sampleTaken sampleCounts
  rw [hc]
  by_cases he : exactOf s raw = clampLevel (exactOf s raw)
  · simp only [if_pos he]
    exact .refl _
  · simp only [if_neg he]
    exact setFlagBoth_noticed _ _

theorem takeSample_eq (s : State) (raw : Nat) :
    takeSample s raw =
      if (s.level.samples + 1) % 10 = 0 then
        (levelReport (sampleTaken s raw) (smooth (sampleLevel s raw).window), some (smooth (sampleLevel s raw).window))
      else (sampleTaken s raw, none) := by
  have hl : (sampleTaken s raw).level = sampleLevel s raw := PortsOnly.level (sampleTaken_noticed s raw).1.1
  have e : takeSample s raw = if (sampleTaken s raw).level.samples % 10 = 0 then
      (levelReport (sampleTaken s raw) (smooth (sampleTaken s raw).level.window),
        some (smooth (sampleTaken s raw).level.window)) else (sampleTaken s raw, none) := by
    unfold takeSample
    dsimp only
    rw [show countSwitch (countSwitch s s.level.range (sampleRange s.cfg.level s.level.range))
        (sampleRange s.cfg.level s.level.range) (nextRange s.cfg.level (sampleRange s.cfg.level s.level.range) raw)
        = countSwitch s s.level.range (rangeAfter s raw) from countSwitch_twice s raw]
    rfl
  rw [e, hl]
  rfl

/-! ## The report -/

/-- The level monitor with a report taken. -/
def reportLevel (s : State) (level : Int) : Level :=
  let align := s.level.align.map fun a => (a.report level s.now).1
  let value := match s.level.align with | none => 0 | some _ => indicatorValue s.cfg.level level
  { s.level with
    smoothed := some level, history := keepLast 32 (s.level.history ++ [level]), align := align
    indicator := value, outPolarity := s.cfg.level.polarity, density := densityOf s.cfg.level.polarity value }

theorem alignNotice_noticed (t : State) (a : AlignRec) : Noticed t (alignNotice t a) := by
  unfold alignNotice
  split
  · exact notice_noticed _ _ _ _
  · exact noticeBoth_noticed _ _ _ _

theorem alignReport_noticed (s : State) (level : Int) :
    Noticed
      { s with level := { s.level with align := s.level.align.map fun a => (a.report level s.now).1 } }
      (alignReport s level) := by
  unfold alignReport
  split
  · next h =>
    rw [h, Option.map_none, ← h]
    exact .refl s
  · next a h =>
    rw [h, Option.map_some]
    dsimp only
    split
    · exact alignNotice_noticed _ _
    · exact .refl _

/-- The level monitor after a report depends on itself, the settings and the time alone. -/
theorem reportLevel_congr {u v : State} (h : Noticed v u) (level : Int) : reportLevel u level = reportLevel v level := by
  unfold reportLevel State.now
  rw [PortsOnly.level h.1.1, PortsOnly.cfg h.1.1, PortsOnly.clock h.1.1]

theorem levelReport_noticed_own (s : State) (level : Int) :
    Noticed { s with level := reportLevel s level } (levelReport s level) := by
  have h := alignReport_noticed
    (s.onLevel fun l => { l with smoothed := some level, history := keepLast 32 (l.history ++ [level]) }) level
  have hl := PortsOnly.level h.1.1
  have hc := PortsOnly.cfg h.1.1
  unfold levelReport
  dsimp only
  rw [hc]
  refine (h.onLevel fun l => l.drive
    (match l.align with | none => 0 | some _ => indicatorValue s.cfg.level level) s.cfg.level.polarity).congr ?_ rfl
  unfold State.onLevel reportLevel Level.drive
  dsimp only
  cases s.level.align <;> rfl

theorem levelReport_noticed {v u : State} (h : Noticed v u) (level : Int) :
    Noticed { v with level := reportLevel v level } (levelReport u level) := by
  have k := h.onLevel fun _ => reportLevel v level
  unfold State.onLevel at k
  refine k.trans ?_
  rw [← reportLevel_congr h level]
  exact levelReport_noticed_own u level

/-! ## The report in the link supervisor -/

/-- The new target of a downshift is the greatest usable profile below the old one, or 0. -/
theorem downTarget_spec (cfg : Settings) (t : Fin 8) (level : Int) :
    (downTarget cfg t level = 0 ∨ downTarget cfg t level < t ∧ (cfg.profiles.get (downTarget cfg t level)).enabled = true
        ∧ (cfg.profiles.get (downTarget cfg t level)).down ≤ level)
      ∧ ∀ p, 0 < p → p < t → (cfg.profiles.get p).enabled = true → (cfg.profiles.get p).down ≤ level →
          p ≤ downTarget cfg t level := by
  unfold downTarget
  have hp : ∀ q, (decide (0 < q) && decide (q < t) && profileEnabled cfg q && decide ((cfg.profiles.get q).down ≤ level))
      = true ↔ 0 < q ∧ q < t ∧ (cfg.profiles.get q).enabled = true ∧ (cfg.profiles.get q).down ≤ level := by
    intro q
    simp only [profileEnabled, Bool.and_eq_true, decide_eq_true_eq, and_assoc]
  generalize hf : (List.finRange 8).filter (fun q => decide (0 < q) && decide (q < t) && profileEnabled cfg q
    && decide ((cfg.profiles.get q).down ≤ level)) = l
  have hm : ∀ q, q ∈ l ↔ 0 < q ∧ q < t ∧ (cfg.profiles.get q).enabled = true ∧ (cfg.profiles.get q).down ≤ level := by
    intro q
    rw [← hf, List.mem_filter, hp]
    simp
  have hs : l.Pairwise (· < ·) := hf ▸ (List.pairwise_lt_finRange 8).filter _
  cases e : l.getLast? with
  | none =>
    rw [List.getLast?_eq_none_iff] at e
    refine ⟨.inl rfl, fun p h0 h1 h2 h3 => ?_⟩
    have := (hm p).2 ⟨h0, h1, h2, h3⟩
    rw [e] at this
    cases this
  | some x =>
    obtain ⟨ys, rfl⟩ := List.getLast?_eq_some_iff.1 e
    obtain ⟨_, hx⟩ := (hm x).1 (by simp)
    refine ⟨.inr hx, fun p h0 h1 h2 h3 => ?_⟩
    rcases List.mem_append.1 ((hm p).2 ⟨h0, h1, h2, h3⟩) with h | h
    · exact ((List.pairwise_append.1 hs).2.2 p h x (by simp)).le
    · rw [List.mem_singleton] at h
      exact h.le

theorem issueProfile_shared {v u : State} (h : Noticed v u) (q : Fin 8) (c : Bool) :
    Shared
      { v with link := { v.link with pending := some q }
               bus := { v.bus with profileSlot := some (profileWrite v.cfg q c) } } (issueProfile u q c) := by
  have hc := PortsOnly.cfg h.1.1
  have k : Shared _ (issueProfile u q c) :=
    ((h.onLink fun k => { k with pending := some q }).onBus fun b =>
      { b with profileSlot := some (profileWrite u.cfg q c) }).shared.trans (.push _ .busChoose)
  rw [hc] at k
  exact k

/-- The link and the bus with the entry into FADE. -/
theorem enterFade_shared {v u : State} (h : Noticed v u) :
    Shared
      { v with
        link := { v.link with
          state := .fade, fadeTimer := some (v.cfg.link.fade * 250), upshiftTimer := none
          pending := if currentTarget v.link = 0 then v.link.pending else some 0 }
        bus := { v.bus with
          profileSlot := if currentTarget v.link = 0 then v.bus.profileSlot else some (profileWrite v.cfg 0 false) }
        counts := { v.counts with linkFades := bump v.counts.linkFades } } (enterFade u) := by
  have hl := PortsOnly.link h.1.1
  have hc := PortsOnly.cfg h.1.1
  have k := ((h.onLink fun k =>
    { k with state := .fade, fadeTimer := some (u.cfg.link.fade * 250), upshiftTimer := none }).counting
      (fun c => { c with linkFades := bump c.linkFades }) fun _ _ => rfl).trans (setFlagBoth_noticed _ .fade)
  unfold enterFade
  rw [hl]
  rw [hc] at k ⊢
  by_cases ht : currentTarget v.link = 0
  · simp only [ht, if_true, ne_eq, not_true_eq_false, if_false]
    exact k.shared
  · simp only [ht, if_false, ne_eq, not_false_eq_true, if_true]
    exact issueProfile_shared k 0 false

theorem adapt_down {v u : State} {level : Int} (h : Noticed v u)
    (hd : currentTarget v.link ≠ 0 ∧ level < (v.cfg.profiles.get (currentTarget v.link)).down) :
    Shared
      { v with
        link := { v.link with upshiftTimer := none
                              pending := some (downTarget v.cfg (currentTarget v.link) level) }
        bus := { v.bus with
          profileSlot := some (profileWrite v.cfg (downTarget v.cfg (currentTarget v.link) level) false) } }
      (adapt u level) := by
  have hl := PortsOnly.link h.1.1
  have hc := PortsOnly.cfg h.1.1
  unfold adapt
  rw [hl, hc]
  dsimp only
  rw [if_pos hd]
  exact issueProfile_shared (h.onLink fun k => { k with upshiftTimer := none }) _ false

/-- The upshift hold after a report at which the link keeps its profile. -/
def upshiftTimerAt (cfg : Settings) (k : Link) (level : Int) : Option Nat :=
  match k.pending, upCandidate cfg k with
  | none, some q =>
    if (cfg.profiles.get q).up ≤ level then some (k.upshiftTimer.getD (cfg.link.upshift * 1000)) else none
  | _, _ => none

theorem upshiftReport_eq (s : State) (level : Int) :
    upshiftReport s level = s.onLink fun k => { k with upshiftTimer := upshiftTimerAt s.cfg s.link level } := by
  unfold upshiftReport upshiftTimerAt
  cases s.link.pending with
  | some _ => rfl
  | none =>
    cases upCandidate s.cfg s.link with
    | none => rfl
    | some q => cases s.link.upshiftTimer <;> rfl

theorem adapt_keep {v u : State} {level : Int} (h : Noticed v u)
    (hd : ¬(currentTarget v.link ≠ 0 ∧ level < (v.cfg.profiles.get (currentTarget v.link)).down)) :
    Noticed { v with link := { v.link with upshiftTimer := upshiftTimerAt v.cfg v.link level } } (adapt u level) := by
  have hl := PortsOnly.link h.1.1
  have hc := PortsOnly.cfg h.1.1
  unfold adapt
  rw [hl, hc]
  dsimp only
  rw [if_neg hd, upshiftReport_eq, hl, hc]
  exact h.onLink _

section
variable {v u : State} {level : Int} (h : Noticed v u)
include h

theorem linkReport_up (hs : v.link.state = .up) :
    linkReport u level = linkCommit (if level < v.cfg.link.low then enterFade u else adapt u level) u.link "FADE" := by
  unfold linkReport
  rw [PortsOnly.link h.1.1, hs, PortsOnly.cfg h.1.1]

theorem linkReport_return (hs : v.link.state = .fade) (hl : v.cfg.link.high ≤ level) :
    linkReport u level = linkCommit (u.onLink fun k => { k with state := .up, fadeTimer := none }) u.link "RETURN" := by
  unfold linkReport
  rw [PortsOnly.link h.1.1, hs, PortsOnly.cfg h.1.1]
  exact if_pos hl

theorem linkReport_fading (hs : v.link.state = .fade) (hl : level < v.cfg.link.high) : linkReport u level = u := by
  unfold linkReport
  rw [PortsOnly.link h.1.1, hs, PortsOnly.cfg h.1.1]
  exact if_neg (Int.not_le.2 hl)

theorem linkReport_restoring (hs : v.link.state = .acquire ∨ v.link.state = .lost) :
    linkReport u level = restoreReport u level := by
  unfold linkReport
  rw [PortsOnly.link h.1.1]
  rcases hs with hs | hs <;> rw [hs]

theorem linkReport_aside (hs : v.link.state = .off ∨ v.link.state = .align ∨ v.link.state = .test) :
    linkReport u level = u := by
  unfold linkReport
  rw [PortsOnly.link h.1.1]
  rcases hs with hs | hs | hs <;> rw [hs]

theorem restoreReport_below (hl : level < v.cfg.link.high) :
    Noticed { v with link := { v.link with restoreTimer := none, restoreDue := false, unbroken := false } }
      (restoreReport u level) := by
  unfold restoreReport
  rw [PortsOnly.cfg h.1.1, if_pos hl]
  exact h.onLink _

theorem restoreReport_starts (hl : v.cfg.link.high ≤ level) (hk : v.link.lockLevel = true)
    (ht : v.link.restoreTimer = none) (hc : confirmationWaits v = false) :
    Noticed { v with link := { v.link with restoreTimer := some (v.cfg.link.restore * 1000) } } (restoreReport u level) := by
  unfold restoreReport
  rw [PortsOnly.cfg h.1.1, PortsOnly.link h.1.1, if_neg (Int.not_lt.2 hl),
    show confirmationWaits u = confirmationWaits v by unfold confirmationWaits; rw [PortsOnly.bus h.1.1]]
  rw [if_pos (by simp [hk, ht, hc])]
  exact h.onLink _

theorem restoreReport_keeps_on (hl : v.cfg.link.high ≤ level)
    (hk : v.link.lockLevel = false ∨ v.link.restoreTimer.isSome ∨ confirmationWaits v = true) :
    restoreReport u level = u := by
  unfold restoreReport
  rw [PortsOnly.cfg h.1.1, PortsOnly.link h.1.1, if_neg (Int.not_lt.2 hl),
    show confirmationWaits u = confirmationWaits v by unfold confirmationWaits; rw [PortsOnly.bus h.1.1]]
  refine if_neg ?_
  rcases hk with hk | hk | hk
  · simp [hk]
  · simp [Option.isNone_eq_false_iff.2 hk]
  · simp [hk]

end

theorem nextRange_eq (g : LevelSettings) (r : RangeName) (raw : Nat) :
    nextRange g r raw =
      if g.mode = .auto then
        (if r = .coarse then (if raw < g.xover then .fine else .coarse) else if 4032 ≤ raw then .coarse else .fine)
      else r := by
  unfold nextRange
  cases g.mode <;> cases r <;> rfl

theorem report_eq (a : AlignRec) (level : Int) (now : SiteTime) :
    (a.report level now).1 =
      { a with current := some level, reports := if a.reports < 65535 then a.reports + 1 else a.reports
               peak := match a.peak with
                 | none => some (level, now)
                 | some (p, at') => if p < level then some (level, now) else some (p, at')
               toNext := if a.toNext ≤ 1 then a.interval else a.toNext - 1 } := by
  unfold AlignRec.report
  simp only [decide_eq_true_eq] <;> rfl

theorem sampleEvent_tenth {s : State} {raw : Fin 4096} (h : (s.level.samples + 1) % 10 = 0) :
    sampleEvent s raw = linkReport (levelReport (sampleTaken s raw) (smooth (sampleLevel s raw).window))
      (smooth (sampleLevel s raw).window) := by
  unfold sampleEvent
  rw [takeSample_eq, if_pos h]

theorem sampleEvent_between {s : State} {raw : Fin 4096} (h : (s.level.samples + 1) % 10 ≠ 0) :
    sampleEvent s raw = sampleTaken s raw := by
  unfold sampleEvent
  rw [takeSample_eq, if_neg h]

end Sys2Proof.Machine
end

section
/-! SUPPORT. The statement about level samples. -/

open Sys2Proof Sys2Proof.Machine

/-- Settles O13. -/
theorem sampleCalibrates : Obligations.SampleCalibrates := by
  intro s raw hrun g r k ex v w next taken counts level now align indicator reported h target down
  have hn : next = rangeAfter s raw := (nextRange_eq _ _ _).symm
  have ht : taken = sampleLevel s raw := by
    show ({ s.level with last := _, window := _, samples := _, range := next } : Level) = _
    rw [hn]
    rfl
  have hc : counts = sampleCounts s raw := by
    show ({ s.counts with rangeSwitches := if s.level.range = next then _ else _, levelClamps := _ } : Counters) = _
    rw [hn]
    rfl
  have ha : align = s.level.align.map fun a => (a.report level s.now).1 := by
    simp only [report_eq]
    rfl
  have hl : level = smooth (sampleLevel s raw).window := rfl
  have hr : reported = { s with level := reportLevel { s with level := taken, counts := counts } level, counts := counts } := by
    show ({ s with
      level := { taken with
        smoothed := some level, history := keepLast 32 (s.level.history ++ [level]), align := align
        indicator := indicator, outPolarity := g.polarity, density := densityOf g.polarity indicator }
      counts := counts } : State) = _
    rw [ha]
    rfl
  have hN : Noticed { s with level := taken, counts := counts } (sampleTaken s raw) := by
    rw [ht, hc]
    exact sampleTaken_noticed s raw
  have hM := levelReport_noticed hN level
  rw [← hr] at hM
  have hrl : reported.link = s.link := by rw [hr]
  have hrb : reported.bus = s.bus := by rw [hr]
  have hrc : reported.cfg = s.cfg := by rw [hr]
  have hrk : reported.counts = counts := by rw [hr]
  refine ⟨_, lives hrun rfl, fun hten => ?_, fun hten => ?_⟩
  · rw [sampleEvent_between hten]
    exact hN.1
  rw [sampleEvent_tenth hten, ← hl]
  generalize levelReport (sampleTaken s raw) level = u at hM
  clear_value reported counts level taken
  have hup (hs : s.link.state = .up) := linkReport_up (level := level) hM (by rw [hrl]; exact hs)
  have fades (hs : s.link.state = .up) (hlow : level < h.low) := linkCommit_ends (enterFade_shared hM) u.link "FADE"
  have downs (hd : down) := linkCommit_ends (adapt_down (level := level) hM (by rw [hrl, hrc]; exact hd)) u.link "FADE"
  have keeps (hd : ¬down) := linkCommit_ends (adapt_keep (level := level) hM (by rw [hrl, hrc]; exact hd)).shared u.link "FADE"
  have stays (hs : s.link.state = .fade) (hh : h.high ≤ level) :=
    linkCommit_ends (hM.onLink fun k => { k with state := .up, fadeTimer := none }).shared u.link "RETURN"
  simp only [State.onLink, hrl, hrb, hrc, hrk] at fades downs keeps stays
  refine ⟨fun hs => ?_, fun hs => ?_, fun hs hlow => ?_, fun hs hlow hd => ?_, fun hs hlow hd => ?_, fun hs hh => ?_,
    fun hs hh => ?_, fun hs => ?_⟩
  · rw [linkReport_aside hM (by rw [hrl]; exact hs)]
    exact hM.1
  · rw [hup hs, hrc]
    split
    · next hlow => exact (fades hs hlow).2
    · by_cases hd : down
      · exact (downs hd).2
      · exact (keeps hd).2
  · rw [hup hs, hrc, if_pos hlow]
    exact (fades hs hlow).1
  · obtain ⟨hq, hmax⟩ := downTarget_spec s.cfg (currentTarget s.link) level
    refine ⟨downTarget s.cfg (currentTarget s.link) level, ?_, hq, hmax⟩
    rw [hup hs, hrc, if_neg (Int.not_lt.2 hlow)]
    simp only [hrk]
    exact (downs hd).1
  · rw [hup hs, hrc, if_neg (Int.not_lt.2 hlow)]
    simp only [hrb, hrk]
    exact (keeps hd).1
  · rw [linkReport_return hM (by rw [hrl]; exact hs) (by rw [hrc]; exact hh)]
    simp only [hrb, hrc, hrk]
    exact stays hs hh
  · rw [linkReport_fading hM (by rw [hrl]; exact hs) (by rw [hrc]; exact hh)]
    exact hM.1
  · rw [linkReport_restoring hM (by rw [hrl]; exact hs)]
    have hw : confirmationWaits reported = confirmationWaits s := by
      unfold confirmationWaits
      rw [hrb]
    refine ⟨fun hh => ?_, fun hh hk ht hw' => ?_, fun hh hk => ?_⟩
    · have k := restoreReport_below hM (by rw [hrc]; exact hh)
      rw [hrl] at k
      exact k.1
    · have k := restoreReport_starts (level := level) hM (by rw [hrc]; exact hh) (by rw [hrl]; exact hk)
        (by rw [hrl]; exact ht) (hw.trans hw')
      simp only [hrl, hrc] at k ⊢
      exact k.1
    · rw [restoreReport_keeps_on hM (by rw [hrc]; exact hh) (by rw [hrl, hw]; exact hk)]
      exact hM.1

end

section
/-! SUPPORT. The requests that the ports own: notices, summaries, access and counters. -/

namespace Sys2Proof.Machine

/-! ## One port's state -/

theorem setPort_setPort (s : State) (p : Port) (x y : PortState) : (s.setPort p x).setPort p y = s.setPort p y := by
  cases p <;> rfl

@[simp] theorem port_setPort_same (s : State) (p : Port) (x : PortState) : (s.setPort p x).port p = x := by cases p <;> rfl

theorem setPort_port (s : State) (p : Port) : s.setPort p (s.port p) = s := by cases p <;> rfl

theorem PerPort.put_get {α : Type} (v : PerPort α) (p : Port) : v.put p (v.get p) = v := by cases p <;> rfl

theorem PerPort.put_put {α : Type} (v : PerPort α) (p : Port) (a b : α) : (v.put p a).put p b = v.put p b := by
  cases p <;> rfl

theorem PerPort.get_put_same {α : Type} (v : PerPort α) (p : Port) (a : α) : (v.put p a).get p = a := by cases p <;> rfl

/-! ## Masks and summaries -/

theorem handleNoticeSet_known (s : State) (p : Port) (l : List NoticeClass) :
    handleNoticeSet s p (some (l.map .known)) =
      (s.onPortSettings p fun g => { g with mask := asSet allClasses l },
        .ok [kv "classes" (.words ((asSet allClasses l).map NoticeClass.word))] []) := by
  unfold handleNoticeSet
  rw [Option.bind_some, namesOf_known]

theorem handleSummary_eq (s : State) (p : Port) :
    handleSummary s p =
      (s.setPort p { s.port p with
          summary := { (s.port p).summary with changed := [], events := [] }
          intervalTimer := secondsTimer (s.cfg.ports.get p).interval, spacingTimer := some 1000 },
        .ok (s.port p).summary.pairs []) := by
  cases p <;> rfl

/-- The settings and the port that SUMMARY SET leaves. -/
theorem applySummary_eq (s : State) (p : Port) (n : Option Nat) (b : Option Bool) :
    applySummary s p n b =
      (s.settings fun cfg =>
        { cfg with ports := cfg.ports.put p { cfg.ports.get p with
            interval := n.getD (cfg.ports.get p).interval, change := b.getD (cfg.ports.get p).change } }).setPort p
        { s.port p with intervalTimer := (n.map secondsTimer).getD (s.port p).intervalTimer
                        changePending := (s.port p).changePending && b.getD true } := by
  cases n <;> cases b <;> cases p <;> simp [applySummary, State.onPortSettings] <;> rfl

theorem handleSummarySet_ok (s : State) (p : Port) {n : Option Nat} {b : Option Bool}
    (h : (n.isSome || b.isSome) = true) (hn : ∀ k, n = some k → k ≤ 60) :
    ∃ r, handleSummarySet s p (n.map Int.ofNat) (b.map .known) = (applySummary s p n b, .ok r []) := by
  have hr : inRange 0 60 (n.map Int.ofNat) = true := by
    cases n with
    | none => rfl
    | some k =>
      have := hn k rfl
      simp [inRange, this]
  have hb : nameOk (b.map Named.known) = true := by cases b <;> rfl
  have e : ((n.map Int.ofNat).isNone && (b.map Named.known).isNone) = false := by
    cases n <;> cases b <;> simp_all
  have hm : (n.map Int.ofNat).map Int.toNat = n := by cases n <;> rfl
  have hbm : nameOf (b.map Named.known) = b := by cases b <;> rfl
  constructor
  unfold handleSummarySet
  simp only [hr, hb, e, hm, hbm, Bool.not_true, Bool.or_self, Bool.false_eq_true, if_false]
  rfl

/-! ## Drops of a port's level -/

theorem releaseAlign_after (s : State) (p : Port) (c : String) {a : AlignRec} (ha : s.level.align = some a)
    (ho : a.owner = .port p) :
    Noticed
      (if s.site.inputs.mastMoving.filtered = true then
        { s with level := { s.level with align := some { a with owner := .mast, mastFlag := false, toNext := a.interval } } }
       else
        { s with level := { s.level with align := none, indicator := 0, density := densityOf s.level.outPolarity 0 }
                 signals := s.signals ++ [.alignEnd] })
      (releaseAlign s p c) := by
  unfold releaseAlign mastAsserted
  rw [ha]
  dsimp only
  rw [if_pos ho]
  split
  · exact passAlign_noticed _ _
  · exact endAlign_noticed _ _

theorem releaseAlign_other {s : State} {p : Port} (c : String) (h : ∀ a, s.level.align = some a → a.owner ≠ .port p) :
    releaseAlign s p c = s := by
  unfold releaseAlign
  split
  · rfl
  · next a ha => exact if_neg (h a ha)

/-- An access drop of a port that owns no record, or that still meets ALIGN, changes nothing. -/
theorem levelAccessDrop_none {s : State} {p : Port}
    (h : ∀ a, s.level.align = some a → a.owner = .port p → inGroup s p .align = true) : levelAccessDrop s p = s := by
  unfold levelAccessDrop
  by_cases hg : inGroup s p .align = true
  · rw [if_pos hg]
  · rw [if_neg hg]
    exact releaseAlign_other _ fun a ha ho => hg (h a ha ho)

theorem levelAccessDrop_after (v : State) (p : Port) :
    Noticed { v with level := (levelAfterDrop v p).1, signals := v.signals ++ (levelAfterDrop v p).2 }
      (levelAccessDrop v p) := by
  have same : Noticed { v with signals := v.signals ++ [] } v := by
    rw [List.append_nil]
    exact .refl v
  unfold levelAfterDrop
  split
  · next h =>
    rw [levelAccessDrop_none fun a ha => absurd (h.symm.trans ha) (Option.some_ne_none a).symm]
    exact same
  · next a h =>
    split
    · next hc =>
      have k := releaseAlign_after v p "ACCESS" h hc.1
      rw [show levelAccessDrop v p = releaseAlign v p "ACCESS" from if_neg (by simp [hc.2])]
      split at k
      · next hm =>
        rw [if_pos hm]
        dsimp only
        rw [List.append_nil]
        exact k
      · next hm =>
        rw [if_neg hm]
        exact k
    · next hc =>
      rw [levelAccessDrop_none fun b hb ho => by
        rw [h] at hb
        cases hb
        exact Bool.not_eq_false _ ▸ fun hf => hc ⟨ho, hf⟩]
      exact same

/-! ## Unlocking -/

section
variable {s : State} {p : Port} {a : CredArgs} {who : Option (Fin 4)} {k : List Char} (hw : namedLevel a = some who)
  (hk : namedCred a.cred = some (some k))
include hw hk

theorem handleUnlock_locked (hl : (s.port p).lockout.isSome) : handleUnlock s p a = (s, .no .noWait) := by
  simp [handleUnlock, hw, hk, hl]

theorem handleUnlock_match (hl : (s.port p).lockout = none) (hm : credMatches s p who k = true) :
    handleUnlock s p a =
      (let v := s.setPort p { s.port p with access := levelOf who, mismatches := 0 }
       (if atSite s p && who.isSome then levelAccessDrop v p else v, .ok (levelPairs (levelOf who)) [])) := by
  simp [handleUnlock, hw, hk, hl, hm, State.onPort]

theorem handleUnlock_mismatch (hl : (s.port p).lockout = none) (hm : credMatches s p who k = false) :
    handleUnlock s p a = unlockFailed s p := by
  simp [handleUnlock, hw, hk, hl, hm]

end

theorem unlockFailed_early {s : State} {p : Port} (h : (s.port p).mismatches < 2) :
    unlockFailed s p =
      ((s.counting fun c => { c with unlockFails := bump c.unlockFails }).setPort p
        { s.port p with mismatches := (s.port p).mismatches + 1 }, .no .noLevel) := by
  unfold unlockFailed
  dsimp only
  rw [if_neg (by omega)]
  cases p <;> rfl

theorem unlockFailed_third {s : State} {p : Port} (h : 2 ≤ (s.port p).mismatches) :
    unlockFailed s p =
      ((s.counting fun c => { c with unlockFails := bump c.unlockFails }).setPort p
        { s.port p with mismatches := 3, lockout := some 30000 }, .no .noWait) := by
  unfold unlockFailed
  dsimp only
  rw [if_pos (by omega)]
  cases p <;> rfl

/-! ## Bus holds of a port that locks -/

theorem holdDrop_running {s : State} {x : InProgress} (hx : s.bus.current = some x) (p : Port) (c : HoldCause) :
    holdDrop s p c =
      (if x.txn.requester = .port p then
        { s with bus := { s.bus with current := some { x with
            expiry := some (match x.expiry with
              | some c => c
              | none => if (s.bus.hold.any fun h => h.left == 0) = true then .deadline else c) } } }
       else s) := by
  unfold holdDrop
  rw [hx]
  cases s.bus.hold <;> rfl

theorem holdDrop_expires {s : State} {p : Port} (hx : s.bus.current = none) (hp : s.bus.hold.map (·.port) = some p)
    (c : HoldCause) : holdDrop s p c = (expireHold s p c).push .busChoose := by
  unfold holdDrop
  rw [hx]
  cases hh : s.bus.hold with
  | none => rw [hh] at hp; cases hp
  | some h =>
    rw [hh] at hp
    exact if_pos (Option.some.inj hp)

theorem holdDrop_other {s : State} {p : Port} (hx : s.bus.current = none) (hp : s.bus.hold.map (·.port) ≠ some p)
    (c : HoldCause) : holdDrop s p c = s := by
  unfold holdDrop
  rw [hx]
  cases hh : s.bus.hold with
  | none => rfl
  | some h =>
    rw [hh] at hp
    exact if_neg fun e => hp (congrArg some e)

theorem expireHold_noticed (s : State) (p : Port) (c : HoldCause) :
    Noticed
      { s with bus := { s.bus with hold := none }
               counts := { s.counts with busHoldExpired := bump s.counts.busHoldExpired } } (expireHold s p c) :=
  noticeMasked_noticed _ _ _ _ _

/-- A LOCK's effect on the bus, from a state that notices alone set apart from `v`. -/
theorem holdDrop_lock {v w : State} (h : Noticed v w) (p : Port) :
    Noticed
        { v with
          bus := (busAfterLock v.bus p).1, signals := v.signals ++ (busAfterLock v.bus p).2.2
          counts := { v.counts with
            busHoldExpired := if (busAfterLock v.bus p).2.1 then bump v.counts.busHoldExpired else v.counts.busHoldExpired } }
        (holdDrop w p .lock)
      ∧ ((busAfterLock v.bus p).2.1 = true → holdDrop w p .lock = (expireHold w p .lock).push .busChoose) := by
  have hb := h.bus
  unfold busAfterLock
  split
  · next x hx =>
    rw [holdDrop_running ((congrArg Bus.current hb).trans hx)]
    split
    · refine ⟨?_, nofun⟩
      dsimp only
      rw [List.append_nil, hb]
      exact h.onBus fun _ => _
    · refine ⟨?_, nofun⟩
      dsimp only
      rw [List.append_nil]
      exact h
  · next hx =>
    split
    · next hp =>
      have e := holdDrop_expires (hb ▸ hx) (hb ▸ hp) .lock
      refine ⟨?_, fun _ => e⟩
      rw [e]
      exact (((h.onBus fun b => { b with hold := none }).counting
        (fun c => { c with busHoldExpired := bump c.busHoldExpired }) fun _ _ => rfl).trans (noticeMasked_noticed _ _ _ _ _)).push .busChoose
    · next hp =>
      refine ⟨?_, nofun⟩
      rw [holdDrop_other (hb ▸ hx) (hb ▸ hp)]
      dsimp only
      rw [List.append_nil]
      exact h

theorem handleLock_lock {s : State} (p : Port) :
    handleLock s p = (holdDrop (levelAccessDrop (dropAccess s p) p) p .lock, .ok [kv "level" (.word "OPEN")] []) := rfl

/-! ## Credentials and minima -/

theorem handleCredSet_site {s : State} {a : CredArgs} {k : Option (List Char)} (hk : namedCred a.cred = some k)
    (hw : namedLevel a = some none) :
    ∃ r, handleCredSet s a = (s.settings fun cfg => { cfg with siteCred := k }, .ok r []) := by
  constructor
  unfold handleCredSet
  rw [hk, hw]

theorem handleCredSet_tenant {s : State} {a : CredArgs} {k : Option (List Char)} {t : Fin 4}
    (hk : namedCred a.cred = some k) (hw : namedLevel a = some (some t)) :
    ∃ r, handleCredSet s a =
      (s.settings fun cfg => { cfg with tenants := cfg.tenants.set t { cfg.tenants.get t with cred := k } }, .ok r []) := by
  constructor
  unfold handleCredSet
  rw [hk, hw]

/-- The new minimum of a group, taken by the level monitor where the group is ALIGN. -/
theorem handleAccessSet_known (s : State) (g : Group) (l : MinLevel) :
    ∃ r, handleAccessSet s (some (.known g)) (some (.known l)) =
      (if g = .align then alignMinimumChanged (s.settings fun cfg => { cfg with minima := cfg.minima.put g l })
       else s.settings fun cfg => { cfg with minima := cfg.minima.put g l }, .ok r []) := ⟨_, rfl⟩

theorem alignMinimumChanged_noticed (s : State) : ∃ l g,
    Noticed { s with level := l, signals := g } (alignMinimumChanged s) := by
  obtain ⟨l, g, h, _⟩ := levelAccessDrop_noticed s .main
  obtain ⟨l', g', h', _⟩ := levelAccessDrop_noticed (levelAccessDrop s .main) .service
  exact ⟨l', g', ((h.onLevel fun _ => l').withSignals g').trans h'⟩

theorem alignMinimumChanged_none {s : State}
    (h : ∀ p a, s.level.align = some a → a.owner = .port p → inGroup s p .align = true) : alignMinimumChanged s = s := by
  unfold alignMinimumChanged
  rw [levelAccessDrop_none (h .main), levelAccessDrop_none (h .service)]

theorem alignMinimumChanged_inGroup (s : State) (p : Port) (g : Group) :
    inGroup (alignMinimumChanged s) p g = inGroup s p g := by
  unfold alignMinimumChanged
  rw [levelAccessDrop_inGroup, levelAccessDrop_inGroup]

/-- A minimum of another group than ALIGN leaves who meets ALIGN. -/
theorem inGroup_align_minima (s : State) {g : Group} (hg : g ≠ .align) (l : MinLevel) (p : Port) :
    inGroup (s.settings fun cfg => { cfg with minima := cfg.minima.put g l }) p .align = inGroup s p .align := by
  cases g <;> first | rfl | exact absurd rfl hg

/-! ## Counters -/

/-- An index of a counter name that is not the one cleared keeps its count. -/
theorem clearing_select_other (c : Counters) {n m : CounterName} (h : m ≠ n) (f : Source → Nat → Nat)
    (g : Port → Nat → Nat) : (c.clearing n f g).select m = c.select m := by
  cases n <;> cases m <;> first | rfl | exact absurd rfl h

/-- What `f` and `g` make of the counts of every index. -/
def Selected.clearing (x : Selected) (f : Source → Nat → Nat) (g : Port → Nat → Nat) : Selected :=
  match x with
  | .plain _ => .plain 0
  | .source v => .source { gnss := f .gnss v.gnss, link := f .link v.link, aux := f .aux v.aux }
  | .port v => .port { main := g .main v.main, service := g .service v.service }

theorem clearing_select_same (c : Counters) (n : CounterName) (f : Source → Nat → Nat) (g : Port → Nat → Nat) :
    (c.clearing n f g).select n = (c.select n).clearing f g := by
  cases n <;> rfl

/-- Clearing one index puts its count to 0. -/
theorem clearing_source (v : PerSource Nat) (i : Source) (g : Port → Nat → Nat) :
    (Selected.source v).clearing (fun k n => if k = i then 0 else n) g = .source (v.put i 0) := by
  cases i <;> rfl

theorem clearing_port (v : PerPort Nat) (p : Port) (f : Source → Nat → Nat) :
    (Selected.port v).clearing f (fun k n => if k = p then 0 else n) = .port (v.put p 0) := by
  cases p <;> rfl

/-- Clearing every index of a name leaves no count of it. -/
theorem clearing_all (x : Selected) :
    (∀ v, x.clearing (fun _ _ => 0) (fun _ _ => 0) = .plain v → v = 0)
      ∧ (∀ v i, x.clearing (fun _ _ => 0) (fun _ _ => 0) = .source v → v.get i = 0)
      ∧ (∀ v p, x.clearing (fun _ _ => 0) (fun _ _ => 0) = .port v → v.get p = 0) := by
  refine ⟨fun v h => ?_, fun v i h => ?_, fun v p h => ?_⟩ <;> cases x <;> cases h
  · rfl
  · cases i <;> rfl
  · cases p <;> rfl

theorem sourceIndex_val (i : Fin 3) : sourceIndex (.num i.val) = some (sourceAt i) := by
  unfold sourceIndex
  dsimp only
  rw [indexOf_val, Option.map_some]

theorem sourceAt_index (i : Fin 3) : Source.index (sourceAt i) = i.val := by
  fin_cases i <;> rfl

section
variable {s : State} {n : CounterName}

theorem handleCountRead_plain {v : Nat} (h : s.counts.select n = .plain v) :
    handleCountRead s (some (.known n)) none =
      (s, .ok [kv "name" (.word (CounterName.word n)), kv "index" .absent, kv "value" (.nat v)] []) := by
  simp [handleCountRead, nameOf, h, counterReply]

theorem handleCountRead_source {v : PerSource Nat} (h : s.counts.select n = .source v) (i : Fin 3) :
    handleCountRead s (some (.known n)) (some (.num i.val)) =
      (s, .ok [kv "name" (.word (CounterName.word n)), kv "index" (.nat i.val),
               kv "value" (.nat (v.get (sourceAt i)))] []) := by
  simp [handleCountRead, nameOf, h, counterReply, sourceIndex_val, sourceAt_index]

theorem handleCountRead_port {v : PerPort Nat} (h : s.counts.select n = .port v) (p : Port) :
    handleCountRead s (some (.known n)) (some (.port p)) =
      (s, .ok [kv "name" (.word (CounterName.word n)), kv "index" (.word (Port.word p)),
               kv "value" (.nat (v.get p))] []) := by
  simp [handleCountRead, nameOf, h, counterReply, portIndex]

theorem handleCountClear_source {v : PerSource Nat} (h : s.counts.select n = .source v) (i : Fin 3) :
    ∃ r, handleCountClear s (some (.known n)) (some (.num i.val)) =
      (s.counting fun c => c.clearing n (fun k v => if k = sourceAt i then 0 else v) (fun _ v => v), .ok r []) := by
  constructor
  simp only [handleCountClear, h, sourceIndex_val]
  rfl

theorem handleCountClear_port {v : PerPort Nat} (h : s.counts.select n = .port v) (p : Port) :
    ∃ r, handleCountClear s (some (.known n)) (some (.port p)) =
      (s.counting fun c => c.clearing n (fun _ v => v) (fun k v => if k = p then 0 else v), .ok r []) := by
  constructor
  simp only [handleCountClear, h, portIndex]
  rfl

end

end Sys2Proof.Machine
end

section
/-! SUPPORT. The statements about the requests that the ports own. -/

open Sys2Proof Sys2Proof.Machine

/-- Settles O51. -/
theorem portOwnedRequestsAct : Obligations.PortOwnedRequestsAct := by
  intro s rq h u p
  have hu : portLine s rq.port = u := rfl
  clear_value u
  refine ⟨fun l => ⟨_, answersAt hu h (handleNoticeSet_known u p l)⟩, answersAt hu h (handleSummary_eq u p),
    fun n b hs hn => answersOkAt hu h ?_⟩
  have k := handleSummarySet_ok u p hs hn
  rw [applySummary_eq] at k
  exact k

/-- Settles O52. -/
theorem unlockAndLockAct : Obligations.UnlockAndLockAct := by
  intro s rq h u p
  have hu : portLine s rq.port = u := rfl
  clear_value u
  refine ⟨fun a who k hw hk => ⟨fun hl => answersAt hu h (handleUnlock_locked hw hk hl), fun hl hm => ?_, fun hl hm => ?_⟩, ?_⟩
  · intro v l falls
    refine ⟨_, _, answersAt hu h (handleUnlock_match hw hk hl hm), fun hf => ?_, fun hf => ?_⟩
    · have e : (atSite u p && who.isSome) = true := by simp [atSite, hf.1, hf.2]
      dsimp only
      rw [if_pos e]
      exact (levelAccessDrop_after v p).1
    · have e : ¬(atSite u p && who.isSome) = true := fun e => hf (by simpa [atSite] using e)
      exact if_neg e
  · have e := handleUnlock_mismatch (p := p) hw hk hl hm
    exact ⟨fun hn => answersAt hu h (e.trans (unlockFailed_early hn)),
      fun hn => answersAt hu h (e.trans (unlockFailed_third hn))⟩
  · intro v l b v'
    obtain ⟨hd, he⟩ := holdDrop_lock (levelAccessDrop_after v p) p
    exact ⟨_, answersAt hu h (handleLock_lock p), hd.1, fun hb => ⟨_, (levelAccessDrop_after v p).1, he hb⟩⟩

/-- Settles O53. -/
theorem accessSettingsSet : Obligations.AccessSettingsSet := by
  refine ⟨fun _ _ h e => (step_keeps (m := .all) rfl e).owners rfl h, fun s rq h ho => ?_⟩
  intro u
  have hu : portLine s rq.port = u := rfl
  have hou : AlignOwnersEntitled u := (portLine_keeps (m := .all) s rq.port).owners rfl ho
  clear_value u
  refine ⟨fun a k hk => ⟨fun hw => answersOkAt hu h (handleCredSet_site hk hw),
    fun t hw => answersOkAt hu h (handleCredSet_tenant hk hw)⟩, fun g l => ?_⟩
  intro v
  obtain ⟨r, e⟩ := handleAccessSet_known u g l
  refine ⟨_, r, answersAt hu h e, ?_⟩
  by_cases hg : g = .align
  · rw [if_pos hg]
    obtain ⟨lv, sg, hn⟩ := alignMinimumChanged_noticed v
    refine ⟨?_, fun hng => absurd hg hng, fun hk => alignMinimumChanged_none hk, fun p a ha hp hf hc => ?_⟩
    · have hl := hn.level
      have hs := hn.signals
      dsimp only at hl hs
      subst hl hs
      exact hn.1
    · obtain ⟨b, hb, hbo⟩ := Option.map_eq_some_iff.1 hc
      have hin := alignMinimumChanged_owners v p b hb hbo
      rw [alignMinimumChanged_inGroup, hf] at hin
      cases hin
  · rw [if_neg hg]
    refine ⟨.refl _, fun _ => rfl, fun _ => rfl, fun p a ha hp hf => ?_⟩
    have hin := hou p a ha hp
    rw [← inGroup_align_minima u hg l p] at hin
    exact absurd (hin.symm.trans hf) (by decide)

/-- Settles O54. -/
theorem countersReadAndCleared : Obligations.CountersReadAndCleared := by
  intro s rq n ht hx u
  have hu : portLine s rq.port = u := rfl
  clear_value u
  refine ⟨fun hv => ?_, fun hs => ?_⟩
  · have h : Executes s rq (.group .view) := ⟨ht, hx, hu ▸ hv⟩
    refine ⟨fun v hn => answersAt hu h ?_, fun v i hn => answersAt hu h ?_, fun v p hn => answersAt hu h ?_⟩
    · exact handleCountRead_plain hn
    · exact handleCountRead_source hn i
    · exact handleCountRead_port hn p
  · have h : Executes s rq .site := ⟨ht, hx, hu ▸ hs⟩
    refine ⟨⟨_, answersAt hu h rfl⟩, ⟨_, _, answersAt hu h rfl, fun m hm => clearing_select_other _ hm _ _, ?_⟩,
      fun v i hn => ?_, fun v p hn => ?_⟩
    · rw [clearing_select_same]
      exact clearing_all _
    · obtain ⟨r, e⟩ := handleCountClear_source hn i
      refine ⟨r, _, answersAt hu h e, fun m hm => clearing_select_other _ hm _ _, ?_⟩
      rw [clearing_select_same, hn, clearing_source]
    · obtain ⟨r, e⟩ := handleCountClear_port hn p
      refine ⟨r, _, answersAt hu h e, fun m hm => clearing_select_other _ hm _ _, ?_⟩
      rw [clearing_select_same, hn, clearing_port]

end

section
/-! SUPPORT. Single rows: the holds of the site clock, the timers of carriers, the discrete inputs' filters, the holds of
the part, RESTART's note, and the settings of timing and store. -/

namespace Sys2Proof.Machine

/-! ## The site clock's holds -/

theorem startHoldEnd_hold {s : State} {h : Nat} (hk : s.clock.startHold = some h) :
    startHoldEnd s = { s with clock := { s.clock.pass (h * 32768) with startHold := none } } := by
  unfold startHoldEnd State.onClock
  dsimp only
  rw [hk]
  rfl

theorem startHoldEnd_none {s : State} (hk : s.clock.startHold = none) : startHoldEnd s = s := by
  unfold startHoldEnd State.onClock
  dsimp only
  rw [hk]

theorem pulseWidthEnd_none {s : State} (hk : s.clock.pulseLeft = none) : pulseWidthEnd s = s := by
  unfold pulseWidthEnd State.onClock
  dsimp only
  rw [hk]

theorem pulseWidthEnd_pulse {s : State} {u n : Nat} (hk : s.clock.pulseLeft = some u) (hn : u / 327680 = n) :
    pulseWidthEnd s = { s with clock := { s.clock.stepLo n with ppsActive := false, pulseLeft := none } } := by
  subst hn
  unfold pulseWidthEnd State.onClock
  dsimp only
  rw [hk]
  rfl

/-- Steps on the LO without a start hold, within one, and past its end. -/
theorem stepLo_free {k : Clock} (h : k.startHold = none) (n : Nat) :
    k.stepLo n = { k.pass (n * 327680) with ns := min (k.ns + 10 * n) 999999990 } := by
  unfold Clock.stepLo Clock.pass
  dsimp only
  rw [h]
  rfl

theorem stepLo_within {k : Clock} {h n : Nat} (hk : k.startHold = some h) (hn : 10 * n < h) :
    k.stepLo n = { k.pass (n * 327680) with startHold := some (h - 10 * n) } := by
  unfold Clock.stepLo Clock.pass
  dsimp only
  rw [hk]
  exact if_pos hn

theorem stepLo_past {k : Clock} {h n : Nat} (hk : k.startHold = some h) (hn : h ≤ 10 * n) :
    k.stepLo n =
      { k.pass (n * 327680) with startHold := none, ns := min (k.ns + (10 * n - h)) 999999990 } := by
  unfold Clock.stepLo Clock.pass
  dsimp only
  rw [hk]
  exact if_neg (Nat.not_lt.2 hn)

/-! ## Resets and supply -/

theorem abandon_good (x : Store) : x.abandon.image.good = (x.writing.isNone && x.image.good) := by
  unfold Store.abandon
  cases h : x.writing <;> rfl

/-- Without supply every command but a power-on reset leaves the part without it. -/
theorem exec_off {s : State} (h : s.run = .off) {i : Instr} (hi : i ≠ .powerOnReset) :
    ∃ u, exec i s = .next u ∧ u.run = .off := by
  have hr : s.run ≠ .running := by rw [h]; exact nofun
  cases i
  case powerOnReset => exact absurd rfl hi
  case pinReset => exact ⟨s, congrArg _ (if_neg hr), h⟩
  case pinResetEnd => exact ⟨s, congrArg _ (if_neg (by rw [h]; exact nofun)), h⟩
  case inputPinChange i l => exact ⟨_, rfl, h⟩
  case supplyLoss => exact ⟨_, rfl, rfl⟩
  all_goals exact ⟨s, congrArg _ (live_stopped _ s hr), h⟩

/-! ## The discrete inputs' filters -/

theorem lowerInput_eq (s : State) (i : InputPin) : lowerInput s i =
    s.setInput i { s.site.inputs.get i with
      change :=
        if (s.site.inputs.get i).pin = (s.site.inputs.get i).filtered then none
        else some ((s.site.inputs.get i).pin, ((s.site.inputs.get i).change.map fun c => c.2 + 1).getD 0) } := by
  unfold lowerInput Input.lower
  cases (s.site.inputs.get i).change <;> rfl

theorem changeDue_setInput (s : State) (i : InputPin) (x : Input) : changeDue (s.setInput i x) i =
    match x.change with
    | some (l, n) => if s.cfg.filters.get i ≤ n then some l else none
    | none => none := by
  unfold changeDue
  rw [State.setInput_site, PerInput.get_put_same]
  rfl

/-! ## The timers of carriers -/

theorem restoreEnded_runs {s : State} {c : Fin 16} (h : (s.share.carriers.get c).restore.isSome) :
    restoreEnded s c = endRestore s c := if_pos h

theorem restoreEnded_none {s : State} {c : Fin 16} (h : (s.share.carriers.get c).restore = none) :
    restoreEnded s c = s := if_neg (by rw [h]; exact nofun)

theorem holdEnded_held {s : State} {c : Fin 16} {n : Nat} (h : (s.share.carriers.get c).state = .held)
    (k : (s.share.carriers.get c).hold = some (.ms n)) : holdEnded s c = endHold s c := by
  unfold holdEnded
  rw [h, k]

theorem holdEnded_other {s : State} {c : Fin 16}
    (h : (s.share.carriers.get c).state ≠ .held ∨ ∀ n, (s.share.carriers.get c).hold ≠ some (.ms n)) :
    holdEnded s c = s := by
  unfold holdEnded
  split
  · next n hs hh => exact absurd (h.resolve_left (not_not_intro hs) n) (not_not_intro hh)
  · rfl

/-! ## The hold of a port -/

theorem holdDeadline_idle {s : State} {h : Hold} (hh : s.bus.hold = some h) (hc : s.bus.current = none) :
    holdDeadline s = (expireHold s h.port .deadline).push .busChoose := by
  unfold holdDeadline
  rw [hh, hc]

/-! ## Requests -/

theorem applyPulse_eq (s : State) (p : PulseSettings) (div : Nat) : applyPulse s p div =
    { s with
      cfg := { s.cfg with pulse := p, auxDiv := div }
      clock := { s.clock with
        auxCount := if div = s.cfg.auxDiv ∨ s.clock.divert.isSome then s.clock.auxCount else 0 } } := by
  unfold applyPulse
  by_cases h : div = s.cfg.auxDiv ∨ s.clock.divert.isSome
  · rw [if_pos h, if_pos h]
    rfl
  · rw [if_neg h, if_neg h]
    rfl

theorem handlePulseSet_ok (s : State) {a : PulseArgs} (ha : pulseArgsOk a = true) : ∃ l, handlePulseSet s a =
    (applyPulse s { width := natOr s.cfg.pulse.width a.width, polarity := nameOr s.cfg.pulse.polarity a.polarity
                    squelch := nameOr s.cfg.pulse.squelch a.squelch } (natOr s.cfg.auxDiv a.auxDiv), .ok l []) := by
  unfold handlePulseSet
  rw [ha]
  exact ⟨_, rfl⟩

theorem handleTimingSet_ok (s : State) {a : TimingArgs} (ha : timingArgsOk a = true) : ∃ l, handleTimingSet s a =
    (s.settings fun cfg => { cfg with timing := s.cfg.timing.with a }, .ok l []) := by
  unfold handleTimingSet
  rw [ha]
  exact ⟨_, rfl⟩

theorem noteRestart_same {s t : State} (h : t.site = s.site) (p : Port) : noteRestart s t p = t := by
  unfold noteRestart
  rw [h]
  cases s.site.restart <;> rfl

theorem serveRestart_refused {s : State} {rq : Req} {r : Reply}
    (h : answer rq (.siteIn .sitePhase) (fun s => handleRestart s rq.port) s = offerReply s rq.port (.tag rq.tag) r) :
    serveRestart rq s = offerReply s rq.port (.tag rq.tag) r := by
  unfold serveRestart
  rw [h, noteRestart_same (offerReply_site _ _ _ _)]

/-- Every request but RESTART is answered by its block, with the need of its row. -/
theorem exec_request {i : Instr} {rq : Req} {n : Need} (h : requestOf i = some (rq, n)) :
    (∃ f, ∀ s, exec i s = .next (requestRow rq (answer rq n f) s)) ∨ (i = .restart rq ∧ n = .siteIn .sitePhase) := by
  cases i
  case restart rq' => cases h; exact .inr ⟨rfl, rfl⟩
  all_goals first | (cases h; done) | (cases h; exact .inl ⟨_, fun _ => rfl⟩)

theorem answer_noLevel {rq : Req} {n : Need} {f : State → State × Reply} {s : State} (k : n.met s rq.port = false) :
    answer rq n f s = offerReply s rq.port (.tag rq.tag) (.no .noLevel) := by
  unfold answer
  rw [k]
  rfl

theorem answer_foreignKey {rq : Req} {n : Need} {f : State → State × Reply} {s : State} (k : n.met s rq.port = true)
    (e : rq.extra = true) : answer rq n f s = offerReply s rq.port (.tag rq.tag) (.no .noRange) := by
  unfold answer
  rw [k, e]
  rfl

theorem answer_executes {rq : Req} {n : Need} {f : State → State × Reply} {s : State} (k : n.met s rq.port = true)
    (e : rq.extra = false) : answer rq n f s = offerReply (f s).1 rq.port (.tag rq.tag) (f s).2 := by
  unfold answer
  rw [k, e]
  rfl

end Sys2Proof.Machine
end

section
/-! SUPPORT. The statements about single rows. -/

open Sys2Proof Sys2Proof.Machine

/-- Settles O28. -/
theorem clockHoldsEnd : Obligations.ClockHoldsEnd := by
  intro s hr k passed
  refine ⟨fun h hk => lives hr ?_, fun hk => lives hr (startHoldEnd_none hk), fun u hu => ?_,
    fun hk => lives hr (pulseWidthEnd_none hk)⟩
  · rw [startHoldEnd_hold hk]
    dsimp only [passed]
    generalize h * 32768 = m
    rfl
  intro n ended
  have hd : u / 327680 = n := rfl
  clear_value n
  refine ⟨fun hk => lives hr ?_, fun h hk hn => lives hr ?_, fun h hk hn => lives hr ?_⟩
  · rw [pulseWidthEnd_pulse hu hd, stepLo_free hk]
    dsimp only [ended, passed]
    generalize n * 327680 = m
    rfl
  · rw [pulseWidthEnd_pulse hu hd, stepLo_within hk hn]
    dsimp only [ended, passed]
    generalize n * 327680 = m
    rfl
  · rw [pulseWidthEnd_pulse hu hd, stepLo_past hk hn]
    dsimp only [ended, passed]
    generalize n * 327680 = m
    rfl

/-- Settles O10. -/
theorem pinResetHoldsPart : Obligations.PinResetHoldsPart := by
  intro s hr
  refine ⟨pinReset s, congrArg _ (if_pos hr), rfl, fun l => replicate_get false l, rfl, fun i => by cases i <;> rfl,
    fun _ => rfl, (abandon_fields _).2, abandon_good _, (abandon_fields _).1, rfl, rfl, rfl⟩

/-- Settles O11. -/
theorem supplyLossStopsPart : Obligations.SupplyLossStopsPart := by
  intro s
  exact ⟨quiesce s .off, rfl, rfl, (abandon_fields _).2, abandon_good _, (abandon_fields _).1,
    fun l => replicate_get false l, fun _ => exec_off rfl⟩

/-- Settles O23. -/
theorem pinLevelsGoUnderTest : Obligations.PinLevelsGoUnderTest := by
  intro s i
  refine ⟨fun level => rfl, fun he => ?_, fun hn hc => ?_, fun l n hn hc => ?_⟩
  · rw [lowerInput_eq, if_pos he]
    exact ⟨rfl, changeDue_setInput _ _ _⟩
  · rw [lowerInput_eq, if_neg hn, hc]
    refine ⟨rfl, (changeDue_setInput _ _ _).trans ?_⟩
    simp
  · rw [lowerInput_eq, if_neg hn, hc]
    exact ⟨rfl, changeDue_setInput _ _ _⟩

/-- Settles O26. -/
theorem busHoldExpires : Obligations.BusHoldExpires := by
  intro s h hr hh hc
  exact ⟨_, lives hr (holdDeadline_idle hh hc), ((expireHold_noticed s h.port .deadline).push .busChoose).1⟩

/-- Settles O33. -/
theorem timingSettingsSet : Obligations.TimingSettingsSet := by
  intro s rq hx u
  have hu : portLine s rq.port = u := rfl
  clear_value u
  refine ⟨fun a ha => ?_, fun a ha => ?_⟩
  · have h := handlePulseSet_ok u ha
    rw [applyPulse_eq] at h
    exact answersOkAt hu hx h
  · exact answersOkAt hu hx (handleTimingSet_ok u ha)

/-- Settles O42. -/
theorem carrierTimersExpire : Obligations.CarrierTimersExpire := by
  intro s c hr
  exact ⟨fun h => lives hr (restoreEnded_runs h), fun h => lives hr (restoreEnded_none h),
    fun n h k => lives hr (holdEnded_held h k), fun h => lives hr (holdEnded_other h)⟩

/-- Settles O49. -/
theorem restartNoted : Obligations.RestartNoted := by
  intro s rq hx u v noted
  obtain ⟨ht, he, hm⟩ := hx
  have row : exec (.restart rq) s = .next (settle (serveRestart rq u)) := congrArg _ (requestRow_takes rq _ s ht)
  have ha : answer rq (.siteIn .sitePhase) (fun s => handleRestart s rq.port) u =
      offerReply (handleRestart u rq.port).1 rq.port (.tag rq.tag) (handleRestart u rq.port).2 :=
    answer_executes hm he
  clear_value u
  refine ⟨fun hn => ?_, fun hs => ?_⟩
  · have hh : handleRestart u rq.port =
        (u.onSite fun x => { x with restart := some { port := rq.port, lines := 0 } }, .ok [] []) := by
      unfold handleRestart
      rw [hn]
      rfl
    rw [row]
    unfold serveRestart
    rw [ha, hh]
    unfold noteRestart
    rw [hn, offerReply_site]
    rfl
  · have hh : handleRestart u rq.port = (u, .no .noBusy) := if_pos hs
    rw [hh] at ha
    rw [row, serveRestart_refused ha]
    rfl

/-- Settles O57. -/
theorem requestsRefused : Obligations.RequestsRefused := by
  intro s i rq n hq hr u
  obtain ⟨f, hf⟩ | ⟨rfl, rfl⟩ := exec_request hq
  · rw [hf]
    exact ⟨fun hc hm => congrArg _ (requestRow_noLevel _ _ _ _ ⟨hr, hc⟩ hm),
      fun hc hm he => congrArg _ (requestRow_foreignKey _ _ _ _ ⟨hr, hc⟩ hm he),
      fun hc => congrArg _ (requestRow_waits _ _ _ hr hc)⟩
  · refine ⟨fun hc hm => ?_, fun hc hm he => ?_, fun hc => congrArg _ (requestRow_waits _ _ _ hr hc)⟩
    · refine (congrArg _ (requestRow_takes rq (serveRestart rq) s ⟨hr, hc⟩)).trans ?_
      rw [serveRestart_refused (answer_noLevel hm)]
      rfl
    · refine (congrArg _ (requestRow_takes rq (serveRestart rq) s ⟨hr, hc⟩)).trans ?_
      rw [serveRestart_refused (answer_foreignKey hm he)]
      rfl

/-- Settles O59. -/
theorem storeReadReplies : Obligations.StoreReadReplies := by
  intro s rq ht he u b
  have hu : portLine s rq.port = u := rfl
  clear_value u
  refine ⟨fun hg => ⟨fun hw => ?_, fun w hw => ?_⟩, fun hg => ?_, fun hg => ?_⟩
  · refine answersAt hu ⟨ht, he, hu ▸ hg⟩ ?_
    unfold handleStoreRead
    dsimp only
    rw [show u.store.writing = none from hw]
    rfl
  · refine answersAt hu ⟨ht, he, hu ▸ hg⟩ ?_
    unfold handleStoreRead
    dsimp only
    rw [show u.store.writing = some w from hw]
    rfl
  · exact hu ▸ answers_noLevel (n := .group .store) ht (hu ▸ hg)
  · refine ⟨_, answersAt hu ⟨ht, he, hu ▸ hg⟩ rfl, ?_⟩
    exact List.mem_append_right _ (by simp [b])

end

section
/-! SUPPORT. The bus controller: the end of the transaction in progress, with the hold and the results it leaves, and
the choice of the next one. -/

namespace Sys2Proof.Machine

/-! ## The end of a transaction -/

/-- The completion counters after a status. -/
def statusCounted (c : Counters) (st : BusStatus) : Counters :=
  { c with
    busOk := if st = .ok then bump c.busOk else c.busOk
    busNak := if st = .nak then bump c.busNak else c.busNak
    busArb := if st = .arbLost then bump c.busArb else c.busArb
    busTimeout := if st = .timeout then bump c.busTimeout else c.busTimeout }

theorem countStatus_noticed (s : State) (st : BusStatus) :
    Noticed { s with counts := statusCounted s.counts st } (countStatus s st) := by
  cases st
  case ok => exact .refl _
  case cancelled => exact .refl _
  case nak => exact setFlagBoth_noticed _ .busError
  case arbLost => exact setFlagBoth_noticed _ .busError
  case timeout => exact setFlagBoth_noticed _ .busError

theorem reportPort_noticed (s : State) (p : Port) (x : Txn) :
    Noticed
      { s with bus := { s.bus with
        results := s.bus.results.put p ((s.bus.results.get p ++ [x]).drop ((s.bus.results.get p).length + 1 - 4)) } }
      (reportPort s p x) := by
  have h : Noticed
      { s with bus := { s.bus with
        results := s.bus.results.put p ((s.bus.results.get p ++ [x]).drop ((s.bus.results.get p ++ [x]).length - 4)) } }
      (reportPort s p x) := notice_noticed _ _ _ _
  rw [List.length_append] at h
  exact h

/-- Whether a continuing transaction that ends OK finds its hold at an end. -/
def holdOver (b : Bus) (e : Option HoldCause) : Bool := e.isSome || b.hold.any fun h => h.left == 0

/-- The hold that a port's transaction leaves as it ends. -/
def holdLeft (b : Bus) (p : Port) (x : Txn) (ok : Bool) (e : Option HoldCause) : Option Hold :=
  if ok && x.cont && !holdOver b e then
    some { port := p, left := (b.hold.map (·.left)).getD 100, phase := openPhaseOf x }
  else none

/-- BUS_HOLD_EXPIRED after the end of a port's transaction. -/
def holdsCounted (n : Nat) (b : Bus) (x : Txn) (ok : Bool) (e : Option HoldCause) : Nat :=
  if ok && x.cont && holdOver b e then bump n else n

theorem updateHold_noticed (s : State) (p : Port) (x : Txn) (ok : Bool) (e : Option HoldCause) :
    Noticed
      { s with
        bus := { s.bus with hold := holdLeft s.bus p x ok e }
        counts := { s.counts with busHoldExpired := holdsCounted s.counts.busHoldExpired s.bus x ok e } }
      (updateHold s p x ok e) := by
  have expires (c : HoldCause) := expireHold_noticed s p c
  unfold updateHold holdLeft holdsCounted holdOver
  cases hk : ok && x.cont
  · exact .refl _
  · cases e with
    | some c => exact expires c
    | none =>
      cases hb : s.bus.hold with
      | none => exact .refl _
      | some h =>
        by_cases h0 : h.left = 0
        · have e0 : (some h).any (fun h => h.left == 0) = true := beq_iff_eq.2 h0
          rw [e0]
          simp only [h0]
          exact expires .deadline
        · have e0 : (some h).any (fun h => h.left == 0) = false := beq_eq_false_iff_ne.2 h0
          rw [e0]
          simp only [h0]
          exact .refl _

/-- The state that the end of the transaction in progress leaves, but for notices: with the given hold and results, and
what it delivers. -/
def txnOver (s : State) (st : BusStatus) (hold : Option Hold) (results : PerPort (List Txn)) (n : Nat)
    (l : List Signal) : State :=
  { s with
    bus := { s.bus with current := none, hold := hold, results := results }
    counts := { statusCounted s.counts st with busHoldExpired := n }
    signals := s.signals ++ l }

section
variable {s : State} {x : InProgress} (st : BusStatus) (w : Nat) (d : List Byte)

/-- The count of a completion, with no transaction in progress any more. -/
def txnCounted (s : State) (st : BusStatus) : State := countStatus (s.onBus fun b => { b with current := none }) st

theorem completeCurrent_port_eq {p : Port} (hp : x.txn.requester = .port p) : completeCurrent s x st w d =
    (updateHold (reportPort (txnCounted s st) p (endedTxn x st w d)) p (endedTxn x st w d) (st == .ok) x.expiry).push
      .busChoose := by
  obtain ⟨y, _, _, _⟩ := x
  cases y
  cases hp
  rfl

theorem completeCurrent_link_eq (hp : x.txn.requester = .link) : completeCurrent s x st w d =
    ((txnCounted s st).push (.completeLink (endedTxn x st w d))).push .busChoose := by
  obtain ⟨y, _, _, _⟩ := x
  cases y
  cases hp
  rfl

theorem completeCurrent_test_eq (hp : x.txn.requester = .test) : completeCurrent s x st w d =
    ((txnCounted s st).push (.completeTest (endedTxn x st w d))).push .busChoose := by
  obtain ⟨y, _, _, _⟩ := x
  cases y
  cases hp
  rfl

theorem txnCounted_noticed (s : State) (st : BusStatus) :
    Noticed { s with bus := { s.bus with current := none }, counts := statusCounted s.counts st } (txnCounted s st) :=
  countStatus_noticed _ st

theorem completeCurrent_port {p : Port} (hp : x.txn.requester = .port p) :
    Noticed
      (txnOver s st (holdLeft s.bus p x.txn (st == .ok) x.expiry)
        (s.bus.results.put p ((s.bus.results.get p ++ [endedTxn x st w d]).drop ((s.bus.results.get p).length + 1 - 4)))
        (holdsCounted s.counts.busHoldExpired s.bus x.txn (st == .ok) x.expiry) [.busChoose])
      (completeCurrent s x st w d) := by
  have hc := txnCounted_noticed s st
  have hr := reportPort_noticed (txnCounted s st) p (endedTxn x st w d)
  rw [completeCurrent_port_eq st w d hp]
  generalize reportPort (txnCounted s st) p (endedTxn x st w d) = v at hr ⊢
  generalize txnCounted s st = u at hc hr
  have hu := updateHold_noticed v p (endedTxn x st w d) (st == .ok) x.expiry
  have hv : Noticed
      { s with
        bus := { s.bus with
          current := none
          results := s.bus.results.put p
            ((s.bus.results.get p ++ [endedTxn x st w d]).drop ((s.bus.results.get p).length + 1 - 4)) }
        counts := statusCounted s.counts st } v := by
    refine Noticed.trans ?_ hr
    rw [hc.bus]
    exact hc.withBus _
  have hn : v.counts.busHoldExpired = s.counts.busHoldExpired := by
    rw [hv.1.1]
    rfl
  have hl : holdLeft v.bus p (endedTxn x st w d) (st == .ok) x.expiry
      = holdLeft s.bus p (endedTxn x st w d) (st == .ok) x.expiry := by
    unfold holdLeft holdOver
    rw [hv.bus]
  have hc : holdsCounted v.counts.busHoldExpired v.bus (endedTxn x st w d) (st == .ok) x.expiry
      = holdsCounted s.counts.busHoldExpired s.bus (endedTxn x st w d) (st == .ok) x.expiry := by
    unfold holdsCounted holdOver
    rw [hv.bus, hn]
  rw [hl, hc] at hu
  have hk := ((hv.onBus fun b => { b with hold := holdLeft s.bus p (endedTxn x st w d) (st == .ok) x.expiry }).counting
    (fun c => { c with
      busHoldExpired := holdsCounted s.counts.busHoldExpired s.bus (endedTxn x st w d) (st == .ok) x.expiry })
    fun _ _ => rfl).trans hu
  exact hk.push .busChoose

theorem completeCurrent_link (hp : x.txn.requester = .link) :
    Noticed
      (txnOver s st s.bus.hold s.bus.results s.counts.busHoldExpired [.completeLink (endedTxn x st w d), .busChoose])
      (completeCurrent s x st w d) := by
  rw [completeCurrent_link_eq st w d hp]
  refine (((txnCounted_noticed s st).push _).push .busChoose).congr ?_ rfl
  unfold txnOver State.push
  simp only [List.append_assoc, List.cons_append, List.nil_append]
  rfl

theorem completeCurrent_test (hp : x.txn.requester = .test) :
    Noticed
      (txnOver s st s.bus.hold s.bus.results s.counts.busHoldExpired [.completeTest (endedTxn x st w d), .busChoose])
      (completeCurrent s x st w d) := by
  rw [completeCurrent_test_eq st w d hp]
  refine (((txnCounted_noticed s st).push _).push .busChoose).congr ?_ rfl
  unfold txnOver State.push
  simp only [List.append_assoc, List.cons_append, List.nil_append]
  rfl

end

/-- What the frame of an ended transaction says of its state. -/
theorem txnOver_fields {s t : State} {st : BusStatus} {hold : Option Hold} {results : PerPort (List Txn)} {n : Nat}
    {l : List Signal} (h : Noticed (txnOver s st hold results n l) t) :
    t.bus.hold = hold ∧ t.bus.results = results ∧ t.counts.busHoldExpired = n ∧ t.signals = s.signals ++ l := by
  have hb := h.bus
  refine ⟨by rw [hb]; rfl, by rw [hb]; rfl, ?_, h.signals⟩
  rw [h.1.1]
  rfl

theorem txnOver_frame {s t : State} {st : BusStatus} {hold : Option Hold} {results : PerPort (List Txn)} {n : Nat}
    {l : List Signal} (h : Noticed (txnOver s st hold results n l) t) :
    AfterNotices
      { s with
        bus := { s.bus with current := none, hold := t.bus.hold, results := t.bus.results }
        counts := { statusCounted s.counts st with busHoldExpired := t.counts.busHoldExpired }
        signals := t.signals } t := by
  obtain ⟨hh, hr, hn, hs⟩ := txnOver_fields h
  rw [hh, hr, hn, hs]
  exact h.1

theorem holdLeft_ends {b : Bus} {p : Port} {x : Txn} {ok : Bool} {e : Option HoldCause} (n : Nat)
    (h : ok = false ∨ x.cont = false) : holdLeft b p x ok e = none ∧ holdsCounted n b x ok e = n := by
  unfold holdLeft holdsCounted
  have hk : (ok && x.cont) = false := by
    rw [Bool.and_eq_false_iff]
    exact h
  rw [hk]
  exact ⟨rfl, rfl⟩

theorem holdLeft_over {b : Bus} {p : Port} {x : Txn} {e : Option HoldCause} (n : Nat) (hc : x.cont = true)
    (h : holdOver b e = true) : holdLeft b p x true e = none ∧ holdsCounted n b x true e = bump n := by
  unfold holdLeft holdsCounted
  rw [hc, h]
  exact ⟨rfl, rfl⟩

theorem holdLeft_kept {b : Bus} {p : Port} {x : Txn} {e : Option HoldCause} (n : Nat) (hc : x.cont = true)
    (h : holdOver b e = false) : holdLeft b p x true e =
      some { port := p, left := (b.hold.map (·.left)).getD 100, phase := openPhaseOf x }
      ∧ holdsCounted n b x true e = n := by
  unfold holdLeft holdsCounted
  rw [hc, h]
  exact ⟨rfl, rfl⟩

theorem completeCurrent_ended (s : State) (x : InProgress) (st : BusStatus) (w : Nat) (d : List Byte) :
    TxnEnded s (completeCurrent s x st w d) x st w d := by
  cases hq : x.txn.requester with
  | link =>
    have h := completeCurrent_link (s := s) st w d hq
    obtain ⟨hh, hr, hn, hs⟩ := txnOver_fields h
    exact ⟨txnOver_frame h, fun p hp => (nomatch hq.symm.trans hp), fun _ => ⟨hs, hr, hh, hn⟩,
      fun hp => nomatch hq.symm.trans hp⟩
  | test =>
    have h := completeCurrent_test (s := s) st w d hq
    obtain ⟨hh, hr, hn, hs⟩ := txnOver_fields h
    exact ⟨txnOver_frame h, fun p hp => (nomatch hq.symm.trans hp), fun hp => (nomatch hq.symm.trans hp),
      fun _ => ⟨hs, hr, hh, hn⟩⟩
  | port p =>
    have h := completeCurrent_port (s := s) st w d hq
    obtain ⟨hh, hr, hn, hs⟩ := txnOver_fields h
    refine ⟨txnOver_frame h, fun q hp => ?_, fun hp => (nomatch hq.symm.trans hp), fun hp => (nomatch hq.symm.trans hp)⟩
    cases hq.symm.trans hp
    rw [hh, hr, hn, hs]
    refine ⟨PerPort.get_put_same _ _ _, fun q' hq' => PerPort.get_put_other _ _ hq', rfl, fun hc => ?_,
      fun ho hc he => ?_, fun ho hc he hl => ?_⟩
    · exact holdLeft_ends _ (hc.imp (fun k => beq_eq_false_iff_ne.2 k) id)
    · cases ho
      refine holdLeft_over _ hc ?_
      unfold holdOver
      rw [Bool.or_eq_true]
      exact he
    · cases ho
      refine holdLeft_kept _ hc ?_
      unfold holdOver
      rw [he, hl]
      rfl

/-! ## The events on the wires -/

section
variable {s : State} {x : InProgress} (h : s.bus.current = some x)
include h

theorem busStart_current :
    busStart s = { s with bus := { s.bus with current := some { x with started := true } } } := by
  unfold busStart
  rw [h]
  rfl

theorem busFreeTimeout_waiting (hs : x.started = false) : busFreeTimeout s = completeCurrent s x .timeout 0 [] := by
  unfold busFreeTimeout
  rw [h]
  exact if_neg (by rw [hs]; exact Bool.false_ne_true)

theorem busStretch_current (w : Nat) (d : List Byte) :
    busStretch s w d = completeCurrent s x .timeout (min w x.txn.write.length) (d.take x.txn.read) := by
  unfold busStretch
  rw [h]

theorem busComplete_ok {d : List Byte} (hd : d.length = x.txn.read) :
    busComplete s (.ok d) = completeCurrent s x .ok x.txn.write.length d := by
  unfold busComplete
  rw [h]
  exact if_pos hd

theorem busComplete_other {d : List Byte} (hd : d.length ≠ x.txn.read) : busComplete s (.ok d) = s := by
  unfold busComplete
  rw [h]
  exact if_neg hd

theorem busComplete_nak (w : Nat) :
    busComplete s (.nak w) = completeCurrent s x .nak (min w x.txn.write.length) [] := by
  unfold busComplete
  rw [h]

theorem busComplete_arbLost (w : Nat) (d : List Byte) : busComplete s (.arbLost w d) =
    completeCurrent s x .arbLost (min w x.txn.write.length) (d.take x.txn.read) := by
  unfold busComplete
  rw [h]

end

/-! ## The choice -/

theorem pickFirst_none {α : Type} {f : α → Bool} {l : List α} (h : ∀ x ∈ l, f x = false) : pickFirst f l = none := by
  induction l with
  | nil => rfl
  | cons y l ih =>
    unfold pickFirst
    rw [h y (List.mem_cons_self ..), ih fun x hx => h x (List.mem_cons_of_mem _ hx)]
    rfl

theorem pickFirst_some {α : Type} {f : α → Bool} {before after : List α} {x : α} (h : ∀ y ∈ before, f y = false)
    (hx : f x = true) : pickFirst f (before ++ x :: after) = some (x, before ++ after) := by
  induction before with
  | nil =>
    show pickFirst f (x :: after) = _
    unfold pickFirst
    rw [hx]
    rfl
  | cons y l ih =>
    show pickFirst f (y :: (l ++ x :: after)) = _
    unfold pickFirst
    rw [h y (List.mem_cons_self ..), ih fun z hz => h z (List.mem_cons_of_mem _ hz)]
    rfl

section
variable {s u : State} {x : Txn} (n : Nat) (hc : s.bus.current = none)
include hc

theorem chooseNext_none (ht : takeNext s = none) : chooseNext (n + 1) s = s := by
  unfold chooseNext
  rw [hc, ht]
  rfl

theorem chooseNext_start (ht : takeNext s = some (x, u)) (hs : x.start = true) : chooseNext (n + 1) s =
    u.onBus fun b => { b with current := some { txn := x, ms := 0, started := startsAtOnce b.hold, expiry := none } } := by
  unfold chooseNext
  rw [hc, ht]
  exact if_pos hs

theorem chooseNext_continues (ht : takeNext s = some (x, u)) (hs : x.start = false)
    (hk : continues u.bus.hold x = true) : chooseNext (n + 1) s =
    u.onBus fun b => { b with current := some { txn := x, ms := 0, started := true, expiry := none } } := by
  unfold chooseNext
  rw [hc, ht]
  simp only [hs, hk]
  rfl

theorem chooseNext_cancels (ht : takeNext s = some (x, u)) (hs : x.start = false)
    (hk : continues u.bus.hold x = false) : chooseNext (n + 1) s =
    chooseNext n (deliverTxn u { x with status := some .cancelled, written := 0, data := [] }) := by
  conv_lhs => unfold chooseNext
  rw [hc, ht]
  simp only [hs, hk]
  rfl

end

theorem chooseNext_current {s : State} (h : s.bus.current.isSome) (n : Nat) : chooseNext n s = s := by
  cases n with
  | zero => rfl
  | succ n =>
    unfold chooseNext
    exact if_pos h

section
variable {s : State} {x : Txn} (hh : s.bus.hold = none)
include hh

theorem takeNext_profile (hp : s.bus.profileSlot = some x) :
    takeNext s = some (x, s.onBus fun b => { b with profileSlot := none }) := by
  unfold takeNext
  rw [hh]
  simp only [hp]

theorem takeNext_internal (hp : s.bus.profileSlot = none) (hi : s.bus.internalSlot = some x) :
    takeNext s = some (x, internalEmptied (s.onBus fun b => { b with internalSlot := none })) := by
  unfold takeNext
  rw [hh]
  simp only [hp, hi]

theorem takeNext_fifo {l : List Txn} (hp : s.bus.profileSlot = none) (hi : s.bus.internalSlot = none)
    (hf : s.bus.fifo = x :: l) : takeNext s = some (x, s.onBus fun b => { b with fifo := l }) := by
  unfold takeNext
  rw [hh]
  simp only [hp, hi, hf]

theorem takeNext_nothing (hp : s.bus.profileSlot = none) (hi : s.bus.internalSlot = none)
    (hf : s.bus.fifo = []) : takeNext s = none := by
  unfold takeNext
  rw [hh]
  simp only [hp, hi, hf]

end

theorem takeNext_hold {s : State} {h : Hold} (hh : s.bus.hold = some h) : takeNext s =
    (pickFirst (fun t => decide (t.requester = .port h.port)) s.bus.fifo).map fun r =>
      (r.1, s.onBus fun b => { b with fifo := r.2 }) := by
  unfold takeNext
  rw [hh]

theorem internalEmptied_eq (s : State) : internalEmptied s =
    { s with
      bus := { s.bus with noteLink := false, noteTest := false }
      signals := s.signals ++ (if s.bus.noteLink then [.slotFreeLink] else [])
        ++ (if s.bus.noteTest then [.slotFreeTest] else []) } := by
  unfold internalEmptied
  cases hl : s.bus.noteLink <;> cases ht : s.bus.noteTest <;> simp [State.push, State.onBus, ht]

theorem startsAtOnce_hold (h : Hold) : startsAtOnce (some h) = decide (h.phase ≠ .closed) := by
  obtain ⟨_, _, phase⟩ := h
  cases phase <;> rfl

theorem continues_hold {h : Hold} {x : Txn} (hm : x.requester = .port h.port)
    (hk : if x.read = 0 then h.phase = .write else h.phase = .readAcked) : continues (some h) x = true := by
  unfold continues
  rw [Bool.and_eq_true]
  refine ⟨decide_eq_true hm, ?_⟩
  split at hk <;> next hr => simp [hr, hk]

theorem deliverTxn_port {x : Txn} {p : Port} (h : x.requester = .port p) (s : State) :
    deliverTxn s x = reportPort s p x := by
  unfold deliverTxn
  cases x
  cases h
  rfl

/-- The cancelled continuation was the last transaction waiting, and the choice ends. -/
theorem chooseNext_cancelled {s : State} {x : Txn} {p : Port} (hc : s.bus.current = none) (hh : s.bus.hold = none)
    (hp : s.bus.profileSlot = none) (hi : s.bus.internalSlot = none) (hf : s.bus.fifo = []) (hr : x.requester = .port p)
    (n : Nat) : chooseNext (n + 1) (deliverTxn s x) = reportPort s p x := by
  have h := (reportPort_noticed s p x).bus
  rw [deliverTxn_port hr]
  generalize reportPort s p x = v at h ⊢
  exact chooseNext_none n (by rw [h]; exact hc)
    (takeNext_nothing (by rw [h]; exact hh) (by rw [h]; exact hp) (by rw [h]; exact hi) (by rw [h]; exact hf))

/-- The transaction that an accepted BUS XFER queues. -/
def xferOf (p : Port) (tag : Tag) (a : XferArgs) : Txn :=
  let fl := a.flags.getD [.start, .stop]
  { requester := .port p, tag := some tag, purpose := none, target := none, attempt := 1, confirm := false
    addr := natOr 0 a.addr, write := a.write, read := natOr 0 a.read
    start := decide (BusFlag.start ∈ fl), stop := decide (BusFlag.stop ∈ fl)
    ackLast := decide (BusFlag.ackLast ∈ fl), cont := decide (BusFlag.cont ∈ fl)
    status := none, written := 0, data := [] }

section
variable {s : State} {p : Port} {tag : Tag} {a : XferArgs}

theorem handleBusXfer_fits (hc : xferCause a (a.flags.getD [.start, .stop]) = none) (hl : s.bus.fifo.length < 4) :
    handleBusXfer s p tag a =
      ((s.onBus fun b => { b with fifo := b.fifo ++ [xferOf p tag a] }).push .busChoose, .go) := by
  unfold handleBusXfer
  simp only [hc]
  exact if_neg (Nat.not_le.2 hl)

theorem handleBusXfer_full (hc : xferCause a (a.flags.getD [.start, .stop]) = none) (hl : 4 ≤ s.bus.fifo.length) :
    handleBusXfer s p tag a = (s, .no .noFull) := by
  unfold handleBusXfer
  simp only [hc]
  exact if_pos hl

theorem handleBusXfer_error {c : String} (hc : xferCause a (a.flags.getD [.start, .stop]) = some c) :
    handleBusXfer s p tag a = (s, .ok [kv "status" (.word "REQ_ERROR"), kv "cause" (.word c)] []) := by
  unfold handleBusXfer
  simp only [hc]

end

theorem xferCause_addr {a : XferArgs} {fl : List BusFlag} (h : xferCause a fl = none) :
    some (natOr 0 a.addr : Int) = a.addr := by
  unfold xferCause at h
  cases ha : a.addr with
  | none => simp [ha] at h
  | some i =>
    by_cases hi : inRange 0 127 (some i) = true
    · unfold inRange at hi
      rw [Bool.and_eq_true, decide_eq_true_eq, decide_eq_true_eq] at hi
      exact congrArg some (Int.toNat_of_nonneg hi.1)
    · simp [ha, hi] at h

end Sys2Proof.Machine
end

section
/-! SUPPORT. The statements about the bus controller. -/

open Sys2Proof Sys2Proof.Machine

/-- Settles O24. -/
theorem busXferQueues : Obligations.BusXferQueues := by
  refine ⟨fun s rq a hx => ?_, fun s => ?_⟩
  · intro u fl
    have hu : portLine s rq.port = u := rfl
    clear_value u
    exact ⟨fun hc hl => ⟨xferOf rq.port rq.tag a, answersAt hu hx (handleBusXfer_fits hc hl), rfl, rfl,
        xferCause_addr hc, rfl, rfl, decide_eq_true_iff, decide_eq_true_iff, decide_eq_true_iff, decide_eq_true_iff,
        rfl⟩,
      fun hc hl => answersAt hu hx (handleBusXfer_full hc hl), fun c hc => answersAt hu hx (handleBusXfer_error hc)⟩
  · intro t b taken mine results
    have ht : t = chooseNext 5 s := rfl
    clear_value t
    subst ht
    refine ⟨fun h => chooseNext_current h 5, fun hc hh => ⟨fun x hp hs => ?_, fun x hp hi hs => ?_,
      fun x l hp hi hf hs => ?_, fun x p hp hi hf hs hr => ?_, fun hp hi hf => ?_⟩, fun h hc hh => ⟨fun hn => ?_,
      fun x before after hf hb hm => ⟨fun hs => ?_, fun hs hk => ?_⟩⟩⟩
    · rw [chooseNext_start 4 hc (takeNext_profile hh hp) hs]
      unfold State.onBus
      dsimp only
      rw [hh]
      rfl
    · rw [chooseNext_start 4 hc (takeNext_internal hh hp hi) hs, internalEmptied_eq]
      unfold State.onBus
      dsimp only
      rw [hh]
      rfl
    · rw [chooseNext_start 4 hc (takeNext_fifo hh hp hi hf) hs]
      unfold State.onBus
      dsimp only
      rw [hh]
      rfl
    · rw [chooseNext_cancels 4 hc (takeNext_fifo hh hp hi hf) hs (by
        show continues s.bus.hold x = false
        rw [hh]
        rfl), chooseNext_cancelled (s := s.onBus fun b => { b with fifo := [] })
          (x := { x with status := some .cancelled, written := 0, data := [] }) hc hh hp hi rfl hr 3]
      exact (reportPort_noticed _ _ _).1
    · exact chooseNext_none 4 hc (takeNext_nothing hh hp hi hf)
    · refine chooseNext_none 4 hc ?_
      rw [takeNext_hold hh, pickFirst_none fun x hx => decide_eq_false (hn x hx)]
      rfl
    · have htk : takeNext s = some (x, s.onBus fun b => { b with fifo := before ++ after }) := by
        rw [takeNext_hold hh, hf, pickFirst_some (fun y hy => decide_eq_false (hb y hy)) (decide_eq_true hm)]
        rfl
      rw [chooseNext_start 4 hc htk hs]
      unfold State.onBus
      dsimp only
      rw [hh, startsAtOnce_hold]
    · have htk : takeNext s = some (x, s.onBus fun b => { b with fifo := before ++ after }) := by
        rw [takeNext_hold hh, hf, pickFirst_some (fun y hy => decide_eq_false (hb y hy)) (decide_eq_true hm)]
        rfl
      rw [chooseNext_continues 4 hc htk hs (by
        show continues s.bus.hold x = true
        rw [hh]
        exact continues_hold hm hk)]
      rfl

/-- Settles O25. -/
theorem busTransactionsEnd : Obligations.BusTransactionsEnd := by
  intro s x hr hx
  exact ⟨lives hr (busStart_current hx),
    fun hs => ⟨_, lives hr (busFreeTimeout_waiting hx hs), completeCurrent_ended _ _ _ _ _⟩,
    fun w d => ⟨_, lives hr (busStretch_current hx w d), completeCurrent_ended _ _ _ _ _⟩,
    fun d hd => ⟨_, lives hr (busComplete_ok hx hd), completeCurrent_ended _ _ _ _ _⟩,
    fun d hd => lives hr (busComplete_other hx hd),
    fun w => ⟨_, lives hr (busComplete_nak hx w), completeCurrent_ended _ _ _ _ _⟩,
    fun w d => ⟨_, lives hr (busComplete_arbLost hx w d), completeCurrent_ended _ _ _ _ _⟩⟩

end

section
/-! SUPPORT. The share engine's requests: a resting carrier, the carriers that requests name, the renumbered orders, and
the definitions that CARRIER DEFINE leaves. -/

namespace Sys2Proof.Machine

/-! ## Carriers that a reshare leaves -/

theorem reshare_rests {s : State} {c : Fin 16} (h : s.share.carriers.get c = .idle) (before : Share)
    (named : Option (Fin 16 × ShareCause)) (fr : Bool) :
    (reshare s before named fr).share.carriers.get c = .idle := by
  cases hd : s.cfg.carriers.get c with
  | none => exact reshare_undefined _ _ _ _ hd h
  | some d =>
    have hq : ¬Requesting s c := by
      unfold Requesting OnAir
      rw [h]
      rintro (k | k | k) <;> exact nomatch k
    rw [reshare_quiet before named fr hd hq, h]
    rfl

/-- A HELD carrier stays as it is, with no grant. -/
theorem reshare_held_carrier {s : State} {c : Fin 16} {d : CarrierDef} (hd : s.cfg.carriers.get c = some d)
    (h : (s.share.carriers.get c).state = .held) (before : Share) (named : Option (Fin 16 × ShareCause)) (fr : Bool) :
    (reshare s before named fr).share.carriers.get c = { s.share.carriers.get c with grant := 0 } := by
  have hq : ¬Requesting s c := by
    unfold Requesting OnAir
    rw [h]
    rintro (k | k | k) <;> exact nomatch k
  exact reshare_quiet before named fr hd hq

theorem reshare_keeps_held {s : State} {c : Fin 16} {d : CarrierDef} {r : Carrier} (hr : s.share.carriers.get c = r)
    (hd : s.cfg.carriers.get c = some d) (h : r.state = .held) (before : Share) (named : Option (Fin 16 × ShareCause))
    (fr : Bool) :
    ((reshare s before named fr).share.carriers.get c).state = .held
      ∧ ((reshare s before named fr).share.carriers.get c).hold = r.hold
      ∧ ((reshare s before named fr).share.carriers.get c).order = r.order := by
  rw [reshare_held_carrier hd (hr.symm ▸ h), hr]
  exact ⟨h, rfl, rfl⟩

theorem set_get_same {α : Type} {n : Nat} (v : Vector α n) (c : Fin n) (a : α) : (v.set c a).get c = a := by
  rw [get_set, if_pos rfl]

/-- The frame and the count of one reshare. -/
theorem reshare_once {u v : State} (hc : v.counts = u.counts) (before : Share) (named : Option (Fin 16 × ShareCause))
    (fr : Bool) : AfterReshares v (reshare v before named fr)
      ∧ (reshare v before named fr).counts.reshares = bump u.counts.reshares :=
  ⟨(reshare_shared v before named fr).1,
    (reshare_counts v before named fr).trans (congrArg (fun c : Counters => bump c.reshares) hc)⟩

/-- The command `i` makes one reshare of `v`, an event that names the carrier, and is answered OK with the fields `l` of
the carrier after it. -/
def EventAnswered (s u : State) (rq : Req) (c : Fin 16) (i : Instr) (v : State) (why : ShareCause)
    (l : Carrier → List Pair) : Prop :=
  exec i s = .next (answered (reshare v u.share (some (c, why)) false) rq
      (.ok (l ((reshare v u.share (some (c, why)) false).share.carriers.get c)) []))
    ∧ AfterReshares v (reshare v u.share (some (c, why)) false)
    ∧ (reshare v u.share (some (c, why)) false).counts.reshares = bump u.counts.reshares

theorem eventAnswered {s u v w : State} {rq : Req} {i : Instr} {f : State → State × Reply} {c : Fin 16}
    {why : ShareCause} {l : Carrier → List Pair} (hu : portLine s rq.port = u) (hx : Executes s rq (.group .carrier))
    (he : exec i s = .next (requestRow rq (answer rq (.group .carrier) f) s)) (hc : v.counts = u.counts)
    (hf : f u = (w, .ok (l (w.share.carriers.get c)) [])) (hw : w = reshare v u.share (some (c, why)) false) :
    EventAnswered s u rq c i v why l := by
  have ha := he.trans (answersAt hu hx hf)
  have hr := reshare_once hc u.share (some (c, why)) false
  unfold EventAnswered
  rw [← hw] at hr ⊢
  exact ⟨ha, hr⟩

/-! ## The carrier that a request names -/

section
variable {s : State} {p : Port} {i : Option Int} {c : Fin 16} {d : CarrierDef} {k : Fin 16 → CarrierDef → State × Reply}

theorem inScope_access {t : Fin 4} (h : inScope s p t = true) : (s.port p).access ≠ .opened := by
  intro ha
  unfold inScope at h
  rw [ha] at h
  exact nomatch h

theorem namedCarrier_opened (h : (s.port p).access = .opened) : namedCarrier s p i k = (s, .no .noLevel) := if_pos h

theorem namedCarrier_range (h : (s.port p).access ≠ .opened) (hi : indexOf 16 i = none) :
    namedCarrier s p i k = (s, .no .noRange) := by
  unfold namedCarrier
  rw [if_neg h, hi]

theorem namedCarrier_undefined (h : (s.port p).access ≠ .opened) (hi : indexOf 16 i = some c)
    (hd : s.cfg.carriers.get c = none) : namedCarrier s p i k = (s, .no .noState) := by
  unfold namedCarrier
  rw [if_neg h, hi]
  simp only [hd]

theorem namedCarrier_outOfScope (hi : indexOf 16 i = some c) (hd : s.cfg.carriers.get c = some d)
    (hs : inScope s p d.tenant = false) : namedCarrier s p i k = (s, .no .noLevel) := by
  by_cases h : (s.port p).access = .opened
  · exact namedCarrier_opened h
  · unfold namedCarrier
    rw [if_neg h, hi]
    simp only [hd, hs]
    rfl

theorem namedCarrier_inScope (hi : indexOf 16 i = some c) (hd : s.cfg.carriers.get c = some d)
    (hs : inScope s p d.tenant = true) : namedCarrier s p i k = k c d := by
  unfold namedCarrier
  rw [if_neg (inScope_access hs), hi]
  simp only [hd, hs]
  rfl

end

/-! ## CARRIER REQUEST, RELEASE and HOLD -/

theorem requestCarrier_first {s : State} {c : Fin 16} (h : (s.share.carriers.get c).state = .idle) (n : Nat) :
    requestCarrier s c n =
      let k := if s.share.orders < 2 ^ 32 - 1 then s.share else renumbered s.share
      reshare
        { s with share := { k with
          orders := k.orders + 1
          carriers := k.carriers.set c
            { k.carriers.get c with state := .waiting, demand := n, order := some (k.orders + 1) } } }
        s.share (some (c, .request)) false := by
  unfold requestCarrier carrierEvent
  dsimp only
  rw [if_pos h]
  rfl

theorem requestCarrier_again {s : State} {c : Fin 16} (h : (s.share.carriers.get c).state ≠ .idle) (n : Nat) :
    requestCarrier s c n = reshare
      { s with share := { s.share with
        carriers := s.share.carriers.set c { s.share.carriers.get c with demand := n } } }
      s.share (some (c, .request)) false := by
  unfold requestCarrier carrierEvent
  dsimp only
  rw [if_neg h]
  rfl

/-- The fields of the reply to CARRIER REQUEST. -/
def grantedPairs (x : Carrier) : List Pair :=
  [kv "state" (.word x.state.word), kv "reason" (.optWord (x.reason.map (·.word))), kv "grant" (.nat x.grant)]

/-- The fields of the reply to CARRIER HOLD. -/
def timedPairs (x : Carrier) : List Pair := [kv "state" (.word x.state.word), kv "hold" (holdVal x.hold)]

section
variable {s : State} {p : Port} {c : Fin 16} {d : CarrierDef}

theorem handleCarrierRelease_idle (hd : s.cfg.carriers.get c = some d) (hs : inScope s p d.tenant = true)
    (h : (s.share.carriers.get c).state = .idle) :
    handleCarrierRelease s p (some c.val) = (s, .ok [kv "state" (.word "IDLE")] []) := by
  unfold handleCarrierRelease
  rw [namedCarrier_inScope (indexOf_val 16 c) hd hs, if_pos h]
  rfl

theorem handleCarrierRelease_busy (hd : s.cfg.carriers.get c = some d) (hs : inScope s p d.tenant = true)
    (h : (s.share.carriers.get c).state ≠ .idle) :
    handleCarrierRelease s p (some c.val) =
      (reshare { s with share := { s.share with carriers := s.share.carriers.set c .idle } } s.share
        (some (c, .release)) false, .ok [kv "state" (.word "IDLE")] []) := by
  unfold handleCarrierRelease
  rw [namedCarrier_inScope (indexOf_val 16 c) hd hs, if_neg h]
  rfl

theorem handleCarrierRequest_zero (i : Option Int) : handleCarrierRequest s p i (some 0) = handleCarrierRelease s p i :=
  if_pos rfl

theorem handleCarrierRequest_out {n : Nat} (hd : s.cfg.carriers.get c = some d) (hs : inScope s p d.tenant = true)
    (h0 : n ≠ 0) (hn : n < d.min ∨ 4000 < n) :
    handleCarrierRequest s p (some c.val) (some n) = (s, .no .noRange) := by
  unfold handleCarrierRequest
  rw [if_neg (by rw [Option.some.injEq]; omega), namedCarrier_inScope (indexOf_val 16 c) hd hs]
  exact if_pos (by omega)

theorem handleCarrierRequest_in {n : Nat} (hd : s.cfg.carriers.get c = some d) (hs : inScope s p d.tenant = true)
    (hm : d.min ≤ n) (h1 : 1 ≤ n) (hn : n ≤ 4000) :
    handleCarrierRequest s p (some c.val) (some n) =
      (requestCarrier s c n, .ok (grantedPairs ((requestCarrier s c n).share.carriers.get c)) []) := by
  unfold handleCarrierRequest
  rw [if_neg (by rw [Option.some.injEq]; omega), namedCarrier_inScope (indexOf_val 16 c) hd hs]
  dsimp only
  rw [if_neg (by omega), Int.toNat_natCast]
  rfl

section
variable {v : State} {rq : Req} (hu : portLine v rq.port = s) (hx : Executes v rq (.group .carrier))
  (hd : s.cfg.carriers.get c = some d) (hs : inScope s rq.port d.tenant = true)
include hu hx hd hs

theorem carrierRequest_first {n : Nat} (hm : d.min ≤ n) (h1 : 1 ≤ n) (hn : n ≤ 4000)
    (h : (s.share.carriers.get c).state = .idle) :
    let k := if s.share.orders < 2 ^ 32 - 1 then s.share else renumbered s.share
    EventAnswered v s rq c (.carrierRequest rq (some c.val) (some n))
      { s with share := { k with
        orders := k.orders + 1
        carriers := k.carriers.set c
          { k.carriers.get c with state := .waiting, demand := n, order := some (k.orders + 1) } } } .request grantedPairs := by
  have hq := handleCarrierRequest_in hd hs hm h1 hn
  rw [requestCarrier_first h] at hq
  exact eventAnswered hu hx rfl rfl hq rfl

theorem carrierRequest_again {n : Nat} (hm : d.min ≤ n) (h1 : 1 ≤ n) (hn : n ≤ 4000)
    (h : (s.share.carriers.get c).state ≠ .idle) :
    EventAnswered v s rq c (.carrierRequest rq (some c.val) (some n))
      { s with share := { s.share with
        carriers := s.share.carriers.set c { s.share.carriers.get c with demand := n } } } .request grantedPairs := by
  have hq := handleCarrierRequest_in hd hs hm h1 hn
  rw [requestCarrier_again h] at hq
  exact eventAnswered hu hx rfl rfl hq rfl

end

/-- CARRIER HOLD by a port in whose scope the defined carrier is, once its time is in range. -/
theorem handleCarrierHold_named {n : Fin 65536} (hd : s.cfg.carriers.get c = some d)
    (hs : inScope s p d.tenant = true) :
    handleCarrierHold s p (some c.val) (some n.val) =
      if (s.share.carriers.get c).state = .idle then (s, .no .noState)
      else
        let t := if n.val = 0 then (if (s.share.carriers.get c).state = .held then endHold s c else s)
          else holdCarrier s c n
        (t, .ok (timedPairs (t.share.carriers.get c)) []) := by
  unfold handleCarrierHold
  rw [if_neg (inScope_access hs), indexOf_val]
  simp only [hd, hs, indexOf_val]
  by_cases h : (s.share.carriers.get c).state = .idle
  · rw [if_pos h]
    simp only [h]
    rfl
  · rw [if_neg h]
    simp only [h]
    rfl

theorem handleCarrierHold_out {n : Nat} (hd : s.cfg.carriers.get c = some d) (hs : inScope s p d.tenant = true)
    (hn : 65535 < n) : handleCarrierHold s p (some c.val) (some n) = (s, .no .noRange) := by
  have hi : indexOf 65536 (some (n : Int)) = none := dif_neg (by omega)
  unfold handleCarrierHold
  rw [if_neg (inScope_access hs), indexOf_val]
  simp only [hd, hs, hi]
  rfl

section
variable {v : State} {rq : Req} (hu : portLine v rq.port = s) (hx : Executes v rq (.group .carrier))
  (hd : s.cfg.carriers.get c = some d) (hs : inScope s rq.port d.tenant = true)
include hu hx hd hs

theorem carrierHold_holds (h : (s.share.carriers.get c).state ≠ .idle) {n : Nat} (h1 : 1 ≤ n) (hn : n ≤ 65535) :
    EventAnswered v s rq c (.carrierHold rq (some c.val) (some n))
      { s with share := { s.share with
        carriers := s.share.carriers.set c { s.share.carriers.get c with
          state := .held, grant := 0, reason := none, restore := none
          hold := some (if n = 65535 then .untilCancelled else .ms n) } } } .hold timedPairs := by
  have hq := handleCarrierHold_named (n := ⟨n, by omega⟩) hd hs
  rw [if_neg h] at hq
  dsimp only at hq
  rw [if_neg (by omega)] at hq
  exact eventAnswered hu hx rfl rfl hq rfl

theorem carrierHold_ends (h : (s.share.carriers.get c).state = .held) :
    EventAnswered v s rq c (.carrierHold rq (some c.val) (some 0))
      { s with share := { s.share with
        carriers := s.share.carriers.set c { s.share.carriers.get c with
          state := .waiting, hold := none, restore := none } } } .holdEnd timedPairs := by
  have hq := handleCarrierHold_named (n := ⟨0, by omega⟩) hd hs
  rw [if_neg (by rw [h]; exact nofun)] at hq
  dsimp only at hq
  rw [if_pos rfl, if_pos h] at hq
  exact eventAnswered hu hx rfl rfl hq rfl

theorem carrierHold_keeps (h : (s.share.carriers.get c).state ≠ .idle) (hh : (s.share.carriers.get c).state ≠ .held) :
    exec (.carrierHold rq (some c.val) (some 0)) v
      = .next (answered s rq (.ok (timedPairs (s.share.carriers.get c)) [])) := by
  have hq := handleCarrierHold_named (n := ⟨0, by omega⟩) hd hs
  rw [if_neg h] at hq
  dsimp only at hq
  rw [if_pos rfl, if_neg hh] at hq
  exact answersAt hu hx hq

theorem carrierHold_idle (h : (s.share.carriers.get c).state = .idle) {n : Nat} (hn : n ≤ 65535) :
    exec (.carrierHold rq (some c.val) (some n)) v = .next (answered s rq (.no .noState)) := by
  have hq := handleCarrierHold_named (n := ⟨n, by omega⟩) hd hs
  rw [if_pos h] at hq
  exact answersAt hu hx hq

end

end

/-! ## Renumbered orders -/

theorem countP_lt_countP {α : Type} {p q : α → Bool} {l : List α} {x : α} (hx : x ∈ l) (h : ∀ y ∈ l, p y = true → q y = true)
    (hp : p x = false) (hq : q x = true) : l.countP p < l.countP q := by
  obtain ⟨l, m, rfl⟩ := List.append_of_mem hx
  have hl : l.countP p ≤ l.countP q := List.countP_mono_left fun y hy => h y (List.mem_append_left _ hy)
  have hm : m.countP p ≤ m.countP q :=
    List.countP_mono_left fun y hy => h y (List.mem_append_right _ (List.mem_cons_of_mem _ hy))
  rw [List.countP_append, List.countP_append, List.countP_cons_of_neg (by rw [hp]; exact Bool.false_ne_true),
    List.countP_cons_of_pos hq]
  omega

/-- The carriers that hold a request order. -/
def orderHolders (h : Share) : List (Fin 16) := (List.finRange 16).filter fun c => (h.carriers.get c).order.isSome

/-- How many orders stand before the order `a`. -/
def ordersBefore (h : Share) (a : Nat) : Nat :=
  (orderHolders h).countP fun x => decide (((h.carriers.get x).order).getD 0 < a)

theorem renumbered_carrier (h : Share) (x : Fin 16) : (renumbered h).carriers.get x =
    { h.carriers.get x with order := (h.carriers.get x).order.map fun a => ordersBefore h a + 1 } := by
  unfold renumbered ofCarriers
  dsimp only
  rw [Vector.get_ofFn]
  cases ho : (h.carriers.get x).order with
  | none =>
    generalize h.carriers.get x = r at ho ⊢
    cases r
    cases ho
    rfl
  | some a => rfl

theorem renumbered_orders (h : Share) : (renumbered h).orders = (orderHolders h).length := rfl

theorem mem_orderHolders {h : Share} {x : Fin 16} {a : Nat} (hx : (h.carriers.get x).order = some a) :
    x ∈ orderHolders h := by
  unfold orderHolders
  rw [List.mem_filter, hx]
  exact ⟨List.mem_finRange x, rfl⟩

theorem ordersBefore_lt_iff {h : Share} {x : Fin 16} {a : Nat} (hx : (h.carriers.get x).order = some a) (b : Nat) :
    ordersBefore h a < ordersBefore h b ↔ a < b := by
  constructor
  · intro hlt
    by_contra hba
    refine absurd hlt (Nat.not_lt.2 (List.countP_mono_left fun y _ hy => ?_))
    rw [decide_eq_true_eq] at hy ⊢
    omega
  · intro hab
    refine countP_lt_countP (mem_orderHolders hx) (fun y _ hy => ?_) ?_ ?_
    · rw [decide_eq_true_eq] at hy ⊢
      omega
    · rw [hx]
      exact decide_eq_false (Nat.lt_irrefl a)
    · rw [hx]
      exact decide_eq_true hab

theorem ordersBefore_lt {h : Share} {x : Fin 16} {a : Nat} (hx : (h.carriers.get x).order = some a) :
    ordersBefore h a < (orderHolders h).length := by
  refine lt_of_le_of_ne List.countP_le_length fun he => ?_
  have hlt := List.countP_eq_length.1 he x (mem_orderHolders hx)
  rw [hx] at hlt
  exact absurd (of_decide_eq_true hlt) (Nat.lt_irrefl a)

/-! ## TENANT SET -/

theorem TenantSettings.with_eq (k : TenantSettings) (a : TenantArgs) : k.with a =
    { defined := a.defined.getD k.defined, floor := natOr k.floor a.floor, ceiling := natOr k.ceiling a.ceiling
      weight := natOr k.weight a.weight, cred := k.cred } := by
  unfold TenantSettings.with
  rw [boolOr_eq]

theorem named_iff (cfg : Settings) (k : Fin 4) :
    ((List.finRange 16).any fun c => tenantOf cfg c == some k) = true
      ↔ ∃ c d, cfg.carriers.get c = some d ∧ d.tenant = k := by
  rw [List.any_eq_true]
  refine exists_congr fun c => ?_
  unfold tenantOf
  cases hd : cfg.carriers.get c <;> simp

section
variable {s : State} {k : Fin 4} {a : TenantArgs} {g : TenantSettings} (ha : tenantArgsOk a = true)
  (hg : (s.cfg.tenants.get k).with a = g) (hf : g.floor ≤ g.ceiling)
include ha hg hf

theorem handleTenantSet_ok (hd : a.defined = some false → ¬∃ c d, s.cfg.carriers.get c = some d ∧ d.tenant = k) :
    ∃ l, handleTenantSet s (some k.val) a =
      (reshare { s with cfg := { s.cfg with tenants := s.cfg.tenants.set k g } } s.share none false, .ok l []) := by
  unfold handleTenantSet
  rw [indexOf_val, ha]
  dsimp only
  rw [hg, if_neg (by simpa using hf), if_neg fun h => hd h.1 ((named_iff _ _).1 h.2)]
  exact ⟨_, rfl⟩

theorem handleTenantSet_named (hd : a.defined = some false)
    (hn : ∃ c d, s.cfg.carriers.get c = some d ∧ d.tenant = k) :
    handleTenantSet s (some k.val) a = (s, .no .noState) := by
  unfold handleTenantSet
  rw [indexOf_val, ha]
  dsimp only
  rw [hg, if_neg (by simpa using hf), if_pos ⟨hd, (named_iff _ _).2 hn⟩]

end

/-! ## CARRIER DEFINE -/

theorem putCarrier_eq (s : State) (c : Fin 16) (d : Option CarrierDef) : putCarrier s c d =
    reshare { s with
      cfg := { s.cfg with carriers := s.cfg.carriers.set c d }
      share := { s.share with carriers := s.share.carriers.set c .idle } } s.share none false := rfl

theorem lineTaken_free {cfg : Settings} {c : Fin 16} {d : CarrierDef}
    (h : ∀ x e l, x ≠ c → cfg.carriers.get x = some e → d.permit = some l → e.permit ≠ some l) :
    lineTaken cfg c d = false := by
  rw [← Bool.not_eq_true]
  unfold lineTaken
  rw [Bool.and_eq_true, Option.isSome_iff_exists, List.any_eq_true]
  rintro ⟨⟨l, hl⟩, x, -, hx⟩
  rw [Bool.and_eq_true, bne_iff_ne] at hx
  obtain ⟨hne, hp⟩ := hx
  cases he : cfg.carriers.get x with
  | none => rw [he] at hp; exact nomatch hp
  | some e =>
    rw [he] at hp
    exact h x e l hne he hl ((beq_iff_eq.1 hp).trans hl)

theorem definedCarrier_new {a : CarrierArgs} {k : Fin 4} (ha : a.tenant = some (k.val : Int)) : definedCarrier none a =
    some { tenant := k, sector := natOr 0 a.sector, duplex := nameOr .fdd a.duplex, cls := natOr 3 a.cls
           min := natOr 1 a.min
           permit := match a.permit with | some (.line i) => indexOf 8 (some i) | _ => none } := by
  unfold definedCarrier
  rw [ha]
  simp only [indexOf_val]
  rcases a.permit with _ | _ | _ | _ <;> rfl

theorem definedCarrier_old {a : CarrierArgs} {old : CarrierDef} {k : Fin 4}
    (ha : a.tenant = some (k.val : Int) ∨ a.tenant = none ∧ k = old.tenant) : definedCarrier (some old) a =
    some { tenant := k, sector := natOr old.sector a.sector, duplex := nameOr old.duplex a.duplex
           cls := natOr old.cls a.cls, min := natOr old.min a.min
           permit := match a.permit with
             | none => old.permit
             | some (.line i) => indexOf 8 (some i)
             | some _ => none } := by
  unfold definedCarrier
  rcases ha with ha | ⟨ha, rfl⟩ <;> rw [ha] <;> simp only [Option.map_some, indexOf_val] <;>
    rcases a.permit with _ | _ | _ | _ <;> rfl

section
variable {s : State} {c : Fin 16} {a : CarrierArgs}
  (hi : s.cfg.carriers.get c = none ∨ (s.share.carriers.get c).state = .idle)
include hi

theorem definedIdle_free : ¬((s.cfg.carriers.get c).isSome ∧ (s.share.carriers.get c).state ≠ .idle) := by
  rintro ⟨h1, h2⟩
  rcases hi with h | h
  · rw [h] at h1; exact nomatch h1
  · exact h2 h

theorem handleCarrierDefine_ok {d : CarrierDef} (ha : carrierArgsOk a = true) (hf : a.defined ≠ some false)
    (ht : s.cfg.carriers.get c = none → a.tenant ≠ none) (hd : definedCarrier (s.cfg.carriers.get c) a = some d)
    (hl : ∀ x e l, x ≠ c → s.cfg.carriers.get x = some e → d.permit = some l → e.permit ≠ some l)
    (hk : (s.cfg.tenants.get d.tenant).defined = true) :
    ∃ l, handleCarrierDefine s (some c.val) a = (putCarrier s c (some d), .ok l []) := by
  unfold handleCarrierDefine
  rw [indexOf_val]
  dsimp only
  rw [if_neg (definedIdle_free hi), ha, if_neg (by simp), if_neg hf,
    if_neg fun h => ht (Option.isNone_iff_eq_none.1 h.1) (Option.isNone_iff_eq_none.1 h.2), hd]
  dsimp only
  rw [lineTaken_free hl, if_neg Bool.false_ne_true, hk, if_neg (by simp)]
  exact ⟨_, rfl⟩

theorem handleCarrierDefine_undefines (hd : s.cfg.carriers.get c ≠ none)
    (ha : a = { tenant := none, sector := none, duplex := none, cls := none, min := none, permit := none
                defined := some false }) :
    ∃ l, handleCarrierDefine s (some c.val) a = (putCarrier s c none, .ok l []) := by
  subst ha
  unfold handleCarrierDefine
  rw [indexOf_val]
  dsimp only
  rw [if_neg (definedIdle_free hi), if_neg (by decide), if_pos rfl, if_neg (by decide),
    if_neg (by simpa using hd)]
  exact ⟨_, rfl⟩

end

theorem handleShareSet_ok {s : State} {b r : Option Int} (hs : (b.isSome || r.isSome) = true)
    (hb : inRange 1 16 b = true) (hr : inRange 0 120 r = true) : ∃ l, handleShareSet s b r =
      (s.settings fun cfg => { cfg with borrow := natOr cfg.borrow b, restoreHold := natOr cfg.restoreHold r },
        .ok l []) := by
  unfold handleShareSet
  rw [hb, hr, if_neg (by cases b <;> cases r <;> simp_all)]
  exact ⟨_, rfl⟩

end Sys2Proof.Machine
end

section
/-! SUPPORT. The statements about the share engine's requests. -/

open Sys2Proof Sys2Proof.Machine

/-- Settles O38. -/
theorem shareSettingsSet : Obligations.ShareSettingsSet := by
  intro s rq hx u
  have hu : portLine s rq.port = u := rfl
  clear_value u
  refine ⟨fun k a ha => ?_, ?_, fun b r hs hb hr => answersOkAt hu hx (handleShareSet_ok hs hb hr)⟩
  · intro named old new v
    have hnew : (u.cfg.tenants.get k).with a = new := TenantSettings.with_eq _ _
    refine ⟨fun hf hd => ?_, fun hf hd hn => answersAt hu hx (handleTenantSet_named ha hnew hf hd hn)⟩
    obtain ⟨l, h⟩ := handleTenantSet_ok ha hnew hf hd
    exact ⟨reshare v u.share none false, l, answersAt hu hx h, rfl, reshare_once (u := u) (v := v) rfl u.share none false⟩
  · intro rest put defines
    have hp (c : Fin 16) (d : Option CarrierDef) : (put c d).share.carriers.get c = .idle := set_get_same _ _ _
    have defined (c : Fin 16) (a : CarrierArgs) (d : Option CarrierDef)
        (h : ∃ l, handleCarrierDefine u (some c.val) a = (putCarrier u c d, .ok l [])) :
        ∃ t l, exec (.carrierDefine rq (some c.val) a) s = .next (answered t rq (.ok l []))
          ∧ t = reshare (put c d) u.share none false ∧ AfterReshares (put c d) t
          ∧ t.counts.reshares = bump u.counts.reshares ∧ t.share.carriers.get c = rest := by
      obtain ⟨l, h⟩ := h
      rw [putCarrier_eq] at h
      obtain ⟨hr, hn⟩ := reshare_once (u := u) (v := put c d) rfl u.share none false
      exact ⟨reshare (put c d) u.share none false, l, answersAt hu hx h, rfl, hr, hn,
        reshare_rests (hp c d) u.share none false⟩
    refine ⟨fun c a k hn hk ha hf hl hd => ?_, fun c a old k ho hs hk ha hf hl hd => ?_, fun c a hn hs ha => ?_⟩
    · refine defined c a _ (handleCarrierDefine_ok (.inl hn) ha hf (fun _ hn' => nomatch hk.symm.trans hn') ?_ hl hd)
      rw [hn]
      exact definedCarrier_new hk
    · refine defined c a _ (handleCarrierDefine_ok (.inr hs) ha hf (fun h => nomatch ho.symm.trans h) ?_ hl hd)
      rw [ho]
      exact definedCarrier_old hk
    · exact defined c a none (handleCarrierDefine_undefines (.inr hs) hn ha)

/-- Settles O40. -/
theorem carrierRequestsAct : Obligations.CarrierRequestsAct := by
  refine ⟨fun s rq c d hx => ?_, fun h => ?_⟩
  · intro u r put state granted timed reshared hs hd
    have hu : portLine s rq.port = u := rfl
    clear_value u
    have htimed (x : Carrier) : timedPairs x = timed x := by
      obtain ⟨_, _, _, _, _, _, hold⟩ := x
      rcases hold with _ | _ | _ <;> rfl
    have acts {i : Instr} {v : State} {why : ShareCause} {l : Carrier → List Pair}
        (h : EventAnswered s u rq c i v why l) : reshared i v why l := h
    refine ⟨fun n hm h1 hn => ?_, fun n h0 hn => answersAt hu hx (handleCarrierRequest_out hd hs h0 hn), rfl,
      fun hi n h1 hn => ?_, fun hh => ?_, fun hi hh => ?_, fun hi n hn => carrierHold_idle hu hx hd hs hi hn,
      fun n hn => answersAt hu hx (handleCarrierHold_out hd hs hn)⟩
    · intro i h
      refine ⟨fun hi => acts (l := granted) (carrierRequest_first hu hx hd hs hm h1 hn hi),
        fun hi => acts (l := granted) (carrierRequest_again hu hx hd hs hm h1 hn hi), fun hh => ?_⟩
      exact reshare_keeps_held (s := put u.share { r with demand := n }) (r := { r with demand := n })
        (set_get_same _ _ _) hd hh u.share (some (c, .request)) false
    · intro held
      have hg : (put u.share held).share.carriers.get c = held := set_get_same _ _ _
      have hk := reshare_held_carrier (s := put u.share held) hd (by rw [hg]) u.share (some (c, .hold)) false
      rw [hg] at hk
      refine ⟨?_, hk⟩
      have h := carrierHold_holds hu hx hd hs hi h1 hn
      rw [funext htimed] at h
      exact acts h
    · have h := carrierHold_ends hu hx hd hs hh
      rw [funext htimed] at h
      exact acts h
    · have h := carrierHold_keeps hu hx hd hs hi hh
      rw [htimed] at h
      exact h
  · intro order new
    refine ⟨fun x => ⟨?_, ?_⟩, fun x y a b i j ha hb hi hj => ?_, rfl⟩
    · have hn : new x = _ := renumbered_carrier h x
      rw [hn]
    · show ((renumbered h).carriers.get x).order = none ↔ _
      rw [renumbered_carrier]
      exact Option.map_eq_none_iff
    · have order (z : Fin 16) (e : Nat) (hz : (h.carriers.get z).order = some e) :
          ((renumbered h).carriers.get z).order = some (ordersBefore h e + 1) := by
        rw [renumbered_carrier, hz]
        rfl
      obtain rfl := Option.some.inj ((order x a ha).symm.trans hi)
      obtain rfl := Option.some.inj ((order y b hb).symm.trans hj)
      have hlt := ordersBefore_lt_iff ha b
      have hle := ordersBefore_lt ha
      rw [renumbered_orders]
      omega

/-- Settles O41. -/
theorem carrierReleaseActs : Obligations.CarrierReleaseActs := by
  intro s rq c ht he u r released
  have hu : portLine s rq.port = u := rfl
  clear_value u
  have executes (hg : inGroup u rq.port .carrier = true) : Executes s rq (.group .carrier) := ⟨ht, he, hu ▸ hg⟩
  refine ⟨fun hg => hu ▸ answers_noLevel (n := .group .carrier) ht (hu ▸ hg),
    fun hg ha => answersAt hu (executes hg) (namedCarrier_opened ha),
    fun k hg ha hi => answersAt hu (executes hg) (namedCarrier_range ha hi),
    fun hg ha hd => answersAt hu (executes hg) (namedCarrier_undefined ha (indexOf_val 16 c) hd),
    fun d hg hd hs => answersAt hu (executes hg) (namedCarrier_outOfScope (indexOf_val 16 c) hd hs), fun d hg hd hs => ?_⟩
  intro reply
  refine ⟨fun hi => answersAt hu (executes hg) (handleCarrierRelease_idle hd hs hi), fun hi => ?_⟩
  have h := handleCarrierRelease_busy hd hs hi
  refine ⟨_, answersAt hu (executes hg) h, rfl, ?_⟩
  rw [reshare_rests (set_get_same _ _ _)]
  rfl

end

section
/-! SUPPORT. The test sequencer's effects that its events share: the end of a measurement, the filing of a record, the
release of claims, and the current test made final. -/

namespace Sys2Proof.Machine

/-! ## Ends of measurements -/

/-- The measurement of the current test `r` has stopped, with the pending outcome and results given. -/
def measured (s : State) (r : TestRec) : State :=
  { s with
    tests := { s.tests with
      current := some r, pulse := none
      feeder := { s.tests.feeder with phase := .idle, timer := none }
      tester := { s.tests.tester with running := false, outstanding := none, timer := none } }
    signals := s.signals ++ [.cleanup] }

section
variable {s : State} {r : TestRec} (hc : s.tests.current = some r)
include hc

theorem testPending_iff : testPending s = true ↔ r.pending.isSome ∨ r.state ≠ .running := by
  unfold testPending
  rw [hc, Bool.or_eq_true, bne_iff_ne]

theorem testPending_running (hr : r.state = .running) (hp : r.pending = none) : testPending s = false := by
  rw [← Bool.not_eq_true, testPending_iff hc, hr, hp]
  simp

theorem onCurrent_current (f : TestRec → TestRec) :
    s.onCurrent f = { s with tests := { s.tests with current := some (f r) } } := by
  unfold State.onCurrent State.onTests
  dsimp only
  rw [hc]
  rfl

theorem stopMeasurement_current : (stopMeasurement s).tests.current = some r := hc

theorem endMeasurement_running (hr : r.state = .running) (hp : r.pending = none) (v : Verdict)
    (why : Option TestReason) (res : TestResults) :
    endMeasurement s v why res = measured s { r with pending := some (v, why), results := some res } := by
  unfold endMeasurement
  rw [testPending_running hc hr hp, if_neg Bool.false_ne_true, onCurrent_current (stopMeasurement_current hc)]
  rfl

theorem abortTest_running (hr : r.state = .running) (hp : r.pending = none) (why : TestReason) :
    abortTest s why = aborted s r why := by
  unfold abortTest
  rw [testPending_running hc hr hp, if_neg Bool.false_ne_true, onCurrent_current (stopMeasurement_current hc)]
  rfl

theorem abortTest_other (h : r.pending.isSome ∨ r.state ≠ .running) (why : TestReason) : abortTest s why = s := by
  unfold abortTest
  rw [if_pos ((testPending_iff hc).2 h)]

end

/-! ## The filing of a record -/

/-- The acceptance record after a final state of a test. -/
def judged (a : Acceptance) (r : TestRec) : TestState → Acceptance
  | .pass => a.put r.kind (.pass r.number)
  | .fail => a.put r.kind (.fail r.number)
  | _ => a

/-- The counters after a record of state `st` has entered a log of `n`. -/
def filedCounts (c : Counters) (n : Nat) (st : TestState) : Counters :=
  { c with
    testsPassed := if st = .pass then bump c.testsPassed else c.testsPassed
    testsFailed := if st = .fail then bump c.testsFailed else c.testsFailed
    logDrops := if 24 ≤ n then bump c.logDrops else c.logDrops }

/-- The tests after the filing of the record `r` in the state given. -/
def filed (s : State) (r : TestRec) (st : TestState) (why : Option TestReason) : State :=
  { s with
    tests := { s.tests with acceptance := judged s.tests.acceptance r st, log := logged s.tests.log (final s r st why) }
    counts := filedCounts s.counts s.tests.log.length st }

theorem recordVerdict_eq (s : State) (r : TestRec) : recordVerdict s r =
    { s with
      tests := { s.tests with acceptance := judged s.tests.acceptance r r.state }
      counts := { s.counts with
        testsPassed := if r.state = .pass then bump s.counts.testsPassed else s.counts.testsPassed
        testsFailed := if r.state = .fail then bump s.counts.testsFailed else s.counts.testsFailed } } := by
  obtain ⟨_, _, _, _, st, _⟩ := r
  unfold recordVerdict
  cases st <;> rfl

/-- A log entered by a record, with the count of the record it drops. -/
theorem enterLog_eq (s : State) (r : TestRec) :
    (let full := decide (24 ≤ s.tests.log.length)
     let t := s.onTests fun t => { t with log := (if full then t.log.drop 1 else t.log) ++ [r] }
     if full then t.counting fun c => { c with logDrops := bump c.logDrops } else t)
      = { s with
          tests := { s.tests with log := logged s.tests.log r }
          counts := { s.counts with
            logDrops := if 24 ≤ s.tests.log.length then bump s.counts.logDrops else s.counts.logDrops } } := by
  unfold logged
  by_cases h : 24 ≤ s.tests.log.length <;> simp only [h, decide_true, decide_false, if_true, if_false] <;> rfl

theorem fileRecord_noticed (s : State) (r : TestRec) (st : TestState) (why : Option TestReason) :
    Noticed (filed s r st why) (fileRecord s { r with state := st, reason := why }) := by
  unfold fileRecord
  dsimp only
  refine ((setFlagBoth_noticed _ .testDone).trans (noticeOwner_noticed _ _ _ _ _)).congr ?_ rfl
  have h := enterLog_eq (recordVerdict s (final s r st why)) (final s r st why)
  rw [recordVerdict_eq] at h
  rw [show ({ r with state := st, reason := why, pending := none, finish := some s.clock.sec } : TestRec)
    = final s r st why from rfl, recordVerdict_eq]
  exact h.symm

theorem fileRecord_of_noticed {s u : State} (h : Noticed s u) (r : TestRec) (st : TestState) (why : Option TestReason) :
    Noticed (filed s r st why) (fileRecord u { r with state := st, reason := why }) := by
  refine Noticed.trans ?_ (fileRecord_noticed u r st why)
  have hf : final u r st why = final s r st why := by
    unfold final
    rw [h.clock]
  unfold filed
  rw [hf, h.tests]
  exact (h.withTests { s.tests with
    acceptance := judged s.tests.acceptance r st, log := logged s.tests.log (final s r st why) }).counting (fun c => filedCounts c s.tests.log.length st) fun _ _ => rfl

/-! ## The release of claims -/

/-- What the release of the link claim leaves, but for reshares. -/
def linkReleased (s : State) : Link :=
  let k := { s.link with claim := none, state := bringUpState s.link }
  { k with base := baseOf s.cfg k }

/-- What the release of the claims of test `n` leaves, but for reshares. -/
def claimsReleased (s : State) (n : Nat) : State :=
  { s with
    link := if s.link.claim = some n then linkReleased s else s.link
    timing := { s.timing with
      sources := s.timing.sources.map fun r => if r.mark = some n then { r with mark := none } else r }
    clock := if s.clock.divert = some n then
        { s.clock with divert := none, auxCount := 0, captures := s.clock.captures.put .aux .cleared, lastDiverted := none }
      else s.clock }

/-- The marks of test `n` cleared. -/
def unmark (n : Nat) (t : Timing) : Timing :=
  { t with sources := t.sources.map fun r => if r.mark = some n then { r with mark := none } else r }

theorem PerSource.put_get {α : Type} (v : PerSource α) (i : Source) : v.put i (v.get i) = v := by cases i <;> rfl

theorem unmarkOne (s : State) (n : Nat) (i : Source) :
    (if (s.timing.sources.get i).mark = some n then timingUnmark s i else s)
      = s.onTiming fun t => t.onSource i fun r => if r.mark = some n then { r with mark := none } else r := by
  split
  · next h =>
    unfold timingUnmark Timing.onSource State.onTiming
    dsimp only
    rw [if_pos h]
  · next h =>
    unfold Timing.onSource State.onTiming
    dsimp only
    rw [if_neg h, PerSource.put_get]

theorem unmarkAll (s : State) (n : Nat) :
    allSources.foldl (fun s i => if (s.timing.sources.get i).mark = some n then timingUnmark s i else s) s
      = s.onTiming (unmark n) := by
  simp only [unmarkOne]
  rfl

theorem linkRelease_shared (s : State) : Shared { s with link := linkReleased s } (linkRelease s) :=
  linkCommit_shared _ _ _

theorem Shared.setDiversion {u t : State} (h : Shared u t) (d : Option Nat) :
    Shared (Machine.setDiversion u d) (Machine.setDiversion t d) := by
  refine ⟨⟨?_, h.1.2⟩, h.2⟩
  unfold Machine.setDiversion State.onClock
  have hc := h.1.clock
  conv_lhs => rw [h.1.1]

theorem releaseClaims_shared (s : State) (n : Nat) : Shared (claimsReleased s n) (releaseClaims s n) := by
  have h1 : Shared { s with link := if s.link.claim = some n then linkReleased s else s.link }
      (if s.link.claim = some n then linkRelease s else s) := by
    split
    · exact linkRelease_shared s
    · exact .refl s
  have h2 := h1.onTiming (unmark n)
  unfold releaseClaims
  generalize (if s.link.claim = some n then linkRelease s else s) = t at h1 h2 ⊢
  dsimp only
  rw [unmarkAll]
  generalize t.onTiming (unmark n) = v at h2 ⊢
  have hd : v.clock.divert = s.clock.divert := by
    rw [h2.1.clock]
    rfl
  rw [hd]
  unfold claimsReleased
  by_cases hs : s.clock.divert = some n
  · rw [if_pos hs, if_pos hs]
    exact h2.setDiversion none
  · rw [if_neg hs, if_neg hs]
    exact h2

theorem claimsReleased_eq (s : State) (n : Nat) : claimsReleased s n =
    if s.clock.divert = some n then
      setDiversion ((s.onLink fun _ => if s.link.claim = some n then linkReleased s else s.link).onTiming (unmark n)) none
    else (s.onLink fun _ => if s.link.claim = some n then linkReleased s else s.link).onTiming (unmark n) := by
  unfold claimsReleased
  by_cases hs : s.clock.divert = some n
  · rw [if_pos hs, if_pos hs]
    rfl
  · rw [if_neg hs, if_neg hs]
    rfl

theorem Shared.claimsReleased {s v : State} (h : Shared s v) (n : Nat) :
    Shared (Machine.claimsReleased s n) (Machine.claimsReleased v n) := by
  have hl : (if v.link.claim = some n then linkReleased v else v.link)
      = if s.link.claim = some n then linkReleased s else s.link := by
    unfold linkReleased
    rw [h.1.link, h.1.cfg]
  have hd : v.clock.divert = s.clock.divert := by
    rw [h.1.clock]
  rw [claimsReleased_eq, claimsReleased_eq, hl, hd]
  have ht := (h.onLink fun _ => if s.link.claim = some n then linkReleased s else s.link).onTiming (unmark n)
  split
  · exact ht.setDiversion none
  · exact ht

theorem unmark_noClaim {s : State} {r : TestRec} (h : NoClaim s r) : unmark r.number s.timing = s.timing := by
  obtain ⟨_, _, hm⟩ := h
  have := hm .gnss
  have := hm .link
  have := hm .aux
  unfold unmark PerSource.map
  simp_all [PerSource.get]

/-- A test without a claim has none to release. -/
theorem claimsReleased_none {s : State} {r : TestRec} (h : NoClaim s r) : claimsReleased s r.number = s := by
  rw [claimsReleased_eq, if_neg h.1, if_neg h.2.1]
  unfold State.onTiming
  rw [show (s.onLink fun _ => s.link).timing = s.timing from rfl, unmark_noClaim h]
  rfl

theorem releaseClaims_none {s : State} {r : TestRec} (h : NoClaim s r) : releaseClaims s r.number = s := by
  unfold releaseClaims
  simp only [if_neg h.1, unmarkAll]
  have hu : s.onTiming (unmark r.number) = s := by
    unfold State.onTiming
    rw [unmark_noClaim h]
  rw [hu, if_neg h.2.1]

/-! ## The current test made final -/

/-- The tests with an empty running slot. -/
def slotEmptied (t : Tests) : Tests :=
  { t with current := none, deferTimer := none, outstanding := none, stage := .measuring, pulse := none
           loopOnStatus := none, tester := .stopped }

/-- Updates of the tests, and of counters that no reshare counts, after reshares. -/
theorem Shared.update {s t : State} (h : Shared s t) (k : Tests) (f : Counters → Counters)
    (hf : ∀ c n r d, f { c with noticeDrops := n, reshares := r, sheds := d }
      = { f c with noticeDrops := n, reshares := r, sheds := d }) :
    Shared { s with tests := k, counts := f s.counts } { t with tests := k, counts := f t.counts } := by
  have e : f t.counts = { f s.counts with
      noticeDrops := t.counts.noticeDrops, reshares := t.counts.reshares, sheds := t.counts.sheds } := by
    have hc := h.1.counts
    generalize t.counts = c at hc ⊢
    rw [hc]
    exact hf _ _ _ _
  have hc (c : Counters) : ({ t with tests := k, counts := c } : State) =
      { s with share := t.share, clock := { s.clock with permitted := t.clock.permitted }, ports := t.ports, tests := k
               counts := c, signals := t.signals } := by
    conv_lhs => rw [h.1.1]
  refine ⟨⟨(hc (f t.counts)).trans ?_, h.1.2⟩, h.2⟩
  have en : (f t.counts).noticeDrops = t.counts.noticeDrops := by rw [e]
  have er : (f t.counts).reshares = t.counts.reshares := by rw [e]
  have ed : (f t.counts).sheds = t.counts.sheds := by rw [e]
  dsimp only
  rw [en, er, ed]
  rw [← e]

theorem Shared.filed {s t : State} (h : Shared s t) (r : TestRec) (st : TestState) (why : Option TestReason) :
    Shared (Machine.filed s r st why) (Machine.filed t r st why) := by
  have hf : final t r st why = final s r st why := by
    unfold final
    rw [h.1.clock]
  unfold Machine.filed
  rw [hf, h.1.tests]
  exact h.update _ (fun c => filedCounts c s.tests.log.length st) fun _ _ _ _ => rfl

/-- The current test `r` final, but for reshares. -/
def finalized (s : State) (r : TestRec) (st : TestState) (why : Option TestReason) : State :=
  filed ((claimsReleased s r.number).onTests slotEmptied) r st why

theorem finalize_shared {s : State} {r : TestRec} (hc : s.tests.current = some r) (st : TestState)
    (why : Option TestReason) :
    ∃ w, Shared (finalized s r st why) w ∧ finalize s st why = w.push .takeTest := by
  refine ⟨_, (((releaseClaims_shared s r.number).onTests slotEmptied).filed r st why).trans
    ((fileRecord_noticed _ r st why).trans (syncSummary_noticed testOwned _)).shared, ?_⟩
  unfold finalize
  rw [hc]
  rfl

/-- The same for a test without a claim, and after notices. -/
theorem finalize_noticed {s u : State} {r : TestRec} (h : Noticed s u) (hc : s.tests.current = some r) (hn : NoClaim s r)
    (st : TestState) (why : Option TestReason) :
    Noticed ((filed (s.onTests slotEmptied) r st why).push .takeTest) (finalize u st why) := by
  have hcu : u.tests.current = some r := by rw [h.tests]; exact hc
  have hnu : NoClaim u r := by
    unfold NoClaim
    rw [h.link, h.clock, h.timing]
    exact hn
  unfold finalize
  rw [hcu]
  dsimp only
  rw [releaseClaims_none hnu]
  exact ((fileRecord_of_noticed (h.onTests slotEmptied) r st why).trans (syncSummary_noticed testOwned _)).push _

theorem final_claimsReleased (s : State) (n : Nat) (r : TestRec) (st : TestState) (why : Option TestReason) :
    final (claimsReleased s n) r st why = final s r st why := by
  unfold final claimsReleased
  dsimp only
  split <;> rfl

/-- No claim of a test stays after their release. -/
theorem claimsReleased_noClaim (s : State) (n : Nat) :
    (claimsReleased s n).link.claim ≠ some n ∧ (claimsReleased s n).clock.divert ≠ some n
      ∧ ∀ i, ((claimsReleased s n).timing.sources.get i).mark ≠ some n := by
  refine ⟨?_, ?_, fun i => ?_⟩
  · unfold claimsReleased linkReleased
    dsimp only
    split
    · exact nofun
    · assumption
  · unfold claimsReleased
    dsimp only
    split
    · exact nofun
    · assumption
  · have h : (claimsReleased s n).timing.sources.get i =
        if (s.timing.sources.get i).mark = some n then { s.timing.sources.get i with mark := none }
        else s.timing.sources.get i := by cases i <;> rfl
    rw [h]
    split
    · exact nofun
    · assumption

theorem TestFinal.of_shared {s w : State} {r : TestRec} {st : TestState} {why : Option TestReason}
    (h : Shared (finalized s r st why) w) : TestFinal s (w.push .takeTest) r st why := by
  have ht : (w.push .takeTest).tests = (finalized s r st why).tests := h.1.tests
  have hn : (w.push .takeTest).counts = _ := h.1.counts
  have hl : (w.push .takeTest).link = (claimsReleased s r.number).link := h.1.link
  have hk : w.clock.divert = (claimsReleased s r.number).clock.divert := by
    rw [h.1.clock]
    rfl
  have hg : (w.push .takeTest).timing = (claimsReleased s r.number).timing := h.1.timing
  obtain ⟨hlc, hdv, hmk⟩ := claimsReleased_noClaim s r.number
  refine ⟨by rw [ht]; exact ⟨rfl, rfl, rfl, rfl, rfl, rfl, rfl, rfl⟩, ?_, ?_, ?_, ⟨?_, ?_, fun i => ?_⟩,
    List.mem_append_right _ (List.mem_singleton.2 rfl), h.1.cfg, h.1.level, h.1.site, h.1.store, h.1.run, by rw [show (w.push .takeTest).pending = w.pending from rfl, h.1.1]; rfl⟩
  · rw [ht, ← final_claimsReleased s r.number]
    rfl
  · show (w.push .takeTest).tests.acceptance = _
    simp only [ht]
    cases st <;> rfl
  · rw [hn]
    exact ⟨rfl, rfl, rfl⟩
  · rw [hl]
    exact hlc
  · exact hk ▸ hdv
  · rw [hg]
    exact hmk i

theorem finalize_final {s : State} {r : TestRec} (hc : s.tests.current = some r) (st : TestState)
    (why : Option TestReason) : TestFinal s (finalize s st why) r st why := by
  obtain ⟨w, h, e⟩ := finalize_shared hc st why
  rw [e]
  exact .of_shared h

/-! ## The end of a DEFERRED test -/

/-- Borrow withdrawn, but for a reshare. -/
theorem borrowEnd_shared (s : State) : Shared s (borrowEnd s) := by
  unfold borrowEnd
  split
  · exact .refl _
  · exact ⟨⟨rfl, ⟨[], (List.append_nil _).symm⟩, fun _ => .refl _⟩, id⟩
  · exact shareInput_shared' _ _

theorem reshare_absent {s : State} (h : s.share.borrow = .absent) (before : Share)
    (named : Option (Fin 16 × ShareCause)) (fr : Bool) : (reshare s before named fr).share.borrow = .absent := by
  rw [reshare_borrow, borrowAfter_absent _ _ h]

theorem shareInput_absent {s : State} {f : Share → Share} (h : (f s.share).borrow = .absent) :
    (shareInput s f).share.borrow = .absent := by
  unfold shareInput
  rw [reshare_absent h]

theorem borrowEnd_absent (s : State) : (borrowEnd s).share.borrow = .absent := by
  unfold borrowEnd
  split
  · assumption
  · rfl
  · rw [shareInput_absent rfl]

theorem linkCommit_absent {s : State} (h : s.share.borrow = .absent) (old : Link) (cause : String) :
    (linkCommit s old cause).share.borrow = .absent := by
  unfold linkCommit
  dsimp only
  rw [PortsOnly.share (syncSummary_portsOnly _ _)]
  have hp : ∀ (t : State) (c : Prop) [Decidable c] (a b : Signal),
      (if c then t else (t.push a).push b).share = t.share := by
    intro t c _ a b
    split <;> rfl
  have hn : ∀ (t : State) (c : Prop) [Decidable c] (w : List String) (l : List Pair),
      (if c then t else noticeBoth t .link w l).share = t.share := by
    intro t c _ w l
    split
    · rfl
    · exact noticeBoth_share ..
  rw [hp]
  split
  · rw [hn, hn]
    exact h
  · rw [shareInput_absent]
    dsimp only
    rw [noticeBoth_share, hn, hn]
    exact h

theorem linkRelease_absent {s : State} (h : s.share.borrow = .absent) : (linkRelease s).share.borrow = .absent := by
  unfold linkRelease
  rw [linkCommit_absent]
  exact h

theorem onTiming_share (s : State) (f : Timing → Timing) : (s.onTiming f).share = s.share := rfl

theorem setDiversion_share (s : State) (d : Option Nat) : (setDiversion s d).share = s.share := rfl

theorem releaseClaims_absent {s : State} (h : s.share.borrow = .absent) (n : Nat) :
    (releaseClaims s n).share.borrow = .absent := by
  have hl : (if s.link.claim = some n then linkRelease s else s).share.borrow = .absent := by
    split
    · exact linkRelease_absent h
    · exact h
  unfold releaseClaims
  generalize (if s.link.claim = some n then linkRelease s else s) = t at hl ⊢
  dsimp only
  rw [unmarkAll]
  split
  · rw [setDiversion_share, onTiming_share, hl]
  · rw [onTiming_share, hl]

theorem finalize_absent {s : State} (h : s.share.borrow = .absent) (st : TestState) (why : Option TestReason) :
    (finalize s st why).share.borrow = .absent := by
  unfold finalize
  split
  · exact h
  · next r _ =>
    have hr := releaseClaims_absent h r.number
    generalize releaseClaims s r.number = t at hr ⊢
    dsimp only
    rw [show ∀ u : State, (u.push .takeTest).share = u.share from fun _ => rfl,
      PortsOnly.share (syncSummary_portsOnly _ _), PortsOnly.share (fileRecord_noticed _ r st why).1.1]
    exact hr

/-- The slot's tests but for the timer of a DEFERRED test. -/
def undeferred (t : Tests) : Tests := { t with deferTimer := none }

/-- The DEFERRED test `r` ended with the state given, but for reshares. -/
theorem endDeferred_shared {s : State} {r : TestRec} (hc : s.tests.current = some r) (st : TestState)
    (why : TestReason) :
    ∃ w, Shared (finalized (s.onTests undeferred) r st (some why)) w
      ∧ endDeferred s st why = w.push .takeTest ∧ w.share.borrow = .absent := by
  have hb := borrowEnd_shared (s.onTests undeferred)
  have ha := borrowEnd_absent (s.onTests undeferred)
  unfold endDeferred
  change ∃ w, _ ∧ finalize (borrowEnd (s.onTests undeferred)) st (some why) = _ ∧ _
  generalize borrowEnd (s.onTests undeferred) = v at hb ha ⊢
  have hcv : v.tests.current = some r := by
    rw [hb.1.tests]
    exact hc
  obtain ⟨w, hw, e⟩ := finalize_shared hcv st (some why)
  refine ⟨w, ?_, e, ?_⟩
  · exact (((hb.claimsReleased r.number).onTests slotEmptied).filed r st (some why)).trans hw
  · have := finalize_absent ha st (some why)
    rw [e] at this
    exact this

/-- What the filing of a record without a verdict leaves. -/
theorem filed_noVerdict (s : State) (r : TestRec) {st : TestState} (hp : st ≠ .pass) (hf : st ≠ .fail)
    (why : Option TestReason) : filed s r st why =
      { s with
        tests := { s.tests with log := logged s.tests.log (final s r st why) }
        counts := { s.counts with
          logDrops := if 24 ≤ s.tests.log.length then bump s.counts.logDrops else s.counts.logDrops } } := by
  have hj : judged s.tests.acceptance r st = s.tests.acceptance := by
    cases st
    case pass => exact absurd rfl hp
    case fail => exact absurd rfl hf
    all_goals rfl
  unfold filed filedCounts
  rw [hj, if_neg hp, if_neg hf]

theorem endDeferred_ended {s : State} {r : TestRec} (hc : s.tests.current = some r) (hn : NoClaim s r)
    {st : TestState} (hp : st ≠ .pass) (hf : st ≠ .fail) (why : TestReason) :
    DeferredEnded s (endDeferred s st why) r st why := by
  obtain ⟨w, hw, e, ha⟩ := endDeferred_shared hc st why
  rw [e]
  unfold finalized at hw
  rw [claimsReleased_none (show NoClaim (s.onTests undeferred) r from hn), filed_noVerdict _ r hp hf] at hw
  have hd : (w.push .takeTest).counts.logDrops = _ := congrArg Counters.logDrops hw.1.counts
  refine ⟨?_, ha, List.mem_append_right _ (List.mem_singleton.2 rfl)⟩
  rw [hd]
  exact (hw.trans (Shared.push w .takeTest)).1

end Sys2Proof.Machine
end

section
/-! SUPPORT. Changes of the site phase, and what the entry into AUTONOMOUS does to the tests of MAIN. -/

namespace Sys2Proof.Machine

/-! ## The queued tests of MAIN -/

/-- The queue's tests of MAIN ended, and a count of dropped records. -/
def queueEnded (s : State) (k : Nat) : State :=
  { s with tests := mainQueueEnded s, counts := { s.counts with logDrops := k } }

/-- The log after records that end with QUIET. -/
def quietLog (s : State) (gone log : List TestRec) : List TestRec :=
  gone.foldl (fun l r => logged l (final s r .aborted (some .quiet))) log

theorem fileQuiet (s : State) (gone : List TestRec) : ∀ (log : List TestRec) (k : Nat) (u : State),
    Noticed { s with tests := { s.tests with log := log }, counts := { s.counts with logDrops := k } } u →
    ∃ k', Noticed
      { s with tests := { s.tests with log := quietLog s gone log }, counts := { s.counts with logDrops := k' } }
      (gone.foldl (fun s r => fileRecord s { r with state := .aborted, reason := some .quiet }) u) := by
  induction gone with
  | nil => exact fun log k u h => ⟨k, h⟩
  | cons r gone ih =>
    intro log k u h
    have hr := fileRecord_of_noticed h r .aborted (some .quiet)
    rw [filed_noVerdict _ _ (by decide) (by decide)] at hr
    exact ih _ _ _ hr

/-- What the entry into AUTONOMOUS does to the current test. -/
def currentQuiet (s : State) : State :=
  match s.tests.current with
  | none => s
  | some r =>
    if r.owner ≠ .main then s
    else if r.state = .deferred then endDeferred s .aborted .quiet
    else abortTest s .quiet

theorem testAutonomous_eq {s u : State} (h : Noticed s u) :
    ∃ k w, Noticed (queueEnded s k) w ∧ testAutonomous u = currentQuiet w := by
  have h' := h.onTests fun t => { t with queue := t.queue.filter fun r => r.owner != .main }
  obtain ⟨k, hk⟩ := fileQuiet (s.onTests fun t => { t with queue := t.queue.filter fun r => r.owner != .main })
    (s.tests.queue.filter fun r => r.owner == .main) s.tests.log s.counts.logDrops _ h'
  refine ⟨k, _, hk, ?_⟩
  unfold testAutonomous
  dsimp only
  rw [h.tests]
  rfl

section
variable {s : State}

theorem currentQuiet_none (h : s.tests.current = none) : currentQuiet s = s := by
  unfold currentQuiet
  rw [h]

variable {r : TestRec} (hc : s.tests.current = some r)
include hc

theorem currentQuiet_stands (h : r.owner ≠ .main ∨ r.state ≠ .deferred ∧ (r.pending.isSome ∨ r.state ≠ .running)) :
    currentQuiet s = s := by
  unfold currentQuiet
  rw [hc]
  dsimp only
  rcases h with h | ⟨hd, hp⟩
  · rw [if_pos h]
  · rw [if_neg hd, abortTest_other hc hp, ite_self]

theorem currentQuiet_running (ho : r.owner = .main) (hr : r.state = .running) (hp : r.pending = none) :
    currentQuiet s = aborted s r .quiet := by
  unfold currentQuiet
  rw [hc]
  dsimp only
  rw [if_neg (not_not_intro ho), if_neg (by rw [hr]; decide), abortTest_running hc hr hp]

theorem currentQuiet_deferred (ho : r.owner = .main) (hd : r.state = .deferred) :
    currentQuiet s = endDeferred s .aborted .quiet := by
  unfold currentQuiet
  rw [hc]
  dsimp only
  rw [if_neg (not_not_intro ho), if_pos hd]

end

/-- A current test of MAIN that is not DEFERRED stands, or is aborted. -/
theorem currentQuiet_cases {s : State} (h : ∀ r, s.tests.current = some r → r.owner = .main → r.state ≠ .deferred) :
    currentQuiet s = s ∨ ∃ r, currentQuiet s = aborted s r .quiet := by
  rcases hc : s.tests.current with _ | r
  · exact .inl (currentQuiet_none hc)
  · by_cases hq : r.owner = .main ∧ r.state = .running ∧ r.pending = none
    · exact .inr ⟨r, currentQuiet_running hc hq.1 hq.2.1 hq.2.2⟩
    · refine .inl (currentQuiet_stands hc ?_)
      by_cases ho : r.owner = .main
      · refine .inr ⟨h r hc ho, ?_⟩
        by_cases hr : r.state = .running
        · exact .inl (Option.isSome_iff_ne_none.2 fun hp => hq ⟨ho, hr, hp⟩)
        · exact .inr hr
      · exact .inl ho

/-- Updates of the tests and of the site that both states see are the same after reshares. -/
theorem Shared.rest {s t : State} {x : Site} {y : Tests} {k : Nat}
    (h : Shared { s with site := x, tests := y, counts := { s.counts with logDrops := k } } t) :
    AfterReshares
      { s with site := t.site, tests := t.tests, counts := { s.counts with logDrops := t.counts.logDrops } } t := by
  have hd : t.counts.logDrops = k := congrArg Counters.logDrops h.1.counts
  rw [h.1.site, h.1.tests, hd]
  exact h.1

theorem finalized_tests (s : State) (r : TestRec) (st : TestState) (why : Option TestReason) :
    (finalized s r st why).tests = { slotEmptied s.tests with
      acceptance := judged s.tests.acceptance r st, log := logged s.tests.log (final s r st why) } := by
  rw [← final_claimsReleased s r.number]
  rfl

theorem mainTestsEnded {s w t : State} {x : Site} {k : Nat} (h : Noticed (queueEnded { s with site := x } k) w)
    (ht : Shared (currentQuiet w) t)
    (hb : (currentQuiet w).share.borrow = .absent → t.share.borrow = .absent) : MainTestsEnded s t := by
  have hcur : w.tests.current = s.tests.current := by
    rw [h.tests]
    rfl
  refine ⟨fun hs => ?_, fun r hc ho hr hp => ?_, fun r hc ho hd => ?_, fun hs => ?_⟩
  · have e : currentQuiet w = w := by
      rcases hc : w.tests.current with _ | r
      · exact currentQuiet_none hc
      · refine currentQuiet_stands hc ?_
        by_cases ho : r.owner = .main
        · have := hs r (hcur ▸ hc) ho
          exact .inr ⟨this.1, .inl this.2⟩
        · exact .inl ho
    rw [ht.1.tests, e, h.tests]
    rfl
  · rw [currentQuiet_running (hcur.trans hc) ho hr hp] at ht
    obtain ⟨⟨_, ⟨l, hl⟩, _⟩, _⟩ := id ht
    refine ⟨?_, ?_⟩
    · rw [ht.1.tests]
      unfold aborted
      rw [h.tests]
      rfl
    · rw [hl]
      exact List.mem_append_left _ (List.mem_append_right _ (List.mem_singleton.2 rfl))
  · obtain ⟨v, hv, e, ha⟩ := endDeferred_shared (hcur.trans hc) .aborted .quiet
    rw [currentQuiet_deferred (hcur.trans hc) ho hd, e] at ht hb
    obtain ⟨⟨_, ⟨l, hl⟩, _⟩, _⟩ := id ht
    refine ⟨?_, hb ha, ?_⟩
    · rw [ht.1.tests, show (v.push .takeTest).tests = v.tests from rfl, hv.1.tests, finalized_tests]
      unfold final State.onTests
      rw [h.clock, h.tests]
      rfl
    · rw [hl]
      exact List.mem_append_left _ (List.mem_append_right _ (List.mem_singleton.2 rfl))
  · have hq : Shared (queueEnded { s with site := x } k) w := h.shared
    rcases currentQuiet_cases (s := w) (fun r hc => hs r (hcur ▸ hc)) with e | ⟨r, e⟩
    · rw [e] at ht
      exact (hq.trans ht).rest
    · rw [e] at ht
      have ha := (hq.onTests fun _ => (aborted w r .quiet).tests).trans (Shared.push _ .cleanup)
      exact (ha.trans ht).rest

/-! ## Changes of the site phase -/

/-- What a change of the site phase shares out anew: the site with its new phase, the tests of MAIN ended where the site
becomes AUTONOMOUS. -/
def phaseEntered (s : State) (new : SitePhase) (forced : Bool) : State :=
  let s := s.onSite fun x => { x with phase := new, forced := forced }
  if new = .autonomous then testAutonomous s else s

/-- What a change of the site phase leaves, from the state `u` in which the share engine takes it. -/
structure PhaseShared (u t : State) (new : SitePhase) : Prop where
  shared : Shared u t
  phase : t.share.phase = new
  absent : u.share.borrow = .absent → t.share.borrow = .absent
  once : t.counts.reshares = bump u.counts.reshares
  noPermit : new = .staging → ∀ l, t.share.permits.get l = false

theorem reshare_phase (s : State) (before : Share) (named : Option (Fin 16 × ShareCause)) (fr : Bool) :
    (reshare s before named fr).share.phase = s.share.phase := by
  rw [reshare_share]
  rfl

/-- No permit line is asserted in STAGING. -/
theorem reshare_noPermit {s : State} (h : s.share.phase = .staging) (before : Share)
    (named : Option (Fin 16 × ShareCause)) (fr : Bool) (l : Fin 8) :
    (reshare s before named fr).share.permits.get l = false := by
  rw [← Bool.not_eq_true, reshare_permitsAgree]
  rintro ⟨c, d, hd, _, ha⟩
  rw [reshare_cfg] at hd
  obtain ⟨_, _, hp, _⟩ := eligible_of_onAir hd ha
  exact hp h

theorem phaseShared_of_noticed {u t v : State} {new : SitePhase} (h : PhaseShared u t new) (k : Noticed t v) :
    PhaseShared u v new where
  shared := h.shared.of_noticed k
  phase := by rw [PortsOnly.share k.1.1, h.phase]
  absent hb := by rw [PortsOnly.share k.1.1, h.absent hb]
  once := by rw [PortsOnly.counts k.1.1, ← h.once]
  noPermit hn l := by rw [PortsOnly.share k.1.1, h.noPermit hn]

theorem shareInput_phase (u : State) (new : SitePhase) :
    PhaseShared u (shareInput u fun h => { h with phase := new }) new where
  shared := shareInput_shared' _ _
  phase := by
    unfold shareInput
    rw [reshare_phase]
  absent hb := shareInput_absent hb
  once := by
    unfold shareInput
    rw [reshare_counts]
  noPermit hn l := by
    unfold shareInput
    rw [reshare_noPermit hn]

theorem changePhase_shared (s : State) (new : SitePhase) (forced : Bool) (cause : String) :
    PhaseShared (phaseEntered s new forced) (changePhase s new forced cause) new := by
  unfold changePhase phaseEntered
  dsimp only
  exact phaseShared_of_noticed (shareInput_phase _ new)
    ((noticeBoth_noticed _ _ _ _).trans (syncSummary_noticed siteOwned _))

theorem phaseEntered_other (s : State) {new : SitePhase} (h : new ≠ .autonomous) (forced : Bool) :
    phaseEntered s new forced = s.onSite fun x => { x with phase := new, forced := forced } := by
  unfold phaseEntered
  rw [if_neg h]

theorem currentQuiet_frame (s : State) : (currentQuiet s).site = s.site ∧ (currentQuiet s).cfg = s.cfg := by
  by_cases h : ∀ r, s.tests.current = some r → r.owner = .main → r.state ≠ .deferred
  · rcases currentQuiet_cases h with e | ⟨r, e⟩ <;> rw [e]
    · exact ⟨rfl, rfl⟩
    · exact ⟨rfl, rfl⟩
  · simp only [not_forall, not_not] at h
    obtain ⟨r, hc, ho, hd⟩ := h
    obtain ⟨w, hw, e, _⟩ := endDeferred_shared hc .aborted .quiet
    rw [currentQuiet_deferred hc ho hd, e]
    exact ⟨hw.1.site, hw.1.cfg⟩

/-- The site AUTONOMOUS, the tests of MAIN ended. -/
theorem changePhase_autonomous {s u : State} {x : Site} (h : Noticed { s with site := x } u) (forced : Bool) (cause : String) :
    let t := changePhase u .autonomous forced cause
    t.site = { x with phase := .autonomous, forced := forced } ∧ t.cfg = s.cfg ∧ t.share.phase = .autonomous
      ∧ MainTestsEnded s t := by
  intro t
  have hp : PhaseShared _ t .autonomous := changePhase_shared u .autonomous forced cause
  clear_value t
  have hv := h.onSite fun x => { x with phase := .autonomous, forced := forced }
  obtain ⟨k, w, hw, e⟩ := testAutonomous_eq (s := { s with site := { x with phase := .autonomous, forced := forced } }) hv
  have hq : phaseEntered u .autonomous forced = currentQuiet w := e
  rw [hq] at hp
  obtain ⟨hs, hc⟩ := currentQuiet_frame w
  refine ⟨?_, ?_, hp.phase, ?_⟩
  · rw [hp.shared.1.site, hs, hw.site]
    rfl
  · rw [hp.shared.1.cfg, hc, hw.cfg]
    rfl
  · refine mainTestsEnded (x := { x with phase := .autonomous, forced := forced }) (k := k) ?_ hp.shared hp.absent
    exact hw

/-- Another phase entered, but for reshares. -/
theorem changePhase_other {s u : State} {x : Site} (h : Shared { s with site := x } u) {new : SitePhase}
    (hn : new ≠ .autonomous) (forced : Bool) (cause : String) :
    Shared { s with site := { x with phase := new, forced := forced } } (changePhase u new forced cause) := by
  have hp := (changePhase_shared u new forced cause).shared
  rw [phaseEntered_other u hn] at hp
  exact (h.onSite fun x => { x with phase := new, forced := forced }).trans hp

/-! ## The quiet watch -/

theorem portLine_main (s : State) : portLine s .main = settle (lineEvent s) := rfl

theorem quietHalf_idle {s : State} (h : halfDue s = false) : quietHalf s = s := by
  unfold quietHalf
  rw [h, if_neg Bool.false_ne_true]

theorem quietHalf_due {s : State} (h : halfDue s = true) :
    Noticed (s.onSite fun x => { x with halfSent := true }) (quietHalf s) := by
  unfold quietHalf
  rw [if_pos h]
  exact noticeBoth_noticed _ _ _ _

/-- The half point is marked or stays as it is. -/
theorem quietHalf_noticed (s : State) :
    Noticed { s with site := { s.site with halfSent := s.site.halfSent || halfDue s } } (quietHalf s) := by
  cases h : halfDue s
  · rw [quietHalf_idle h, Bool.or_false]
    exact .refl _
  · rw [Bool.or_true]
    exact quietHalf_due h

theorem quietExpire_idle {s : State} (h : expiryDue s = false) : quietExpire s = s := by
  unfold quietExpire
  rw [h, if_neg Bool.false_ne_true]

theorem quietExpire_stays {s : State} (h : expiryDue s = true) (hl : s.site.phase ≠ .live) :
    Noticed { s with site := { s.site with expired := true } } (quietExpire s) := by
  unfold quietExpire
  rw [if_pos h]
  dsimp only
  rw [decide_eq_false hl, if_neg Bool.false_ne_true]
  exact noticeBoth_noticed _ _ _ _

theorem quietExpire_live {s : State} (h : expiryDue s = true) (hl : s.site.phase = .live) :
    ∃ u, Noticed { s with site := { s.site with expired := true } } u
      ∧ quietExpire s = changePhase u .autonomous s.site.forced "QUIET" := by
  unfold quietExpire
  rw [if_pos h]
  dsimp only
  rw [decide_eq_true hl, if_pos rfl]
  exact ⟨_, noticeBoth_noticed _ _ _ _, rfl⟩

/-- What the quiet watch finds due does not depend on the half mark, nor on notices. -/
theorem expiryDue_noticed {s u : State} {b : Bool} (h : Noticed { s with site := { s.site with halfSent := b } } u) :
    expiryDue u = expiryDue s := by
  unfold expiryDue mainQuiet
  rw [h.site, h.cfg]

/-- The site after the half point has been looked at. -/
def halfMarked (s : State) : Site := { s.site with halfSent := s.site.halfSent || halfDue s }

theorem quietCheck_idle {s : State} (h : expiryDue s = false) :
    Noticed { s with site := halfMarked s } (quietCheck s) := by
  have hh := quietHalf_noticed s
  unfold quietCheck
  rw [quietExpire_idle ((expiryDue_noticed hh).trans h)]
  exact hh

theorem quietCheck_stays {s : State} (h : expiryDue s = true) (hl : s.site.phase ≠ .live) :
    Noticed { s with site := { halfMarked s with expired := true } } (quietCheck s) := by
  have hh := quietHalf_noticed s
  refine Noticed.trans ?_ (quietExpire_stays ((expiryDue_noticed hh).trans h) (by rw [hh.site]; exact hl))
  exact hh.onSite fun x => { x with expired := true }

theorem quietCheck_live {s : State} (h : expiryDue s = true) (hl : s.site.phase = .live) :
    (quietCheck s).site = { halfMarked s with expired := true, phase := .autonomous } ∧ (quietCheck s).cfg = s.cfg
      ∧ (quietCheck s).share.phase = .autonomous ∧ MainTestsEnded s (quietCheck s) := by
  have hh : Noticed { s with site := halfMarked s } (quietHalf s) := quietHalf_noticed s
  have hs : (quietHalf s).site = halfMarked s := hh.site
  obtain ⟨u, hu, e⟩ := quietExpire_live ((expiryDue_noticed hh).trans h) (by rw [hs]; exact hl)
  have hx : Noticed { s with site := { halfMarked s with expired := true } } u :=
    (hh.onSite fun x => { x with expired := true }).trans hu
  unfold quietCheck
  rw [e, hs]
  exact changePhase_autonomous hx _ _

/-- What the quiet watch leaves, from `s`. -/
theorem quietCheck_acts (s : State) :
    (quietCheck s).cfg = s.cfg
    ∧ (halfDue s = false → expiryDue s = false → quietCheck s = s)
    ∧ (halfDue s = true → (quietCheck s).site.halfSent = true)
    ∧ (expiryDue s = true → (quietCheck s).site.expired = true
      ∧ (s.site.phase = .live → (quietCheck s).site.phase = .autonomous ∧ MainTestsEnded s (quietCheck s))) := by
  refine ⟨?_, fun hh he => ?_, fun hh => ?_, fun he => ?_⟩
  · cases he : expiryDue s
    · exact (quietCheck_idle he).cfg
    · by_cases hl : s.site.phase = .live
      · exact (quietCheck_live he hl).2.1
      · exact (quietCheck_stays he hl).cfg
  · unfold quietCheck
    rw [quietHalf_idle hh, quietExpire_idle he]
  · have hm : (halfMarked s).halfSent = true := by
      unfold halfMarked
      dsimp only
      rw [hh, Bool.or_true]
    cases he : expiryDue s
    · rw [(quietCheck_idle he).site]
      exact hm
    · by_cases hl : s.site.phase = .live
      · rw [(quietCheck_live he hl).1]
        exact hm
      · rw [(quietCheck_stays he hl).site]
        exact hm
  · by_cases hl : s.site.phase = .live
    · obtain ⟨hs, -, -, ht⟩ := quietCheck_live he hl
      rw [hs]
      exact ⟨rfl, fun _ => ⟨rfl, ht⟩⟩
    · rw [(quietCheck_stays he hl).site]
      exact ⟨rfl, fun h => absurd h hl⟩

end Sys2Proof.Machine
end

section
/-! SUPPORT. The requests of the site supervisor, and its quiet points. -/

namespace Sys2Proof.Machine

section
variable (u : State)

theorem handleAcceptSet_ok (l : List TestKind) :
    ∃ r, handleAcceptSet u (some (l.map .known)) = (u.settings fun cfg => { cfg with acceptMask := asSet allKinds l }, .ok r []) := by
  unfold handleAcceptSet
  rw [show (some (l.map Named.known)).bind namesOf = some l from namesOf_known l]
  exact ⟨_, rfl⟩

theorem handleFeederSet_ok (i : FeederLine) {a : FeederArgs} (ha : feederArgsOk a = true)
    (h : ((u.cfg.feeders.get i).with a).lo ≤ ((u.cfg.feeders.get i).with a).hi) :
    ∃ r, handleFeederSet u (some (.known i)) a =
      ({ u with cfg := { u.cfg with feeders := u.cfg.feeders.put i ((u.cfg.feeders.get i).with a) } }, .ok r []) := by
  unfold handleFeederSet
  dsimp only [nameOf]
  rw [ha, if_neg (by simpa using h)]
  exact ⟨_, rfl⟩

theorem handleInputSet_ok (i : InputPin) {n : Nat} (hn : n = 0 ∨ n = 1 ∨ n = 10 ∨ n = 100) :
    ∃ r, handleInputSet u (some (.known i)) (some n) =
      (u.settings fun cfg => { cfg with filters := cfg.filters.put i n }, .ok r []) := by
  unfold handleInputSet
  dsimp only [nameOf]
  rw [if_neg (by rcases hn with rfl | rfl | rfl | rfl <;> decide)]
  exact ⟨_, rfl⟩

theorem handleCheckSet_ok (p : Port) (m : CheckMode) :
    ∃ r, handleCheckSet u p (some (.known m)) =
      (u.settings fun cfg => { cfg with ports := cfg.ports.put p { cfg.ports.get p with check := m } }, .ok r []) :=
  ⟨_, rfl⟩

theorem handleQuietSet_ok {n : Nat} (hn : n ≤ 255) :
    ∃ r, handleQuietSet u (some n) = (quietCheck (u.settings fun cfg => { cfg with quiet := n }), .ok r []) := by
  have hr : inRange 0 255 (some n) = true := by
    unfold inRange
    simp
    omega
  unfold handleQuietSet
  rw [hr, if_neg (by simp)]
  exact ⟨_, rfl⟩

end

/-! ## The quiet points -/

theorem lineEvent_stays {s : State} (h : s.site.phase ≠ .autonomous) : lineEvent s =
    { s with site := { s.site with quietMs := 0, halfSent := false, expired := false } } := by
  unfold lineEvent
  exact if_neg h

theorem lineEvent_returns {s : State} (h : s.site.phase = .autonomous) : PhaseShared
    { s with site := { s.site with quietMs := 0, halfSent := false, expired := false, phase := .live } } (lineEvent s)
    .live := by
  unfold lineEvent
  dsimp only [State.onSite]
  rw [if_pos h]
  have hp := changePhase_shared (s.onSite fun x => { x with quietMs := 0, halfSent := false, expired := false }) .live
    s.site.forced "RETURN"
  rw [phaseEntered_other _ (by decide)] at hp
  exact hp

/-- The site with its count at a point of `n` seconds. -/
def raised (s : State) (n : Nat) : Site := { s.site with quietMs := max s.site.quietMs (n * 1000) }

theorem quietPeriodReached_due {s : State} (h : s.cfg.quiet ≠ 0) :
    quietPeriodReached s = quietCheck { s with site := raised s s.cfg.quiet } := by
  unfold quietPeriodReached
  rw [if_neg h]
  rfl

theorem expiryDue_raised {s : State} (h : s.cfg.quiet ≠ 0) :
    expiryDue { s with site := raised s s.cfg.quiet } = !s.site.expired := by
  unfold expiryDue mainQuiet raised
  have : s.cfg.quiet * 1000 ≤ max s.site.quietMs (s.cfg.quiet * 1000) := Nat.le_max_right _ _
  simp [h]

/-- What the quiet watch leaves of the count, the phase and the rest, as the count reaches the period. -/
structure PeriodReached (s t : State) : Prop where
  expired : t.site.expired = true
  cfg : t.cfg = s.cfg
  count : t.site.quietMs = max s.site.quietMs (s.cfg.quiet * 1000)
  first : s.site.expired = false →
    t.site.phase = (if s.site.phase = .live then .autonomous else s.site.phase)
    ∧ (s.site.phase = .live → t.share.phase = .autonomous ∧ MainTestsEnded s t)
  other : s.site.phase ≠ .live → AfterNotices { s with site := t.site } t

theorem MainTestsEnded.of_site {s t : State} {x : Site} (h : MainTestsEnded { s with site := x } t) :
    MainTestsEnded s t := ⟨h.stands, h.running, h.deferred, h.frame⟩

theorem quietPeriodReached_reached {s : State} (h : s.cfg.quiet ≠ 0) : PeriodReached s (quietPeriodReached s) := by
  rw [quietPeriodReached_due h]
  have he := expiryDue_raised h
  generalize hv : ({ s with site := raised s s.cfg.quiet } : State) = v at he ⊢
  have hp : v.site.phase = s.site.phase := by rw [← hv]; rfl
  have hm : (halfMarked v).quietMs = max s.site.quietMs (s.cfg.quiet * 1000) := by rw [← hv]; rfl
  have hx : (halfMarked v).expired = s.site.expired := by rw [← hv]; rfl
  have hh : (halfMarked v).phase = s.site.phase := by rw [← hv]; rfl
  have hc : v.cfg = s.cfg := by rw [← hv]
  cases hs : s.site.expired
  · rw [hs] at he
    by_cases hl : s.site.phase = .live
    · obtain ⟨ht, hcfg, hph, hme⟩ := quietCheck_live he (hp.trans hl)
      refine ⟨by rw [ht], hcfg.trans hc, by rw [ht]; exact hm, fun _ => ⟨?_, fun _ => ⟨hph, ?_⟩⟩, fun k => absurd hl k⟩
      · rw [ht, if_pos hl]
      · rw [← hv] at hme ⊢
        exact hme.of_site
    · have ht := quietCheck_stays he (hp ▸ hl)
      refine ⟨by rw [ht.site], ht.cfg.trans hc, by rw [ht.site]; exact hm, fun _ => ⟨?_, fun k => absurd k hl⟩, fun _ => ?_⟩
      · rw [ht.site, if_neg hl]
        exact hh
      · rw [ht.site]
        rw [← hv] at ht ⊢
        exact ht.1
  · rw [hs] at he
    have ht := quietCheck_idle he
    refine ⟨by rw [ht.site]; exact hx.trans hs, ht.cfg.trans hc, by rw [ht.site]; exact hm,
      fun k => (nomatch hs.symm.trans k), fun _ => ?_⟩
    rw [ht.site]
    rw [← hv] at ht ⊢
    exact ht.1

theorem quietHalfReached_due {s : State} (h : 2 ≤ s.cfg.quiet) : Noticed
    { s with site := { s.site with quietMs := max s.site.quietMs (s.cfg.quiet / 2 * 1000), halfSent := true } }
    (quietHalfReached s) := by
  unfold quietHalfReached
  rw [if_neg (Nat.not_lt.2 h)]
  have hh := quietHalf_noticed (raiseQuiet s (halfPoint s))
  have hd : ((raiseQuiet s (halfPoint s)).site.halfSent || halfDue (raiseQuiet s (halfPoint s))) = true := by
    unfold halfDue raiseQuiet State.onSite halfPoint
    have : s.cfg.quiet / 2 * 1000 ≤ max s.site.quietMs (s.cfg.quiet / 2 * 1000) := Nat.le_max_right _ _
    cases s.site.halfSent <;> simp [h]
  rw [hd] at hh
  exact hh

end Sys2Proof.Machine

open Sys2Proof Sys2Proof.Machine

/-- Settles O47. -/
theorem siteSettingsSet : Obligations.SiteSettingsSet := by
  intro s rq hx u
  have hu : portLine s rq.port = u := rfl
  clear_value u
  refine ⟨fun l => answersOkAt hu hx (handleAcceptSet_ok u l), fun i a ha => ?_,
    fun i n hn => answersOkAt hu hx (handleInputSet_ok u i hn),
    fun m => answersOkAt hu hx (handleCheckSet_ok u rq.port m), fun n hn => ?_⟩
  · intro old new hlo
    exact answersOkAt hu hx (handleFeederSet_ok u i ha hlo)
  · intro v
    obtain ⟨r, h⟩ : ∃ r, exec (.quietSet rq (some n)) s = .next (answered (quietCheck v) rq (.ok r [])) :=
      answersOkAt hu hx (handleQuietSet_ok u hn)
    exact ⟨quietCheck v, r, h, quietCheck_acts v⟩

/-- Settles O50. -/
theorem quietPointsReached : Obligations.QuietPointsReached := by
  refine ⟨fun s => ?_, fun s hr => ⟨fun hq => ?_, fun hq => ?_⟩⟩
  · intro v
    refine ⟨rfl, fun h => ?_, fun h => ?_⟩
    · rw [portLine_main, lineEvent_stays h]
    · have hp := lineEvent_returns h
      exact ⟨lineEvent s, portLine_main s, hp.shared.1, hp.phase, hp.once⟩
  · exact ⟨_, lives hr rfl, (quietHalfReached_due hq).1⟩
  · have h := quietPeriodReached_reached hq
    exact ⟨_, lives hr rfl, h.expired, h.cfg, h.count, h.first, h.other⟩

end

section
/-! SUPPORT. The service-channel tester: the frames sent, received and lost (R163 to R166). -/

namespace Sys2Proof.Machine

/-! ## What is sent -/

/-- What stands between the start byte and the end byte of a frame. -/
def frameBody (content : List Byte) : List Byte :=
  BitVec.ofNat 8 (content.length / 256) :: BitVec.ofNat 8 content.length :: content

theorem frameWire_eq (content : List Byte) : frameWire content = [0x7E] ++ frameBody content ++ [0x7E] := rfl

theorem loopByte_toNat (k : TestKind) : (loopByte k).toNat = if k = .loopNear then 0x4E else 0x46 := by
  unfold loopByte
  split <;> rfl

/-- The first five bytes of a frame's body: its count, the loop byte, and the sequence number. -/
theorem frameBody_head (k : TestKind) (len seq : Nat) : ((frameBody (frameContent k len seq)).take 5).map BitVec.toNat =
    [(len + 3) / 256 % 256, (len + 3) % 256, if k = .loopNear then 0x4E else 0x46, seq / 256 % 256, seq % 256] := by
  unfold frameBody
  rw [frameContent_length, ← loopByte_toNat]
  simp [frameContent]

/-- The pattern of a frame. -/
theorem frameBody_pattern (k : TestKind) (len seq : Nat) {i : Nat} (h : i < len) :
    (((frameBody (frameContent k len seq)).drop 5)[i]?).map BitVec.toNat = some ((seq + i) % 256) := by
  unfold frameBody frameContent
  simp [h]

theorem schTx_idle {s : State} (h : s.tests.tester.outstanding.isSome) : schTx s = [] := by
  unfold schTx
  obtain ⟨q, hq⟩ := Option.isSome_iff_exists.1 h
  rw [hq]
  split
  · next h => cases h
  · rfl

section
variable {s : State} {r : TestRec} {len count allowed : Nat} (hc : s.tests.current = some r)
  (hl : loopParams r.params = some (len, count, allowed)) (hrun : s.tests.tester.running = true)
include hc hl hrun

theorem schTx_sends (h : s.tests.tester.outstanding = none) :
    schTx s = [0x7E] ++ frameBody (frameContent r.kind len s.tests.tester.next) ++ [0x7E] := by
  unfold schTx
  rw [hc, h]
  dsimp only
  rw [hl]
  dsimp only
  rw [if_pos hrun, frameWire_eq]

omit hc hl in
theorem frameSent_sends (h : s.tests.tester.outstanding = none) : frameSent s =
    { s with tests := { s.tests with tester := { s.tests.tester with
      sent := s.tests.tester.sent + 1, outstanding := some s.tests.tester.next, timer := some 50 } } } := by
  unfold frameSent State.onTests
  dsimp only
  rw [if_pos ⟨hrun, h⟩]

end

/-! ## What is received -/

/-- The tester with the counts of `c`, its frame settled. -/
def frameDone (k c : Tester) : Tester := { c with outstanding := none, timer := none, next := k.next + 1 }

/-- The outstanding frame of the test `r` is settled in `t`, from `s`, with the counts of `c`: the next may be sent, or
the measurement has ended. -/
structure FrameSettled (s : State) (r : TestRec) (count allowed : Nat) (c : Tester) (t : State) : Prop where
  next : s.tests.tester.sent < count → t = { s with tests := { s.tests with tester := frameDone s.tests.tester c } }
  last : count ≤ s.tests.tester.sent → r.state = .running → r.pending = none →
    t = { s with
      tests := { s.tests with
        tester := { frameDone s.tests.tester c with running := false }, pulse := none
        feeder := { s.tests.feeder with phase := .idle, timer := none }
        current := some { r with
          pending := some (if c.errored + c.lost ≤ allowed then (.pass, none) else (.fail, some .limit))
          results := some (.loop s.tests.loopOnStatus s.tests.tester.sent c.ok c.errored c.lost s.tests.tester.stray) } }
      signals := s.signals ++ [.cleanup] }

/-- The state with the frame settled, the measurement not ended. -/
def settledFrame (s : State) (c : Tester) : State :=
  { s with tests := { s.tests with tester := frameDone s.tests.tester c } }

theorem loopEnd_ends {s : State} {r : TestRec} (hc : s.tests.current = some r) (hr : r.state = .running)
    (hp : r.pending = none) (allowed : Nat) (c : Tester) (hs : c.sent = s.tests.tester.sent)
    (hy : c.stray = s.tests.tester.stray) : loopEnd (settledFrame s c) allowed =
      measured (settledFrame s c) { r with
        pending := some (if c.errored + c.lost ≤ allowed then (.pass, none) else (.fail, some .limit))
        results := some (.loop s.tests.loopOnStatus s.tests.tester.sent c.ok c.errored c.lost s.tests.tester.stray) } := by
  have hcv : (settledFrame s c).tests.current = some r := hc
  unfold loopEnd
  dsimp only
  have he : (settledFrame s c).tests.tester.errored + (settledFrame s c).tests.tester.lost = c.errored + c.lost := rfl
  rw [endMeasurement_running hcv hr hp, ← hs, ← hy, he]
  by_cases ha : c.errored + c.lost ≤ allowed
  · rw [if_pos ha, if_pos (decide_eq_true ha), if_pos (decide_eq_true ha)]
    rfl
  · rw [if_neg ha, if_neg (by simpa using ha), if_neg (by simpa using ha)]
    rfl

theorem frameSettled_settles {s : State} {r : TestRec} (hc : s.tests.current = some r) (count allowed : Nat)
    {f : Tester → Tester} {c : Tester} (hf : f s.tests.tester = c) (hs : c.sent = s.tests.tester.sent)
    (hy : c.stray = s.tests.tester.stray) : FrameSettled s r count allowed c (frameSettled s count allowed f) := by
  have hv : frameSettled s count allowed f =
      if count ≤ c.sent then loopEnd (settledFrame s c) allowed else settledFrame s c := by
    rw [← hf]
    rfl
  rw [hv, hs]
  refine ⟨fun h => if_neg (Nat.not_le.2 h), fun h hr hp => ?_⟩
  rw [if_pos h, loopEnd_ends hc hr hp allowed c hs hy]
  rfl

section
variable {s : State} {r : TestRec} {len count allowed : Nat} (hc : s.tests.current = some r)
  (hl : loopParams r.params = some (len, count, allowed)) (hrun : s.tests.tester.running = true)

theorem frameReceived_stopped (hrun : s.tests.tester.running = false) (content : List Byte) :
    frameReceived s content = s := by
  unfold frameReceived
  split
  · rfl
  · split
    · rfl
    · rw [hrun, if_pos (by decide)]

include hc hl

theorem returnExpired_lost (ht : s.tests.tester.timer.isSome) :
    FrameSettled s r count allowed { s.tests.tester with lost := s.tests.tester.lost + 1 } (returnExpired s) := by
  obtain ⟨n, hn⟩ := Option.isSome_iff_exists.1 ht
  unfold returnExpired
  rw [hc, hn]
  dsimp only
  rw [hl]
  exact frameSettled_settles hc count allowed rfl rfl rfl

include hrun

theorem frameReceived_return {q : Nat} {content : List Byte} (ho : s.tests.tester.outstanding = some q)
    (hq : isReturnOf r.kind q content = true) : frameReceived s content = frameSettled s count allowed fun k =>
      if content = frameContent r.kind len q then { k with ok := k.ok + 1 } else { k with errored := k.errored + 1 } := by
  unfold frameReceived
  rw [hc]
  dsimp only
  rw [hl]
  dsimp only
  rw [if_neg (by rw [hrun]; decide), ho]
  dsimp only
  rw [if_pos hq]

theorem frameReceived_stray {content : List Byte}
    (h : ∀ q, s.tests.tester.outstanding = some q → isReturnOf r.kind q content = false) : frameReceived s content =
      { s with tests := { s.tests with tester := { s.tests.tester with stray := s.tests.tester.stray + 1 } } } := by
  unfold frameReceived
  rw [hc]
  dsimp only
  rw [hl]
  dsimp only
  rw [if_neg (by rw [hrun]; decide)]
  split
  · next q hq =>
    rw [h q hq, if_neg Bool.false_ne_true]
    rfl
  · rfl

end

end Sys2Proof.Machine

open Sys2Proof Sys2Proof.Machine

/-- Settles O46. -/
theorem loopFramesCounted : Obligations.LoopFramesCounted := by
  refine ⟨fun s content hr hk => lives hr (frameReceived_stopped hk content), fun s r len count allowed hr hc hl hrun => ?_⟩
  intro k settled after
  have acts {t : State} {c : Tester} (h : FrameSettled s r count allowed c t) : after t c := ⟨h.next, h.last⟩
  refine ⟨fun ho => ⟨lives hr (frameSent_sends hrun ho), frameBody (frameContent r.kind len k.next),
      schTx_sends hc hl hrun ho, by simp [frameBody], frameBody_head _ _ _, rfl, fun i hi => frameBody_pattern _ _ _ hi⟩,
    schTx_idle, fun q content ho hq => ?_, fun content h => lives hr (frameReceived_stray hc hl hrun h),
    fun ht => ⟨_, lives hr rfl, acts (returnExpired_lost hc hl ht)⟩⟩
  refine ⟨_, lives hr (frameReceived_return hc hl hrun ho hq), fun h => ?_, fun h => ?_⟩
  · exact acts (frameSettled_settles hc count allowed (if_pos h) rfl rfl)
  · exact acts (frameSettled_settles hc count allowed (if_neg h) rfl rfl)

end

section
/-! SUPPORT. The FEEDER unit: its counters, the ends of its lines and its verdict (R158 to R160). -/

namespace Sys2Proof.Machine

/-! ## Classes and verdicts -/

theorem classOf_eq (g : FeederRec) (o : LineState) : classOf g o = classed g o := by cases o <;> rfl

/-- R160: a class that suits what the record expects. -/
def Suits (e : ExpectClass) (c : LineClass) : Prop :=
  match e with
  | .present => c = .present
  | .opened => c = .opened
  | .any => c ≠ .short

/-- R160: a class that does not. -/
def Fails (e : ExpectClass) (c : LineClass) : Prop :=
  match e with
  | .present => c ≠ .present
  | .opened => c ≠ .opened
  | .any => c = .short

theorem Fails.not_suits {e : ExpectClass} {c : LineClass} (h : Fails e c) : ¬Suits e c := by
  cases e
  · exact h
  · exact h
  · exact not_not_intro h

theorem matchesRecord_iff (e : ExpectClass) (c : LineClass) : matchesRecord e c = true ↔ Suits e c := by
  cases e
  · exact beq_iff_eq
  · exact beq_iff_eq
  · exact bne_iff_ne

/-- What a line of the unit ended with. -/
def outcomeOf (u : FeederUnit) (j : FeederLine) : LineState := ((u.lines.get j).state).getD .overflow

/-- The lines' verdict. -/
def verdictOf (ok : Bool) : Verdict × Option TestReason := (if ok then .pass else .fail, if ok then none else some .limit)

/-- The unit's state with its lines and counters. -/
def withUnit (s : State) (u : FeederUnit) : State := { s with tests := { s.tests with feeder := u } }

/-- Whether a line of the unit counts. -/
def Counts (u : FeederUnit) (j : FeederLine) : Prop := (u.lines.get j).state = some .counting

section
variable {s : State} {r : TestRec} {l : List FeederLine} {clk dis reload : Nat} (hm : Measuring s r .feeder)
  (hp : r.params = .feeder l clk dis reload)
include hm hp

/-- The verdict and the results of the lines as the unit `u` holds them. -/
def feederJudgement (s : State) (u : FeederUnit) (l : List FeederLine) : TestResults × Bool :=
  (.feeder (feederResults s.cfg u l), (feederResults s.cfg u l).all fun x => matchesRecord x.expect x.cls)

theorem feederEnd_counting {u : FeederUnit} (h : ∃ j ∈ l, Counts u j) : feederEnd (withUnit s u) = withUnit s u := by
  obtain ⟨j, hj, hc⟩ := h
  unfold feederEnd
  rw [show (withUnit s u).tests.current = some r from hm.1]
  dsimp only
  rw [if_pos (List.any_eq_true.2 ⟨j, by rw [hp]; exact hj, (beq_iff_eq (a := (u.lines.get j).state)).2 hc⟩)]

theorem feederEnd_judges {u : FeederUnit} (h : ∀ j ∈ l, ¬Counts u j) : feederEnd (withUnit s u) =
    measured (withUnit s u) { r with
      pending := some (verdictOf (feederJudgement s u l).2), results := some (feederJudgement s u l).1 } := by
  obtain ⟨hc, -, hr, hn⟩ := hm
  have hcu : (withUnit s u).tests.current = some r := hc
  have ha : ¬(r.params.lines.any fun i => ((withUnit s u).tests.feeder.lines.get i).state == some .counting) = true := by
    rw [List.any_eq_true, hp]
    rintro ⟨j, hj, hs⟩
    exact h j hj (beq_iff_eq.1 hs)
  unfold feederEnd
  rw [hcu]
  dsimp only
  rw [if_neg ha, endMeasurement_running hcu hr hn, hp]
  rfl

end

/-! ## Ticks of the sense clock -/

theorem advance_counting {c : FeederCount} (h : c.state = some .counting) (n : Nat) :
    c.advance n = { c with counter := min 4095 (c.counter + n) } := if_pos h

theorem advance_other {c : FeederCount} (h : c.state ≠ some .counting) (n : Nat) : c.advance n = c := if_neg h

theorem advance_state (c : FeederCount) (n : Nat) : (c.advance n).state = c.state := by
  unfold FeederCount.advance
  split <;> rfl

theorem PerLine.get_map {α β : Type} (f : α → β) (v : PerLine α) (i : FeederLine) : (v.map f).get i = f (v.get i) := by
  cases i <;> rfl

/-- What an event of line `i` leaves of the other lines and of the measurement, when each counting line has counted
`ticks`. -/
structure OthersCount (s t : State) (r : TestRec) (l : List FeederLine) (i : FeederLine) (ticks : Nat) : Prop where
  frame : t = { s with tests := t.tests, signals := t.signals }
  counted : ∀ j, j ≠ i → Counts s.tests.feeder j → t.tests.feeder.lines.get j =
    { s.tests.feeder.lines.get j with counter := min 4095 ((s.tests.feeder.lines.get j).counter + ticks) }
  stands : ∀ j, j ≠ i → ¬Counts s.tests.feeder j → t.tests.feeder.lines.get j = s.tests.feeder.lines.get j
  goesOn : (∃ j ∈ l, j ≠ i ∧ Counts s.tests.feeder j) →
    t.tests.current = s.tests.current ∧ t.signals = s.signals ∧ t.tests.feeder.phase = .charge
  judged : (∀ j ∈ l, j ≠ i → ¬Counts s.tests.feeder j ∧ (s.tests.feeder.lines.get j).state.isSome) →
    FeederJudged s t r l

section
variable {s : State} {r : TestRec} {l : List FeederLine} {clk dis reload : Nat} (hm : Measuring s r .feeder)
  (hp : r.params = .feeder l clk dis reload)
include hm hp

/-- The end of the measurement leaves the lines, and changes nothing but the tests and the deliveries. -/
theorem feederEnd_parts (u : FeederUnit) :
    feederEnd (withUnit s u) =
        { s with tests := (feederEnd (withUnit s u)).tests, signals := (feederEnd (withUnit s u)).signals }
      ∧ (feederEnd (withUnit s u)).tests.feeder.lines = u.lines
      ∧ (feederEnd (withUnit s u)).tests.feeder.ahead = u.ahead
      ∧ (feederEnd (withUnit s u)).tests.feeder.divider = u.divider := by
  by_cases h : ∃ j ∈ l, Counts u j
  · rw [feederEnd_counting hm hp h]
    exact ⟨rfl, rfl, rfl, rfl⟩
  · rw [feederEnd_judges hm hp fun j hj hc => h ⟨j, hj, hc⟩]
    exact ⟨rfl, rfl, rfl, rfl⟩

theorem feederEnd_judged {u : FeederUnit} (ho : u.opened = s.tests.feeder.opened)
    (h : ∀ j ∈ l, ¬Counts u j ∧ (u.lines.get j).state.isSome) : FeederJudged s (feederEnd (withUnit s u)) r l := by
  rw [feederEnd_judges hm hp fun j hj => (h j hj).1]
  have hv (j : FeederLine) : matchesRecord (s.cfg.feeders.get j).expect (classOf (s.cfg.feeders.get j) (outcomeOf u j))
      = true ↔ Suits (s.cfg.feeders.get j).expect (classed (s.cfg.feeders.get j) (outcomeOf u j)) := by
    rw [matchesRecord_iff, classOf_eq]
  have hall : (feederJudgement s u l).2 = true ↔
      ∀ j ∈ l, Suits (s.cfg.feeders.get j).expect (classed (s.cfg.feeders.get j) (outcomeOf u j)) := by
    unfold feederJudgement feederResults
    rw [List.all_map, List.all_eq_true]
    exact forall₂_congr fun j _ => hv j
  refine ⟨outcomeOf u, fun j hj => ?_, rfl, ho, rfl, verdictOf (feederJudgement s u l).2, ?_, fun hs => ?_, fun hs => ?_⟩
  · obtain ⟨o, hs⟩ := Option.isSome_iff_exists.1 (h j hj).2
    show (u.lines.get j).state = _
    unfold outcomeOf
    rw [hs]
    rfl
  · simp only [← classOf_eq]
    rfl
  · rw [hall.2 hs]
    rfl
  · have hf : (feederJudgement s u l).2 = false := by
      rw [← Bool.not_eq_true, hall]
      obtain ⟨j, hj, hn⟩ := hs
      have hn : Fails (s.cfg.feeders.get j).expect (classed (s.cfg.feeders.get j) (outcomeOf u j)) := hn
      exact fun k => hn.not_suits (k j hj)
    rw [hf]
    rfl

theorem feederEnd_others {u : FeederUnit} {i : FeederLine} {ticks : Nat} (ho : u.opened = s.tests.feeder.opened)
    (hc : u.phase = .charge) (hi : ¬Counts u i ∧ (u.lines.get i).state.isSome)
    (hj : ∀ j, j ≠ i → u.lines.get j = (s.tests.feeder.lines.get j).advance ticks) :
    OthersCount s (feederEnd (withUnit s u)) r l i ticks := by
  obtain ⟨hf, hl, -, -⟩ := feederEnd_parts hm hp u
  have hs (j : FeederLine) (h : j ≠ i) : (u.lines.get j).state = (s.tests.feeder.lines.get j).state := by
    rw [hj j h, advance_state]
  refine ⟨hf, fun j h k => ?_, fun j h k => ?_, ?_, fun h => feederEnd_judged hm hp ho fun j hjl => ?_⟩
  · rw [hl, hj j h, advance_counting k]
  · rw [hl, hj j h, advance_other k]
  · rintro ⟨j, hjl, h, k⟩
    rw [feederEnd_counting hm hp ⟨j, hjl, (hs j h).trans k⟩]
    exact ⟨rfl, rfl, hc⟩
  · by_cases e : j = i
    · rw [e]
      exact hi
    · unfold Counts
      rw [hs j e]
      exact h j hjl e

end

/-! ## Events of one line -/

/-- The unit after `ticks`, with line `i` as `f` leaves it. -/
def eventUnit (u : FeederUnit) (i : FeederLine) (ticks : Nat) (f : FeederCount → FeederCount) : FeederUnit :=
  { u with
    ahead := u.ahead + ticks
    lines := (u.lines.map fun c => c.advance ticks).put i (f ((u.lines.get i).advance ticks)) }

theorem eventUnit_same (u : FeederUnit) (i : FeederLine) (ticks : Nat) (f : FeederCount → FeederCount) :
    (eventUnit u i ticks f).lines.get i = f ((u.lines.get i).advance ticks) := PerLine.get_put_same _ _ _

theorem eventUnit_other (u : FeederUnit) {i j : FeederLine} (h : j ≠ i) (ticks : Nat) (f : FeederCount → FeederCount) :
    (eventUnit u i ticks f).lines.get j = (u.lines.get j).advance ticks := by
  unfold eventUnit
  dsimp only
  rw [PerLine.get_put_other _ _ h, PerLine.get_map]

section
variable {s : State} {r : TestRec} {l : List FeederLine} {clk dis reload : Nat} (hm : Measuring s r .feeder)
  (hp : r.params = .feeder l clk dis reload)
include hm hp

theorem feederEvent_eq {i : FeederLine} (hc : s.tests.feeder.phase = .charge) (hi : Counts s.tests.feeder i)
    (ticks : Nat) (f : Nat → FeederCount → FeederCount) : feederEvent s i ticks f =
      feederEnd (withUnit s (eventUnit s.tests.feeder i ticks (f (loadedValue reload)))) := by
  unfold feederEvent
  rw [hm.1]
  dsimp only
  rw [hp]
  dsimp only
  rw [if_neg (by rw [not_or]; exact ⟨not_not_intro hc, not_not_intro hi⟩)]
  unfold eventUnit
  rw [← PerLine.get_map (fun c : FeederCount => c.advance ticks)]
  rfl

/-- What an event of line `i` with `ticks` leaves, the line as `x`. -/
theorem feederEvent_leaves {i : FeederLine} (hc : s.tests.feeder.phase = .charge) (hi : Counts s.tests.feeder i)
    {ticks : Nat} {f : Nat → FeederCount → FeederCount} {x : FeederCount}
    (hx : f (loadedValue reload) ((s.tests.feeder.lines.get i).advance ticks) = x)
    (hn : x.state ≠ some .counting ∧ x.state.isSome) :
    (feederEvent s i ticks f).tests.feeder.lines.get i = x ∧ OthersCount s (feederEvent s i ticks f) r l i ticks
      ∧ (feederEvent s i ticks f).tests.feeder.ahead = s.tests.feeder.ahead + ticks
      ∧ (feederEvent s i ticks f).tests.feeder.divider = s.tests.feeder.divider := by
  rw [feederEvent_eq hm hp hc hi]
  have hg := eventUnit_same s.tests.feeder i ticks (f (loadedValue reload))
  rw [hx] at hg
  obtain ⟨-, hl, ha, hd⟩ := feederEnd_parts hm hp (eventUnit s.tests.feeder i ticks (f (loadedValue reload)))
  refine ⟨by rw [hl, hg], feederEnd_others hm hp rfl hc ?_ fun j h => eventUnit_other _ h _ _, ha, hd⟩
  unfold Counts
  rw [hg]
  exact hn

theorem dischargeExpired_charges (ht : s.tests.feeder.timer.isSome) : dischargeExpired s = withUnit s
    { s.tests.feeder with
      phase := .charge, timer := none, divider := 0, ahead := 0
      lines := l.foldl (fun v i => v.put i { counter := 4095 - reload, state := some .counting })
        s.tests.feeder.lines } := by
  obtain ⟨n, hn⟩ := Option.isSome_iff_exists.1 ht
  unfold dischargeExpired
  rw [hm.1, hn]
  dsimp only
  rw [hp]
  rfl

end

theorem foldl_put_other {l : List FeederLine} {i : FeederLine} (h : i ∉ l) (x : FeederCount) :
    ∀ v : PerLine FeederCount, (l.foldl (fun v i => v.put i x) v).get i = v.get i := by
  induction l with
  | nil => exact fun _ => rfl
  | cons j l ih =>
    intro v
    rw [List.mem_cons, not_or] at h
    rw [List.foldl_cons, ih h.2, PerLine.get_put_other _ _ h.1]

theorem foldl_put_mem {l : List FeederLine} {i : FeederLine} (h : i ∈ l) (x : FeederCount) :
    ∀ v : PerLine FeederCount, (l.foldl (fun v i => v.put i x) v).get i = x := by
  induction l with
  | nil => exact fun _ => nomatch h
  | cons j l ih =>
    intro v
    rw [List.foldl_cons]
    by_cases hl : i ∈ l
    · exact ih hl _
    · obtain rfl := (List.mem_cons.1 h).resolve_right hl
      rw [foldl_put_other hl, PerLine.get_put_same]

/-! ## The sense clock -/

/-- The unit after an RC cycle, before a line that has passed its top overflows. -/
def cycleUnit (u : FeederUnit) (ticks divider : Nat) : FeederUnit :=
  { u with divider := divider, ahead := u.ahead - ticks, lines := u.lines.map fun c => c.advance (ticks - u.ahead) }

/-- R159: whether line `j` passes its top in a cycle of `n` ticks. -/
def PassesTop (u : FeederUnit) (n : Nat) (j : FeederLine) : Prop := Counts u j ∧ 4095 < (u.lines.get j).counter + n

theorem passes_iff (u : FeederUnit) (n : Nat) (j : FeederLine) : (u.lines.get j).passes n = true ↔ PassesTop u n j := by
  unfold FeederCount.passes PassesTop Counts
  rw [Bool.and_eq_true, beq_iff_eq, decide_eq_true_iff]

/-- The lines that pass their tops, each with its overflow. -/
def overflows (u : FeederUnit) (n : Nat) (t : State) : State :=
  allLines.foldl (fun t i => if (u.lines.get i).passes n then live (fun t => overflowAfter t i 0) t else t) t

theorem overflows_none {u : FeederUnit} {n : Nat} (h : ∀ j, ¬PassesTop u n j) (t : State) : overflows u n t = t := by
  have hn (j : FeederLine) : (u.lines.get j).passes n = false := by
    rw [← Bool.not_eq_true, passes_iff]
    exact h j
  unfold overflows
  simp [hn, allLines]

theorem overflows_one {u : FeederUnit} {n : Nat} {i : FeederLine} (hi : PassesTop u n i)
    (h : ∀ j, j ≠ i → ¬PassesTop u n j) (t : State) : overflows u n t = live (fun t => overflowAfter t i 0) t := by
  have hn (j : FeederLine) (e : j ≠ i) : (u.lines.get j).passes n = false := by
    rw [← Bool.not_eq_true, passes_iff]
    exact h j e
  have hy : (u.lines.get i).passes n = true := (passes_iff u n i).2 hi
  unfold overflows
  cases i <;> simp [allLines, hy, hn]

theorem advance_advance_zero (c : FeederCount) (n : Nat) : (c.advance n).advance 0 = c.advance n := by
  by_cases h : c.state = some .counting
  · rw [advance_counting h]
    unfold FeederCount.advance
    rw [if_pos h]
    simp
  · rw [advance_other h, advance_other h]

/-- The sense ticks of a cycle, and what the divider then holds. -/
theorem senseTicks_eq (clk divider n : Nat) : senseTicks clk divider n =
    (if clk = 7 then 1 else (divider + n) / 2 ^ clk, if clk = 7 then divider else (divider + n) % 2 ^ clk) := by
  unfold senseTicks
  split <;> rfl

section
variable {s : State} {r : TestRec} {l : List FeederLine} {clk dis reload : Nat} (hm : Measuring s r .feeder)
  (hp : r.params = .feeder l clk dis reload)
include hm hp

theorem senseCycle_eq (hc : s.tests.feeder.phase = .charge) : senseCycle s =
    overflows s.tests.feeder
      ((senseTicks clk s.tests.feeder.divider (senseCycles s)).1 - s.tests.feeder.ahead)
      (withUnit s (cycleUnit s.tests.feeder (senseTicks clk s.tests.feeder.divider (senseCycles s)).1
        (senseTicks clk s.tests.feeder.divider (senseCycles s)).2)) := by
  unfold senseCycle
  rw [hm.1, hc, Option.map_some, hp]
  rfl

/-- The one line that passes its top in a cycle overflows. -/
theorem overflow_leaves {i : FeederLine} {ticks divider : Nat} (hc : s.tests.feeder.phase = .charge)
    (hi : Counts s.tests.feeder i) {t : State}
    (ht : overflowAfter (withUnit s (cycleUnit s.tests.feeder ticks divider)) i 0 = t) :
    t.tests.feeder.lines.get i = { counter := 4095, state := some .overflow }
      ∧ OthersCount s t r l i (ticks - s.tests.feeder.ahead)
      ∧ t.tests.feeder.ahead = s.tests.feeder.ahead - ticks ∧ t.tests.feeder.divider = divider := by
  have hg (j : FeederLine) : (cycleUnit s.tests.feeder ticks divider).lines.get j =
      (s.tests.feeder.lines.get j).advance (ticks - s.tests.feeder.ahead) := PerLine.get_map _ _ _
  have hci : Counts (cycleUnit s.tests.feeder ticks divider) i := by
    unfold Counts
    rw [hg, advance_state]
    exact hi
  have he := feederEvent_eq (s := withUnit s (cycleUnit s.tests.feeder ticks divider)) hm hp hc hci 0
    fun _ _ => { counter := 4095, state := some .overflow }
  rw [← ht]
  unfold overflowAfter
  rw [he]
  generalize hu : eventUnit (withUnit s (cycleUnit s.tests.feeder ticks divider)).tests.feeder i 0
    (fun _ => { counter := 4095, state := some .overflow }) = u
  have hui : u.lines.get i = { counter := 4095, state := some .overflow } := by
    rw [← hu, eventUnit_same]
  have huj (j : FeederLine) (h : j ≠ i) :
      u.lines.get j = (s.tests.feeder.lines.get j).advance (ticks - s.tests.feeder.ahead) := by
    rw [← hu, eventUnit_other _ h]
    show ((cycleUnit s.tests.feeder ticks divider).lines.get j).advance 0 = _
    rw [hg, advance_advance_zero]
  have ho := feederEnd_others (u := u) (i := i) hm hp (by rw [← hu]; rfl) (by rw [← hu]; exact hc)
    (by unfold Counts; rw [hui]; exact ⟨nofun, rfl⟩) huj
  obtain ⟨-, hl, ha, hd⟩ := feederEnd_parts hm hp u
  refine ⟨?_, ho, ?_, ?_⟩
  · exact (congrArg (PerLine.get · i) hl).trans hui
  · exact ha.trans (by rw [← hu]; rfl)
  · exact hd.trans (by rw [← hu]; rfl)

end

end Sys2Proof.Machine

open Sys2Proof Sys2Proof.Machine

/-- Settles O45. -/
theorem feederUnitCounts : Obligations.FeederUnitCounts := by
  intro s r l clk dis reload hr hm hp f counts after others
  have acts {t : State} {i : FeederLine} {n : Nat} (h : OthersCount s t r l i n) : others t i n :=
    ⟨h.frame, h.counted, h.stands, h.goesOn, h.judged⟩
  refine ⟨fun ht => ?_, fun i ticks hc hi => ?_, fun i hc hi => ?_, fun hc => ?_⟩
  · refine ⟨_, lives hr (dischargeExpired_charges hm hp ht), rfl, fun i hi => foldl_put_mem hi _ _,
      fun i hi => foldl_put_other hi _ _⟩
  · intro n
    obtain ⟨hl, ho, ha, -⟩ := feederEvent_leaves (ticks := ticks)
      (f := fun loaded c => { c with state := some (.tripped (c.counter - loaded)) })
      (x := { counter := n, state := some (.tripped (n - (4095 - reload))) }) hm hp hc hi
      (by rw [advance_counting hi]; rfl) ⟨nofun, rfl⟩
    exact ⟨_, lives hr rfl, hl, acts ho, ha⟩
  · obtain ⟨hl, ho, ha, -⟩ := feederEvent_leaves (ticks := 4096 - (f.lines.get i).counter)
      (f := fun _ _ => { counter := 4095, state := some .overflow })
      (x := { counter := 4095, state := some .overflow }) hm hp hc hi rfl ⟨nofun, rfl⟩
    exact ⟨_, lives hr rfl, hl, acts ho, ha⟩
  · intro cycles ticks divider passes
    have hs : senseCycle s = overflows f (ticks - f.ahead) (withUnit s (cycleUnit f ticks divider)) := by
      have h := senseCycle_eq hm hp hc
      rw [senseTicks_eq] at h
      exact h
    refine ⟨fun hn => ?_, fun i hi hn => ?_⟩
    · intro t
      have ht : t = withUnit s (cycleUnit f ticks divider) := hs.trans (overflows_none hn _)
      clear_value t
      subst ht
      refine ⟨rfl, fun j hj => ?_, fun j hj => ?_⟩
      · exact (PerLine.get_map _ _ _).trans (advance_counting hj _)
      · exact (PerLine.get_map _ _ _).trans (advance_other hj _)
    · have h := overflow_leaves hm hp (ticks := ticks) (divider := divider) hc hi.1 rfl
      refine ⟨_, hs.trans ((overflows_one hi hn _).trans (if_pos hr)), h.1, acts h.2.1, h.2.2.1, h.2.2.2⟩

end

section
/-! SUPPORT. The bus transactions of a test, its cleanup, and the events of other blocks (R138, R141 to R150). -/

namespace Sys2Proof.Machine

/-! ## A transaction offered -/

/-- The state with the transaction `o` of the current test standing. -/
def standingTxn (s : State) (o : Outstanding) : State := { s with tests := { s.tests with outstanding := some o } }

section
variable {s : State} {r : TestRec} (hc : s.tests.current = some r)
include hc

theorem offerTest_free (o : Outstanding) (hs : s.bus.internalSlot = none) : offerTest s o =
    { s with
      tests := { s.tests with outstanding := some { o with place := .offered } }
      bus := { s.bus with internalSlot := some (testTransaction s.cfg r.params o) }
      signals := s.signals ++ [.busChoose] } := by
  unfold offerTest
  rw [hc]
  dsimp only
  rw [offerInternal_free hs]
  rfl

omit hc in
theorem testTransaction_requester (cfg : Settings) (p : TestParams) (o : Outstanding) :
    (testTransaction cfg p o).requester = .test := by
  unfold testTransaction
  split <;> rfl

theorem offerTest_full (o : Outstanding) (hs : s.bus.internalSlot.isSome) : offerTest s o =
    { s with
      tests := { s.tests with outstanding := some { o with place := .keptBack } }
      bus := { s.bus with noteTest := true } } := by
  obtain ⟨y, hy⟩ := Option.isSome_iff_exists.1 hs
  unfold offerTest
  rw [hc]
  dsimp only
  rw [offerInternal_full hy, testTransaction_requester]
  unfold State.onTests State.onBus
  dsimp only
  rw [show ((Requester.test : Requester) == .link) = false from rfl,
    show ((Requester.test : Requester) == .test) = true from rfl, Bool.or_false, Bool.or_true]
  rfl

end

/-! ## A test made final, read from an earlier state -/

/-- What a final test is read from, the same in two states. -/
structure SameTests (s v : State) : Prop where
  queue : v.tests.queue = s.tests.queue
  log : v.tests.log = s.tests.log
  acceptance : v.tests.acceptance = s.tests.acceptance
  run : v.counts.testsRun = s.counts.testsRun
  passed : v.counts.testsPassed = s.counts.testsPassed
  failed : v.counts.testsFailed = s.counts.testsFailed
  time : v.clock.sec = s.clock.sec
  cfg : v.cfg = s.cfg
  level : v.level = s.level
  site : v.site = s.site
  store : v.store = s.store
  part : v.run = s.run
  pending : v.pending = s.pending

theorem TestFinal.judges {s t : State} {r : TestRec} {st : TestState} {why : Option TestReason}
    (h : TestFinal s t r st why) : t.tests.acceptance = judged s.tests.acceptance r st := by
  have hv := h.verdict
  cases st <;> exact hv

/-- A test final in `t` from `v`, read from `s` with another record of the same kind and number. -/
theorem TestFinal.transfer {s v t : State} {r r' : TestRec} {st : TestState} {why : Option TestReason}
    (h : TestFinal v t r st why) (k : SameTests s v) (hk : r.kind = r'.kind) (hn : r.number = r'.number)
    (hf : final s r st why = final s r' st why) : TestFinal s t r' st why := by
  have hj : t.tests.acceptance = judged s.tests.acceptance r' st := by
    rw [h.judges, k.acceptance]
    unfold judged
    rw [hk, hn]
  obtain ⟨hslot, hlog, -, hcount, hrel, hnext, hrest⟩ := h
  have hv : final v r st why = final s r st why := by
    unfold final
    rw [k.time]
  rw [k.queue] at hslot
  rw [hv, k.log, hf] at hlog
  rw [k.run, k.passed, k.failed] at hcount
  rw [hn] at hrel
  rw [k.cfg, k.level, k.site, k.store, k.part, k.pending] at hrest
  refine ⟨hslot, hlog, ?_, hcount, hrel, hnext, hrest⟩
  cases st <;> exact hj

theorem TestFinal.of_same {s v t : State} {r : TestRec} {st : TestState} {why : Option TestReason}
    (h : TestFinal v t r st why) (k : SameTests s v) : TestFinal s t r st why := h.transfer k rfl rfl rfl

theorem SameTests.of_shared {s v : State} (h : Shared s v) : SameTests s v where
  queue := by rw [h.1.tests]
  log := by rw [h.1.tests]
  acceptance := by rw [h.1.tests]
  run := by rw [h.1.counts]
  passed := by rw [h.1.counts]
  failed := by rw [h.1.counts]
  time := by rw [h.1.clock]
  cfg := h.1.cfg
  level := h.1.level
  site := h.1.site
  store := h.1.store
  part := h.1.run
  pending := by rw [h.1.1]

/-! ## Cleanup -/

section
variable {s : State} {r : TestRec} (hc : s.tests.current = some r) {v : Verdict} {why : Option TestReason}
  (hp : r.pending = some (v, why))
include hc hp

theorem cleanupDone_final : TestFinal s (cleanupDone s) r (verdictState v) why := by
  unfold cleanupDone
  rw [hc, Option.bind_some, hp]
  exact finalize_final hc _ _

/-- The kind's own steps of a cleanup, from `s` to `t`. -/
structure KindSteps (s t : State) (r : TestRec) (v : Verdict) (why : Option TestReason) : Prop where
  ends : r.kind ≠ .loopNear → TestFinal s t r (verdictState v) why
  closes : r.kind = .feeder → ∀ i, t.tests.feeder.opened.get i = false
  returns : r.kind = .loopFar → t.share.borrow = .absent
  offers : r.kind = .loopNear → s.bus.internalSlot = none → t =
    { s with
      tests := { s.tests with outstanding := some { firstAttempt .loopOff with place := .offered }, stage := .loopOff }
      bus := { s.bus with internalSlot := some (testTransaction s.cfg r.params (firstAttempt .loopOff)) }
      signals := s.signals ++ [.busChoose] }
  keepsBack : r.kind = .loopNear → s.bus.internalSlot.isSome → t =
    { s with
      tests := { s.tests with outstanding := some (firstAttempt .loopOff), stage := .loopOff }
      bus := { s.bus with noteTest := true } }

/-- The unit with its switches closed and its lines cleared. -/
def closedUnit (t : Tests) : Tests :=
  { t with feeder := { t.feeder with lines := t.feeder.lines.map fun c => { c with state := none }, opened := lineSet [] } }

omit hc hp in
theorem finalize_feeder {r : TestRec} (hc : s.tests.current = some r) (st : TestState) (why : Option TestReason) :
    (finalize s st why).tests.feeder = s.tests.feeder := by
  obtain ⟨w, hw, e⟩ := finalize_shared hc st why
  rw [e, show (w.push .takeTest).tests = w.tests from rfl, hw.1.tests, finalized_tests]
  rfl

theorem cleanupKind_steps : KindSteps s (cleanupKind s r) r v why := by
  unfold cleanupKind
  have other {k k' : TestKind} {p : Prop} (h : r.kind = k) (hne : k ≠ k') (h' : r.kind = k') : p :=
    absurd (h.symm.trans h') hne
  cases hk : r.kind
  case feeder =>
    have hcu : (s.onTests closedUnit).tests.current = some r := hc
    refine ⟨fun _ => (cleanupDone_final hcu hp).of_same
      ⟨rfl, rfl, rfl, rfl, rfl, rfl, rfl, rfl, rfl, rfl, rfl, rfl, rfl⟩, fun _ i => ?_, other hk nofun, other hk nofun,
      other hk nofun⟩
    show (cleanupDone (s.onTests closedUnit)).tests.feeder.opened.get i = false
    unfold cleanupDone
    rw [hcu, Option.bind_some, hp]
    dsimp only
    rw [finalize_feeder hcu]
    cases i <;> rfl
  case loopNear =>
    have hcu : (s.onTests fun t => { t with stage := .loopOff }).tests.current = some r := hc
    exact ⟨fun h => absurd hk h, other hk nofun, other hk nofun, fun _ hs => offerTest_free hcu _ hs,
      fun _ hs => offerTest_full hcu _ hs⟩
  case loopFar =>
    have hb := borrowEnd_shared s
    have ha := borrowEnd_absent s
    dsimp only
    generalize borrowEnd s = u at hb ha ⊢
    have hcu : u.tests.current = some r := by
      rw [hb.1.tests]
      exact hc
    refine ⟨fun _ => (cleanupDone_final hcu hp).of_same (.of_shared hb), other hk nofun, fun _ => ?_, other hk nofun,
      other hk nofun⟩
    unfold cleanupDone
    rw [hcu, Option.bind_some, hp]
    exact finalize_absent ha _ _
  case pulse => exact ⟨fun _ => cleanupDone_final hc hp, other hk nofun, other hk nofun, other hk nofun, other hk nofun⟩
  case probe => exact ⟨fun _ => cleanupDone_final hc hp, other hk nofun, other hk nofun, other hk nofun, other hk nofun⟩

end

end Sys2Proof.Machine
end

section
/-! SUPPORT. What a test does at the events it waits for: its cleanup, its transaction's completion, its timers, and the
deliveries of the link supervisor, the bus and the share engine. -/

namespace Sys2Proof.Machine

/-! ## The start of a cleanup -/

/-- The state with no transaction of the test standing. -/
def txnDropped (s : State) : State := { s with tests := { s.tests with outstanding := none } }

/-- The slot emptied of the test's transaction, and what the others are then told. -/
def txnWithdrawn (s : State) : State :=
  { txnDropped s with
    bus := { s.bus with internalSlot := none, noteLink := false, noteTest := false }
    signals := s.signals ++ (if s.bus.noteLink then [.slotFreeLink] else [])
      ++ (if s.bus.noteTest then [.slotFreeTest] else []) }

theorem withdrawInternal_withdraws {s : State} {x : Txn} (h : s.bus.internalSlot = some x) (hr : x.requester = .test) :
    withdrawInternal (txnDropped s) .test = txnWithdrawn s := by
  unfold withdrawInternal
  rw [show (txnDropped s).bus.internalSlot = some x from h]
  dsimp only
  rw [if_pos hr, internalEmptied_eq]
  rfl

section
variable {s : State} {r : TestRec} (hc : s.tests.current = some r) {v : Verdict} {why : Option TestReason}
  (hp : r.pending = some (v, why)) (hs : s.tests.stage = .measuring)
include hc hp hs

theorem cleanup_begins : cleanup s = (match s.tests.outstanding with
    | none => cleanupKind s r
    | some o =>
      if o.place = .keptBack then cleanupKind (txnDropped s) r
      else if (s.bus.internalSlot.map (·.requester)) = some .test then cleanupKind (withdrawInternal (txnDropped s) .test) r
      else { s with tests := { s.tests with outstanding := some { o with settling := true }, stage := .settling } }) := by
  unfold cleanup
  rw [hc]
  dsimp only
  rw [hp, hs, if_neg (by simp)]
  cases ho : s.tests.outstanding with
  | none => rfl
  | some o =>
    cases hb : s.bus.internalSlot with
    | none => rfl
    | some x =>
      by_cases hx : x.requester = .test
      · simp [hx, txnDropped, State.onTests]
      · simp [hx, txnDropped, State.onTests]

theorem cleanup_none (ho : s.tests.outstanding = none) : KindSteps s (cleanup s) r v why := by
  rw [cleanup_begins hc hp hs, ho]
  exact cleanupKind_steps hc hp

variable {o : Outstanding} (ho : s.tests.outstanding = some o)
include ho

theorem cleanup_keptBack (hk : o.place = .keptBack) : KindSteps (txnDropped s) (cleanup s) r v why := by
  rw [cleanup_begins hc hp hs, ho]
  dsimp only
  rw [if_pos hk]
  exact cleanupKind_steps (s := txnDropped s) hc hp

theorem cleanup_waiting {x : Txn} (hk : o.place = .offered) (hb : s.bus.internalSlot = some x)
    (hx : x.requester = .test) : KindSteps (txnWithdrawn s) (cleanup s) r v why := by
  rw [cleanup_begins hc hp hs, ho]
  dsimp only
  rw [if_neg (by rw [hk]; exact nofun), hb, Option.map_some, hx, if_pos rfl, withdrawInternal_withdraws hb hx]
  exact cleanupKind_steps (s := txnWithdrawn s) hc hp

theorem cleanup_started (hk : o.place = .offered) (hb : s.bus.internalSlot.map (·.requester) ≠ some .test) :
    cleanup s =
      { s with tests := { s.tests with outstanding := some { o with settling := true }, stage := .settling } } := by
  rw [cleanup_begins hc hp hs, ho]
  dsimp only
  rw [if_neg (by rw [hk]; exact nofun), if_neg hb]

end

/-! ## A transaction offered again -/

theorem testSlotFree_offered {s : State} {o : Outstanding} (ho : s.tests.outstanding = some o)
    (hk : o.place = .offered) : testSlotFree s = s := by
  unfold testSlotFree
  rw [ho]
  exact if_neg (by rw [hk]; exact nofun)

theorem testSlotFree_keptBack {s : State} {r : TestRec} {o : Outstanding} (hc : s.tests.current = some r)
    (ho : s.tests.outstanding = some o) (hk : o.place = .keptBack) (hs : s.bus.internalSlot = none) : testSlotFree s =
      { s with
        tests := { s.tests with outstanding := some { o with place := .offered } }
        bus := { s.bus with internalSlot := some (testTransaction s.cfg r.params o) }
        signals := s.signals ++ [.busChoose] } := by
  unfold testSlotFree
  rw [ho]
  dsimp only
  rw [if_pos hk, offerTest_free hc o hs]

theorem testTransaction_loopOn (cfg : Settings) (p : TestParams) {o : Outstanding} (h : o.purpose = .loopOn) :
    testTransaction cfg p o = testTxn o.purpose o.attempt cfg.templates.loopOn.addr cfg.templates.loopOn.bytes 0 := by
  unfold testTransaction
  cases p <;> rw [h]

theorem testTransaction_loopOff (cfg : Settings) (p : TestParams) {o : Outstanding} (h : o.purpose = .loopOff) :
    testTransaction cfg p o = testTxn o.purpose o.attempt cfg.templates.loopOff.addr cfg.templates.loopOff.bytes 0 := by
  unfold testTransaction
  cases p <;> rw [h]

theorem testTransaction_probe (cfg : Settings) (a : Nat) (g : List Byte) (n : Nat) (e m : List Byte) {o : Outstanding}
    (h : o.purpose = .probe) : testTransaction cfg (.probe a g n e m) o = testTxn o.purpose o.attempt a g n := by
  unfold testTransaction
  rw [h]

/-! ## The events of other blocks -/

section
variable {s : State} {r : TestRec} (hc : s.tests.current = some r)
include hc

theorem testLinkState_stands {st : LinkState} (h : st = .up ∨ r.kind ≠ .loopFar) : testLinkState s st = s := by
  unfold testLinkState
  rw [hc]
  exact if_pos h

theorem testLinkState_aborts {st : LinkState} (h : st ≠ .up) (hk : r.kind = .loopFar) (hd : r.state ≠ .deferred) :
    testLinkState s st = abortTest s .link := by
  unfold testLinkState
  rw [hc]
  dsimp only
  rw [if_neg (by rw [not_or]; exact ⟨h, not_not_intro hk⟩), if_neg hd]

theorem testLinkState_refuses {st : LinkState} (h : st ≠ .up) (hk : r.kind = .loopFar) (hd : r.state = .deferred) :
    testLinkState s st = endDeferred s .refused .link := by
  unfold testLinkState
  rw [hc]
  dsimp only
  rw [if_neg (by rw [not_or]; exact ⟨h, not_not_intro hk⟩), if_pos hd]

theorem testRevoked_own (hk : r.kind = .loopFar) : testRevoked s r.number = abortTest s .capacity := by
  unfold testRevoked ifCurrent
  rw [hc]
  dsimp only
  rw [if_pos rfl, if_pos hk]

theorem testRevoked_other {n : Nat}
    (h : ¬((n = r.number ∧ r.kind = .loopFar) ∧ r.state = .running ∧ r.pending = none)) : testRevoked s n = s := by
  unfold testRevoked ifCurrent
  rw [hc]
  dsimp only
  split
  · next hn =>
    split
    · next hk =>
      refine abortTest_other hc ?_ _
      by_cases hr : r.state = .running
      · exact .inl (Option.isSome_iff_ne_none.2 fun hp => h ⟨⟨hn.symm, hk⟩, hr, hp⟩)
      · exact .inr hr
    · rfl
  · rfl

theorem testGranted_other {n : Nat} (h : n ≠ r.number ∨ r.state ≠ .deferred) : testGranted s n = s := by
  unfold testGranted ifCurrent
  rw [hc]
  dsimp only
  split
  · next hn => exact if_neg (h.resolve_left (not_not_intro hn.symm))
  · rfl

theorem testDeferred_other {n : Nat} (h : n ≠ r.number ∨ r.state ≠ .deferred) : testDeferred s n = s := by
  unfold testDeferred ifCurrent
  rw [hc]
  dsimp only
  split
  · next hn => exact if_neg (h.resolve_left (not_not_intro hn.symm))
  · rfl

theorem testDeferred_noticed (n : Nat) : Noticed s (testDeferred s n) := by
  unfold testDeferred ifCurrent
  rw [hc]
  dsimp only
  split
  · split
    · exact noticeBoth_noticed _ _ _ _
    · exact .refl _
  · exact .refl _

/-- A test RUNNING, its measurement not begun. -/
def running (s : State) (r : TestRec) : State :=
  { s with
    tests := { s.tests with current := some { r with state := .running } }
    counts := { s.counts with testsRun := bump s.counts.testsRun } }

theorem runTest_eq : ∃ u, Noticed (running s r) u ∧ runTest s r = beginMeasurement u r := by
  refine ⟨_, ?_, rfl⟩
  rw [onCurrent_current hc]
  exact noticeBoth_noticed _ _ _ _

theorem testGranted_runs (hd : r.state = .deferred) {a b c : Nat} (hp : r.params = .loopFar a b c) :
    Noticed { running s r with
        tests := { s.tests with
          deferTimer := none, current := some { r with state := .running }
          tester := { Tester.stopped with running := true } } } (testGranted s r.number) := by
  unfold testGranted ifCurrent
  rw [hc]
  dsimp only
  rw [if_pos rfl, if_pos hd]
  obtain ⟨u, hu, e⟩ := runTest_eq (s := s.onTests fun t => { t with deferTimer := none }) (r := r) hc
  have hb : beginMeasurement u r = startTester u := by
    unfold beginMeasurement
    rw [hp]
  rw [e, hb]
  exact hu.onTests fun t => { t with tester := { Tester.stopped with running := true } }

theorem deferExpired_ends (hd : r.state = .deferred) (ht : s.tests.deferTimer.isSome) :
    deferExpired s = endDeferred s .refused .capacity := by
  obtain ⟨n, hn⟩ := Option.isSome_iff_exists.1 ht
  unfold deferExpired
  rw [hc, hn]
  exact if_pos hd

theorem edgeWatchExpired_ends (hr : r.state = .running) (hp : r.pending = none) {m : PulseMeasure}
    (hm : s.tests.pulse = some m) (hw : m.watch.isSome) : edgeWatchExpired s =
      measured s { r with pending := some (.fail, some .noPulse), results := some (pulseResults m) } := by
  unfold edgeWatchExpired
  rw [hm]
  dsimp only
  rw [if_pos hw, endMeasurement_running hc hr hp]

end

end Sys2Proof.Machine
end

section
/-! SUPPORT. The completion of a test's bus transaction (R141, R147, R165, R172). -/

namespace Sys2Proof.Machine

/-! ## The bytes of a PROBE -/

/-- The masked bytes agree at a position. -/
def Agree (l e m : List Byte) (i : Nat) : Prop := l[i]?.map (· &&& m.getD i 0) = e[i]?.map (· &&& m.getD i 0)

theorem agree_cons_zero (a b c : Byte) (l e m : List Byte) :
    Agree (a :: l) (b :: e) (c :: m) 0 ↔ a &&& c = b &&& c := by
  unfold Agree
  simp

theorem agree_cons_succ (a b c : Byte) (l e m : List Byte) (i : Nat) :
    Agree (a :: l) (b :: e) (c :: m) (i + 1) ↔ Agree l e m i := by
  unfold Agree
  simp

/-- What `firstMismatch` finds, counted from `k`. -/
theorem firstMismatch_finds : ∀ (l e m : List Byte) (k : Nat), e.length = l.length → m.length = l.length →
    ((∀ i, i < l.length → Agree l e m i) → firstMismatch k l e m = none)
    ∧ ∀ i, i < l.length → ¬Agree l e m i → (∀ j, j < i → Agree l e m j) → firstMismatch k l e m = some (k + i) := by
  intro l
  induction l with
  | nil => exact fun e m k _ _ => ⟨fun _ => rfl, fun i h => absurd h (Nat.not_lt_zero i)⟩
  | cons a l ih =>
    intro e m k he hm
    obtain ⟨b, e, rfl⟩ := List.exists_cons_of_length_eq_add_one he
    obtain ⟨c, m, rfl⟩ := List.exists_cons_of_length_eq_add_one hm
    obtain ⟨hn, hs⟩ := ih e m (k + 1) (Nat.succ.inj he) (Nat.succ.inj hm)
    refine ⟨fun h => ?_, fun i hi hd hb => ?_⟩
    · have h0 := (agree_cons_zero a b c l e m).1 (h 0 (Nat.zero_lt_succ _))
      show (if _ then _ else _) = _
      rw [if_pos h0]
      exact hn fun i hi => (agree_cons_succ a b c l e m i).1 (h (i + 1) (Nat.succ_lt_succ hi))
    · show (if _ then _ else _) = _
      cases i with
      | zero =>
        rw [if_neg fun h => hd ((agree_cons_zero a b c l e m).2 h)]
        rfl
      | succ i =>
        rw [if_pos ((agree_cons_zero a b c l e m).1 (hb 0 (Nat.zero_lt_succ _)))]
        rw [hs i (Nat.lt_of_succ_lt_succ hi) (fun h => hd ((agree_cons_succ a b c l e m i).2 h))
          fun j hj => (agree_cons_succ a b c l e m j).1 (hb (j + 1) (Nat.succ_lt_succ hj)), Nat.add_right_comm]
        rfl

/-! ## Completions -/

section
variable {s : State} {r : TestRec} {o : Outstanding} (hc : s.tests.current = some r)
  (ho : s.tests.outstanding = some o) (x : Txn)
include hc ho

theorem testCompleted_settling (hs : o.settling = true) : testCompleted s x = cleanupKind (txnDropped s) r := by
  unfold testCompleted
  rw [ho, hc]
  exact if_pos hs

theorem testCompleted_probe (hs : o.settling = false) (hp : o.purpose = .probe) {a n : Nat} {g e m : List Byte}
    (hr : r.params = .probe a g n e m) : testCompleted s x = judgeProbe (txnDropped s) e m x := by
  unfold testCompleted
  rw [ho, hc]
  dsimp only
  rw [if_neg (by rw [hs]; decide), hp, hr]
  rfl

theorem testCompleted_loopOff (hs : o.settling = false) (hp : o.purpose = .loopOff) : testCompleted s x =
    if x.status = some .ok then cleanupDone (txnDropped s)
    else if o.attempt < 3 then offerTest (txnDropped s) { o with attempt := o.attempt + 1, place := .keptBack }
    else loopOffGivenUp (txnDropped s) x.status := by
  unfold testCompleted
  rw [ho, hc]
  dsimp only
  rw [if_neg (by rw [hs]; decide), hp]
  cases r.params <;> rfl

section
variable (hs : o.settling = false) (hr : r.state = .running) (hn : r.pending = none)
include hs hr hn

theorem testCompleted_loopOn (hp : o.purpose = .loopOn) : testCompleted s x =
    if x.status = some .ok then
      startTester ((txnDropped s).onTests fun k => { k with loopOnStatus := x.status })
    else endMeasurement ((txnDropped s).onTests fun k => { k with loopOnStatus := x.status }) .fail (some .bus)
      (.loop x.status 0 0 0 0 0) := by
  have hf : testPending ((txnDropped s).onTests fun k => { k with loopOnStatus := x.status }) = false :=
    testPending_running (show ((txnDropped s).onTests _).tests.current = some r from hc) hr hn
  unfold testCompleted
  rw [ho, hc]
  dsimp only
  rw [if_neg (by rw [hs]; decide), hp]
  show (if testPending ((txnDropped s).onTests fun k => { k with loopOnStatus := x.status }) then _ else _) = _
  rw [hf]
  rfl

end

end

theorem finalize_oduFaults {s : State} {r : TestRec} (hc : s.tests.current = some r) (st : TestState)
    (why : Option TestReason) : (finalize s st why).counts.oduFaults = s.counts.oduFaults := by
  obtain ⟨w, hw, e⟩ := finalize_shared hc st why
  rw [e, show (w.push .takeTest).counts = w.counts from rfl, hw.1.counts]
  rfl

/-- The outcome of a test whose LOOPOFF write was given up. -/
def givenUp : Verdict × Option TestReason → Verdict × Option TestReason
  | (.pass, _) => (.fail, some .cleanup)
  | p => p

theorem loopOffGivenUp_ends {s : State} {r : TestRec} (hc : s.tests.current = some r) {v : Verdict}
    {why : Option TestReason} (hp : r.pending = some (v, why)) (status : Option BusStatus) :
    TestFinal s (loopOffGivenUp s status) { r with loopOffFailed := true } (if v = .pass then .fail else verdictState v)
        (if v = .pass then some .cleanup else why)
      ∧ (loopOffGivenUp s status).counts.oduFaults = bump s.counts.oduFaults := by
  have hg : (match (some (v, why) : Option (Verdict × Option TestReason)) with
      | some (.pass, _) => some (.fail, some .cleanup)
      | p => p) = some (if v = .pass then (.fail, some .cleanup) else (v, why)) := by cases v <;> rfl
  generalize hr' : ({ r with
      loopOffFailed := true
      pending := some (if v = .pass then (.fail, some .cleanup) else (v, why)) } : TestRec) = r'
  have hcu : (s.onCurrent fun r => { r with
      loopOffFailed := true
      pending := match r.pending with | some (.pass, _) => some (.fail, some .cleanup) | p => p })
      = { s with tests := { s.tests with current := some r' } } := by
    rw [onCurrent_current hc, hp, ← hr', ← hg]
  have ho := oduFault_noticed { s with tests := { s.tests with current := some r' } } (.word Purpose.loopOff.word)
    (.word TemplateName.loopOff.word) status
  have hd : loopOffGivenUp s status = cleanupDone (oduFault { s with tests := { s.tests with current := some r' } }
      (.word Purpose.loopOff.word) (.word TemplateName.loopOff.word) status) := by
    rw [← hcu]
    rfl
  rw [hd]
  generalize oduFault _ _ _ status = w at ho ⊢
  have hcw : w.tests.current = some r' := by
    rw [ho.tests]
    rfl
  have hpw : r'.pending = some (if v = .pass then (.fail, some .cleanup) else (v, why)) := by rw [← hr']
  have hk : SameTests s w := by
    have k := SameTests.of_shared ho.shared
    exact ⟨k.queue, k.log, k.acceptance, k.run, k.passed, k.failed, k.time, k.cfg, k.level, k.site, k.store, k.part,
      k.pending⟩
  refine ⟨?_, ?_⟩
  · have hf : TestFinal w (cleanupDone w) r' (if v = .pass then .fail else verdictState v)
        (if v = .pass then some .cleanup else why) := by
      cases v
      case pass => exact cleanupDone_final hcw hpw
      case fail => exact cleanupDone_final hcw hpw
      case aborted => exact cleanupDone_final hcw hpw
    refine hf.transfer hk ?_ ?_ ?_ <;> rw [← hr']
    rfl
  · unfold cleanupDone
    rw [hcw, Option.bind_some, hpw]
    dsimp only
    rw [finalize_oduFaults hcw, show w.counts = _ from PortsOnly.counts ho.1.1]
    rfl

end Sys2Proof.Machine
end

section
/-! SUPPORT. A test's events, as its obligation puts them. -/

namespace Sys2Proof.Machine

section
variable {s : State} {r : TestRec} {o : Outstanding} (hc : s.tests.current = some r)
  (ho : s.tests.outstanding = some o) (x : Txn)
include hc ho

/-- The LOOPOFF write of a cleanup, as it stands in the slot. -/
def loopOffTxn (s : State) (n : Nat) : Txn :=
  testTxn .loopOff n s.cfg.templates.loopOff.addr s.cfg.templates.loopOff.bytes 0

/-- The LOOPOFF write offered for the attempt `n`. -/
def loopOffOffered (s : State) (n : Nat) : State :=
  { s with
    tests := { s.tests with
      outstanding := some { purpose := .loopOff, attempt := n, place := .offered, settling := false }, stage := .loopOff }
    bus := { s.bus with internalSlot := some (loopOffTxn s n) }
    signals := s.signals ++ [.busChoose] }

theorem settling_probe (hs : o.settling = true) {v : Verdict} {why : Option TestReason}
    (hp : r.pending = some (v, why)) (hk : r.kind = .probe) :
    TestFinal s (testCompleted s x) r (verdictState v) why := by
  rw [testCompleted_settling hc ho x hs]
  exact ((cleanupKind_steps (s := txnDropped s) hc hp).ends (by rw [hk]; exact nofun)).of_same
    ⟨rfl, rfl, rfl, rfl, rfl, rfl, rfl, rfl, rfl, rfl, rfl, rfl, rfl⟩

theorem settling_loopNear (hs : o.settling = true) {v : Verdict} {why : Option TestReason}
    (hp : r.pending = some (v, why)) (hk : r.kind = .loopNear) (hb : s.bus.internalSlot = none) :
    testCompleted s x = loopOffOffered s 1 := by
  rw [testCompleted_settling hc ho x hs, (cleanupKind_steps (s := txnDropped s) hc hp).offers hk hb,
    testTransaction_loopOff _ _ rfl]
  rfl

section
variable (hs : o.settling = false)
include hs

section
variable (hr : r.state = .running) (hn : r.pending = none)
include hr hn

/-- The measurement ended in the state `k` of the tests, with the outcome and the results given. -/
def endedWith (s : State) (r : TestRec) (k : Tests) (v : Verdict) (why : Option TestReason) (res : TestResults) : State :=
  measured { s with tests := k } { r with pending := some (v, why), results := some res }

theorem probe_judged {a n : Nat} {g e m : List Byte} (hp : o.purpose = .probe) (hq : r.params = .probe a g n e m)
    (hx : x.status = some .ok) (hl : x.data.length = n) (he : e.length = n) (hm : m.length = n) :
    ((∀ i, i < n → Agree x.data e m i) → testCompleted s x =
        endedWith s r (txnDropped s).tests .pass none (.probe .ok x.written x.data none))
    ∧ ∀ i, i < n → ¬Agree x.data e m i → (∀ j, j < i → Agree x.data e m j) → testCompleted s x =
        endedWith s r (txnDropped s).tests .fail (some .limit) (.probe .ok x.written x.data (some i)) := by
  have hcu : (txnDropped s).tests.current = some r := hc
  obtain ⟨hnone, hsome⟩ := firstMismatch_finds x.data e m 0 (he.trans hl.symm) (hm.trans hl.symm)
  rw [testCompleted_probe hc ho x hs hp hq]
  unfold judgeProbe
  rw [hx]
  dsimp only [Option.getD]
  rw [if_pos rfl]
  refine ⟨fun h => ?_, fun i hi hd hb => ?_⟩
  · rw [hnone fun i hi => h i (hl ▸ hi)]
    exact endMeasurement_running hcu hr hn _ _ _
  · rw [hsome i (hl.symm ▸ hi) hd hb, Nat.zero_add]
    exact endMeasurement_running hcu hr hn _ _ _

theorem probe_failed {a n : Nat} {g e m : List Byte} (hp : o.purpose = .probe) (hq : r.params = .probe a g n e m)
    {st : BusStatus} (hx : x.status = some st) (h : st ≠ .ok) : testCompleted s x =
      endedWith s r (txnDropped s).tests .fail (some .bus) (.probe st x.written x.data none) := by
  rw [testCompleted_probe hc ho x hs hp hq]
  unfold judgeProbe
  rw [hx]
  dsimp only [Option.getD]
  rw [if_neg h]
  exact endMeasurement_running (s := txnDropped s) hc hr hn _ _ _

theorem loopOn_starts (hp : o.purpose = .loopOn) (hx : x.status = some .ok) : testCompleted s x =
    { s with tests := { (txnDropped s).tests with
      loopOnStatus := some .ok, tester := { Tester.stopped with running := true } } } := by
  rw [testCompleted_loopOn hc ho x hs hr hn hp, if_pos hx, hx]
  rfl

theorem loopOn_failed (hp : o.purpose = .loopOn) {st : BusStatus} (hx : x.status = some st) (h : st ≠ .ok) :
    testCompleted s x = endedWith s r { (txnDropped s).tests with loopOnStatus := some st } .fail (some .bus)
      (.loop (some st) 0 0 0 0 0) := by
  rw [testCompleted_loopOn hc ho x hs hr hn hp, hx, if_neg (by simpa using h)]
  exact endMeasurement_running (s := (txnDropped s).onTests fun k => { k with loopOnStatus := some st }) hc hr hn _ _ _

end

section
variable {v : Verdict} {why : Option TestReason} (hp : o.purpose = .loopOff) (hv : r.pending = some (v, why))
include hp hv

theorem loopOff_ended (hx : x.status = some .ok) : TestFinal s (testCompleted s x) r (verdictState v) why := by
  rw [testCompleted_loopOff hc ho x hs hp, if_pos hx]
  exact (cleanupDone_final (s := txnDropped s) hc hv).of_same
    ⟨rfl, rfl, rfl, rfl, rfl, rfl, rfl, rfl, rfl, rfl, rfl, rfl, rfl⟩

omit hv in
theorem loopOff_again (hx : x.status ≠ some .ok) (ha : o.attempt < 3) (hst : s.tests.stage = .loopOff)
    (hb : s.bus.internalSlot = none) : testCompleted s x = loopOffOffered s (o.attempt + 1) := by
  rw [testCompleted_loopOff hc ho x hs hp, if_neg hx, if_pos ha, offerTest_free (s := txnDropped s) hc _ hb,
    testTransaction_loopOff _ _ (by exact hp)]
  unfold loopOffOffered
  rw [← hst]
  dsimp only
  rw [hp, hs]
  rfl

theorem loopOff_givenUp (hx : x.status ≠ some .ok) (ha : 3 ≤ o.attempt) :
    TestFinal s (testCompleted s x) { r with loopOffFailed := true } (if v = .pass then .fail else verdictState v)
        (if v = .pass then some .cleanup else why)
      ∧ (testCompleted s x).counts.oduFaults = bump s.counts.oduFaults := by
  rw [testCompleted_loopOff hc ho x hs hp, if_neg hx, if_neg (Nat.not_lt.2 ha)]
  obtain ⟨hf, hf'⟩ := loopOffGivenUp_ends (s := txnDropped s) hc hv x.status
  exact ⟨hf.of_same ⟨rfl, rfl, rfl, rfl, rfl, rfl, rfl, rfl, rfl, rfl, rfl, rfl, rfl⟩, hf'⟩

end

end

end

end Sys2Proof.Machine
end
section
open Sys2Proof Sys2Proof.Machine

/-- Settles O44. -/
theorem testTimersExpire : Obligations.TestTimersExpire := by
  refine ⟨fun s r hr => ⟨fun hc hd ht hn => ?_, fun m hm hp hw => ?_⟩, fun s r o x hc ho => ?_, fun s r hc => ?_,
    fun s r v why hc hp hst => ?_, fun s r o hc ho => ?_⟩
  · exact ⟨_, lives hr (deferExpired_ends hc hd ht), endDeferred_ended (st := .refused) hc hn (by decide) (by decide) _⟩
  · obtain ⟨hc, -, hst, hn⟩ := hm
    exact ⟨_, lives hr (edgeWatchExpired_ends hc hst hn hp hw), rfl, rfl, rfl⟩
  · intro t done ended loopOff standing offered
    refine ⟨fun v why hs hv => ⟨settling_probe hc ho x hs hv, settling_loopNear hc ho x hs hv⟩,
      fun hs hr hn => ⟨fun a g n e m hp hq => ?_, fun hp => ⟨loopOn_starts hc ho x hs hr hn hp,
        fun st hx h => loopOn_failed hc ho x hs hr hn hp hx h⟩⟩,
      fun v why hs hp hv => ⟨loopOff_ended hc ho x hs hp hv, loopOff_again hc ho x hs hp,
        loopOff_givenUp hc ho x hs hp hv⟩⟩
    intro agree res
    exact ⟨fun hx hl he hm => probe_judged hc ho x hs hr hn hp hq hx hl he hm,
      fun st hx h => probe_failed hc ho x hs hr hn hp hq hx h⟩
  · intro ofFar granted
    refine ⟨fun st h => testLinkState_stands hc h, fun st h hk => ⟨fun hr hp => ?_, fun hr hp => ?_, fun hd hn => ?_⟩,
      fun n hf hr hp => ?_, fun n h => testRevoked_other hc h, fun n hf ha hd => ?_,
      fun n h => ⟨testGranted_other hc h, testDeferred_other hc h⟩,
      fun n _ _ => (testDeferred_noticed hc n).1⟩
    · have hd : r.state ≠ .deferred := by rw [hr]; decide
      exact (testLinkState_aborts hc h hk hd).trans (abortTest_running hc hr hp _)
    · have hd : r.state ≠ .deferred := by rw [hr]; decide
      exact (testLinkState_aborts hc h hk hd).trans (abortTest_other hc (.inl hp) _)
    · have e : deliver s (.linkToTests st) = endDeferred s .refused .link := testLinkState_refuses hc h hk hd
      rw [e]
      exact endDeferred_ended (st := .refused) hc hn (by decide) (by decide) _
    · obtain ⟨rfl, hk⟩ := hf
      exact (testRevoked_own hc hk).trans (abortTest_running hc hr hp _)
    · obtain ⟨rfl, -⟩ := hf
      obtain ⟨a, b, c, ha⟩ := ha
      exact (testGranted_runs hc hd ha).1
  · intro t write standing kindSteps dropped
    have acts {u : State} (hu : u.cfg = s.cfg) (h : KindSteps u t r v why) : kindSteps u := by
      refine ⟨h.ends, h.closes, h.returns, fun hk hb => ?_, h.keepsBack⟩
      have hw : testTransaction u.cfg r.params (firstAttempt .loopOff) = write := by
        rw [testTransaction_loopOff _ _ rfl, hu]
        rfl
      have ht := h.offers hk hb
      rw [hw] at ht
      exact ht
    exact ⟨fun ho => acts rfl (cleanup_none hc hp hst ho), fun o ho => ⟨fun hk => acts rfl (cleanup_keptBack hc hp hst ho hk),
      fun y hk hb hy => acts rfl (cleanup_waiting hc hp hst ho hk hb hy), fun hk hb => cleanup_started hc hp hst ho hk hb⟩⟩
  · intro t again
    refine ⟨testSlotFree_offered ho, fun hk hb => ⟨fun hp => ?_, fun hp => ?_, fun a g n e m hp hq => ?_⟩⟩
    · have h := testSlotFree_keptBack hc ho hk hb
      rw [testTransaction_loopOn _ _ hp] at h
      exact h
    · have h := testSlotFree_keptBack hc ho hk hb
      rw [testTransaction_loopOff _ _ hp] at h
      exact h
    · have h := testSlotFree_keptBack hc ho hk hb
      rw [hq, testTransaction_probe _ _ _ _ _ _ hp] at h
      exact h

end

section
/-! SUPPORT. What an event of the timing selector leaves: the sources as they are forced, the selection that follows,
the jump request that a change cancels, and the bound and the grade (R86, R89, R93, R98, R99, R102). -/

namespace Sys2Proof.Machine

/-! ## The end of an event -/

/-- What the end of an event of the timing selector leaves, but for reshares. -/
def committed (s : State) : State :=
  { s with
    timing := s.timing.regrade s.cfg
    clock := { s.clock with tstate := s.timing.state, grade := (s.timing.regrade s.cfg).grade } }

theorem timingCommit_committed (s : State) (old : Timing) (c : TimingCauses) :
    Shared (committed s) (timingCommit s old c) := timingCommit_shared s old c

/-- The share engine takes a new grade. -/
def gradeShared (s : State) (old new : Grade) : State :=
  if new = old then s else shareInput s fun h => { h with grade := new }

/-- The share engine takes the presence of a jump request. -/
def jumpShared (s : State) (old new : Bool) : State :=
  if new = old then s else shareInput s fun h => { h with jump := new }

theorem timingNotice_noticed (t : State) (c : Prop) [Decidable c] (w : List String) (l : List Pair) :
    Noticed t (if c then t else noticeBoth t .time w l) := by
  split
  · exact .refl _
  · exact noticeBoth_noticed _ _ _ _

theorem sourceNotice_noticed (old : Timing) (c : String) (s : State) (i : Source) :
    Noticed s (sourceNotice old c s i) := by
  unfold sourceNotice
  dsimp only
  split
  · exact .refl _
  · exact noticeBoth_noticed _ _ _ _

/-- The end of an event: notices, then the two copies of the share engine. -/
theorem timingCommit_steps (s : State) (old : Timing) (c : TimingCauses) :
    ∃ v, Noticed (committed s) v ∧ timingCommit s old c = syncSummary timingOwned
      (jumpShared (gradeShared v old.grade (s.timing.regrade s.cfg).grade) old.jumpReq.isSome
        s.timing.jumpReq.isSome) := by
  have hj : ∀ (t : State) (a b : Option JumpRequest), Noticed t (match a, b with
      | some j, none =>
        if c.jump = "" then t
        else noticeBoth t .time ["JUMP", "CANCELLED"] [kv "amount" (.int j.amount), kv "cause" (.word c.jump)]
      | _, _ => t) := by
    intro t a b
    split
    · exact timingNotice_noticed _ _ _ _
    · exact .refl _
  have hc : ∀ (t u : State) (f : Clock → Clock) (g : Clock), Noticed t u → f t.clock = g →
      Noticed { t with clock := g } (u.onClock f) := by
    intro t u f g h e
    rw [← e]
    exact h.onClock f
  unfold timingCommit
  dsimp only
  refine ⟨_, ?_, rfl⟩
  refine hc (s.onTiming fun t => t.regrade s.cfg) _ _ _ ?_ rfl
  refine Noticed.trans ?_ (hj _ _ _)
  refine Noticed.trans ?_ (timingNotice_noticed _ _ _ _)
  refine Noticed.trans ?_ (timingNotice_noticed _ _ _ _)
  refine Noticed.trans ?_ (timingNotice_noticed _ _ _ _)
  exact Noticed.foldl _ (sourceNotice_noticed _ _) _ _

theorem timingCommit_absent {s : State} (h : s.share.borrow = .absent) (old : Timing) (c : TimingCauses) :
    (timingCommit s old c).share.borrow = .absent := by
  obtain ⟨v, hv, e⟩ := timingCommit_steps s old c
  have hb : v.share.borrow = .absent := by
    rw [PortsOnly.share hv.1.1]
    exact h
  rw [e, PortsOnly.share (syncSummary_portsOnly _ _)]
  unfold jumpShared gradeShared
  have hg : (if (s.timing.regrade s.cfg).grade = old.grade then v
      else shareInput v fun h => { h with grade := (s.timing.regrade s.cfg).grade }).share.borrow = .absent := by
    split
    · exact hb
    · exact shareInput_absent hb
  split
  · exact hg
  · exact shareInput_absent hg

/-- The share engine's copy of the presence of a jump request. -/
theorem timingCommit_jump (s : State) (old : Timing) (c : TimingCauses) : (timingCommit s old c).share.jump =
    if s.timing.jumpReq.isSome = old.jumpReq.isSome then s.share.jump else s.timing.jumpReq.isSome := by
  obtain ⟨v, hv, e⟩ := timingCommit_steps s old c
  have hj (t : State) (b : Share) (n : Option (Fin 16 × ShareCause)) (fr : Bool) :
      (reshare t b n fr).share.jump = t.share.jump := by
    rw [reshare_share]
    rfl
  have hb : v.share.jump = s.share.jump := by
    rw [PortsOnly.share hv.1.1]
    rfl
  have hg : (gradeShared v old.grade (s.timing.regrade s.cfg).grade).share.jump = s.share.jump := by
    unfold gradeShared
    split
    · exact hb
    · unfold shareInput
      rw [hj]
      exact hb
  rw [e, PortsOnly.share (syncSummary_portsOnly _ _)]
  unfold jumpShared
  split
  · exact hg
  · unfold shareInput
    rw [hj]

theorem regrade_keeps (cfg : Settings) (t : Timing) : t.regrade cfg =
    { t with bound := (t.regrade cfg).bound, grade := (t.regrade cfg).grade } := rfl

/-! ## The sources and the selection -/

/-- The timing after the forced CHECKs and the choice of a source. -/
def chosen (t : Timing) (became : Option Source) : Timing := (t.applyForce.reselect became false).1

/-- Whether the choice changes the selection of `old` under a jump request, which is then cancelled. -/
def cancels (old new : Timing) : Bool := decide (new.selected ≠ old.selected) && new.jumpReq.isSome

/-- A change of selection cancels a jump request. -/
def jumpCancelled (s : State) (old : Timing) : State :=
  { s with
    timing := { s.timing with jumpReq := if cancels old s.timing then none else s.timing.jumpReq }
    clock := { s.clock with jump := if cancels old s.timing then none else s.clock.jump } }

theorem cancelOnReselect_eq (s : State) (old : Timing) : cancelOnReselect s old = jumpCancelled s old := by
  unfold cancelOnReselect jumpCancelled cancels
  by_cases h : s.timing.selected = old.selected
  · rw [if_pos (.inl h), decide_eq_false (not_not_intro h)]
    rfl
  · rw [decide_eq_true h]
    cases hj : s.timing.jumpReq with
    | none =>
      rw [if_pos (.inr rfl)]
      show s = { s with timing := { s.timing with jumpReq := none }, clock := s.clock }
      rw [← hj]
    | some j =>
      rw [if_neg (by rw [not_or]; exact ⟨h, nofun⟩)]
      rfl

theorem sourcesChanged_eq (s0 s : State) (became : Option Source) (cause : String) :
    ∃ c, sourcesChanged s0 s became cause =
      timingCommit (jumpCancelled (s.onTiming fun _ => chosen s.timing became) s0.timing) s0.timing c := by
  refine ⟨?c, ?_⟩
  case c =>
    exact
      { source := cause
        select := (s.timing.applyForce.reselect became false).2
        state := if (s.timing.applyForce.reselect became false).1.selected.isSome then "SELECTED" else "LOSS"
        jump := if (s.timing.applyForce.reselect became false).2 = "LOSS" then "LOSS" else "RESELECT" }
  rw [← cancelOnReselect_eq]
  rfl

/-- What `sourcesChanged` leaves, but for reshares. -/
def rechosen (s0 s : State) (became : Option Source) : State :=
  committed (jumpCancelled (s.onTiming fun _ => chosen s.timing became) s0.timing)

theorem sourcesChanged_shared (s0 s : State) (became : Option Source) (cause : String) :
    Shared (rechosen s0 s became) (sourcesChanged s0 s became cause) := by
  obtain ⟨c, e⟩ := sourcesChanged_eq s0 s became cause
  rw [e]
  exact timingCommit_committed _ _ _

theorem sourcesChanged_absent {s : State} (h : s.share.borrow = .absent) (s0 : State) (became : Option Source)
    (cause : String) : (sourcesChanged s0 s became cause).share.borrow = .absent := by
  obtain ⟨c, e⟩ := sourcesChanged_eq s0 s became cause
  have hb : (jumpCancelled (s.onTiming fun _ => chosen s.timing became) s0.timing).share.borrow = .absent := h
  rw [e]
  exact timingCommit_absent hb _ _

theorem reselect_sources (t : Timing) (became : Option Source) (boundary : Bool) :
    (t.reselect became boundary).1.sources = t.sources := by
  rcases reselect_cases t became boundary with ⟨j, hj, hq, e⟩ | ⟨hn, e⟩ | e | ⟨j, hj, e⟩ <;> rw [e]
  · exact (select_keeps _ _).1
  · exact (select_keeps _ _).1

theorem chosen_sources (t : Timing) (became : Option Source) : (chosen t became).sources = t.applyForce.sources :=
  reselect_sources _ _ _

theorem chosen_mark (t : Timing) (became : Option Source) (i : Source) :
    ((chosen t became).sources.get i).mark = (t.sources.get i).mark := by
  rw [chosen_sources, applyForce_get]
  split <;> rfl

end Sys2Proof.Machine
end

section
/-! SUPPORT. The start of a test: its claims, the checks that refuse it, and its first measurement step (R135 to R138,
R158, R164 to R171). -/

namespace Sys2Proof.Machine

/-! ## Claims -/

/-- What the start checks of a test keep. -/
structure ChecksKeep (s u : State) : Prop where
  tests : u.tests = s.tests
  same : SameTests s u
  active : u.clock.active = s.clock.active
  slot : s.bus.internalSlot = none → u.bus.internalSlot = none
  absent : s.share.borrow = .absent → u.share.borrow = .absent

theorem ChecksKeep.refl (s : State) : ChecksKeep s s :=
  ⟨rfl, ⟨rfl, rfl, rfl, rfl, rfl, rfl, rfl, rfl, rfl, rfl, rfl, rfl, rfl⟩, rfl, id, id⟩

theorem SameTests.trans {s t u : State} (h : SameTests s t) (k : SameTests t u) : SameTests s u :=
  ⟨k.queue.trans h.queue, k.log.trans h.log, k.acceptance.trans h.acceptance, k.run.trans h.run,
    k.passed.trans h.passed, k.failed.trans h.failed, k.time.trans h.time, k.cfg.trans h.cfg, k.level.trans h.level,
    k.site.trans h.site, k.store.trans h.store, k.part.trans h.part, k.pending.trans h.pending⟩

theorem ChecksKeep.trans {s t u : State} (h : ChecksKeep s t) (k : ChecksKeep t u) : ChecksKeep s u :=
  ⟨k.tests.trans h.tests, h.same.trans k.same, k.active.trans h.active, fun x => k.slot (h.slot x),
    fun x => k.absent (h.absent x)⟩

theorem ChecksKeep.of_noticed {s u : State} (h : Noticed s u) : ChecksKeep s u :=
  ⟨h.tests, .of_shared h.shared, by rw [h.clock], fun x => by rw [h.bus, x], fun x => by rw [PortsOnly.share h.1.1, x]⟩

/-- A claim granted in `u`, from `s`, with what other claims it leaves. -/
structure Marked (s u : State) (i : Source) (n : Nat) : Prop where
  keeps : ChecksKeep s u
  link : u.link = s.link
  divert : u.clock.divert = s.clock.divert
  mark : (u.timing.sources.get i).mark = some n

theorem timingMark_refused {s : State} {i : Source} (h : s.timing.selected = some i) (n : Nat) :
    timingMark s i n = (s, false) := by
  unfold timingMark
  rw [if_pos h]

theorem timingMark_granted {s : State} {i : Source} (h : s.timing.selected ≠ some i) (n : Nat) :
    ∃ u, Marked s u i n ∧ timingMark s i n = (u, true) := by
  unfold timingMark
  rw [if_neg h]
  refine ⟨_, ?_, rfl⟩
  have hs := sourcesChanged_shared s (s.onTiming fun t => t.onSource i fun r => { r with mark := some n }) none "TEST"
  have ha (hb : s.share.borrow = .absent) := sourcesChanged_absent
    (s := s.onTiming fun t => t.onSource i fun r => { r with mark := some n }) hb s none "TEST"
  generalize sourcesChanged s (s.onTiming fun t => t.onSource i fun r => { r with mark := some n }) none "TEST" = u
    at hs ha ⊢
  have k := SameTests.of_shared hs
  refine ⟨⟨hs.1.tests, ⟨k.queue, k.log, k.acceptance, k.run, k.passed, k.failed, k.time, k.cfg, k.level, k.site, k.store,
    k.part, k.pending⟩, ?_, fun hb => ?_, ha⟩, hs.1.link, ?_, ?_⟩
  · rw [hs.1.clock]
    rfl
  · rw [hs.1.bus]
    exact hb
  · rw [hs.1.clock]
    rfl
  · rw [hs.1.timing]
    show ((chosen _ none).sources.get i).mark = _
    rw [chosen_mark]
    show ((Timing.onSource _ i _).sources.get i).mark = _
    rw [Timing.onSource_get, if_pos rfl]

/-- The link claim granted. -/
structure Claimed (s u : State) (n : Nat) : Prop where
  keeps : ChecksKeep s u
  timing : u.timing = s.timing
  divert : u.clock.divert = s.clock.divert
  state : u.link.state = .test
  claim : u.link.claim = some n
  base : u.link.base = 0

theorem withdrawInternal_idle {s : State} (h : s.bus.internalSlot = none) (who : Requester) :
    withdrawInternal s who = s := by
  unfold withdrawInternal
  rw [h]

theorem withdrawInternal_share (s : State) (who : Requester) : (withdrawInternal s who).share = s.share := by
  unfold withdrawInternal
  split
  · rfl
  · split
    · rw [internalEmptied_eq]
      rfl
    · rfl

theorem endInitEarly_keeps_slot (s : State) (h : s.bus.internalSlot = none) :
    (endInitEarly s).bus.internalSlot = none := by
  unfold endInitEarly
  split
  · exact h
  · dsimp only
    rw [withdrawInternal_idle (by exact h)]
    exact h

theorem endInitEarly_share (s : State) : (endInitEarly s).share = s.share := by
  unfold endInitEarly
  split
  · rfl
  · dsimp only
    rw [withdrawInternal_share]
    rfl

theorem linkClaim_off {s : State} (h : s.link.state = .off) (n : Nat) : linkClaim s n = (s, some .link) := by
  unfold linkClaim
  rw [if_pos h]

theorem linkClaim_mast {s : State} (h : s.link.state ≠ .off) (hm : mastAsserted s = true) (n : Nat) :
    linkClaim s n = (s, some .mast) := by
  unfold linkClaim
  rw [if_neg h, if_pos hm]

theorem linkClaim_granted {s : State} (h : s.link.state ≠ .off) (hm : mastAsserted s = false) (n : Nat) :
    ∃ u, Claimed s u n ∧ linkClaim s n = (u, none) := by
  unfold linkClaim
  rw [if_neg h, hm, if_neg Bool.false_ne_true]
  refine ⟨_, ?_, rfl⟩
  obtain ⟨d, i, a, b, he⟩ := endInitEarly_shared (s.onLink fun k => { k.stopTimers with state := .test, claim := some n })
  have hb := endInitEarly_keeps_slot (s.onLink fun k => { k.stopTimers with state := .test, claim := some n })
  have hsh := endInitEarly_share (s.onLink fun k => { k.stopTimers with state := .test, claim := some n })
  generalize endInitEarly (s.onLink fun k => { k.stopTimers with state := .test, claim := some n }) = v at he hb hsh ⊢
  have hs := he.commit_down rfl s.link "CLAIM"
  have ha (h : s.share.borrow = .absent) : (linkCommit v s.link "CLAIM").share.borrow = .absent :=
    linkCommit_absent (s := v) (by rw [hsh]; exact h) _ _
  have hbus : (linkCommit v s.link "CLAIM").bus = v.bus := (linkCommit_shared v s.link "CLAIM").1.bus
  generalize linkCommit v s.link "CLAIM" = u at hs ha hbus ⊢
  have k := SameTests.of_shared hs
  refine ⟨⟨hs.1.tests, ⟨k.queue, k.log, k.acceptance, k.run, k.passed, k.failed, k.time, k.cfg, k.level, k.site, k.store,
    k.part, k.pending⟩, ?_, fun h => ?_, ha⟩, hs.1.timing, ?_, ?_, ?_, ?_⟩
  · rw [hs.1.clock]
    rfl
  · rw [hbus]
    exact hb h
  · rw [hs.1.clock]
    rfl
  all_goals
    rw [hs.1.link]
    rfl

/-! ## The start checks -/

/-- R137: the test takes the link claim, the mark of GNSS, or that of AUX. -/
abbrev NeedsLink (r : TestRec) : Prop := r.kind = .loopNear ∨ FeederLine.f0 ∈ r.params.lines
abbrev NeedsGnss (r : TestRec) : Prop := FeederLine.f1 ∈ r.params.lines
abbrev NeedsAux (r : TestRec) : Prop := r.kind = .pulse ∨ FeederLine.f2 ∈ r.params.lines

theorem needsLink_iff (r : TestRec) : needsLink r = true ↔ NeedsLink r := by
  unfold needsLink NeedsLink
  rw [Bool.or_eq_true, beq_iff_eq, decide_eq_true_iff]

/-- The first two checks pass. -/
def Allowed (s : State) (r : TestRec) : Prop :=
  (NeedsLink r → s.site.phase = .staging) ∧ (r.kind = .loopFar → s.link.state = .up)

section
variable {s : State} {r : TestRec}

theorem startChecks_phase (h : NeedsLink r) (hp : s.site.phase ≠ .staging) : startChecks s r = (s, some .phase) := by
  unfold startChecks
  rw [if_pos ⟨(needsLink_iff r).2 h, hp⟩]

theorem startChecks_far (h : NeedsLink r → s.site.phase = .staging) (hk : r.kind = .loopFar)
    (hl : s.link.state ≠ .up) : startChecks s r = (s, some .link) := by
  unfold startChecks
  rw [if_neg fun k => k.2 (h ((needsLink_iff r).1 k.1)), if_pos ⟨hk, hl⟩]

/-- The claim of the link, after the marks. -/
def claimChecks (s : State) (r : TestRec) : State × Option TestReason :=
  let l := if needsLink r then linkClaim s r.number else (s, none)
  match l.2 with
  | some why => (l.1, some why)
  | none => (if r.kind = .pulse then setDiversion l.1 (some r.number) else l.1, none)

/-- The mark of AUX and what follows. -/
def auxChecks (s : State) (r : TestRec) : State × Option TestReason :=
  let a := if r.kind = .pulse ∨ FeederLine.f2 ∈ r.params.lines then timingMark s .aux r.number else (s, true)
  if !a.2 then (a.1, some .source) else claimChecks a.1 r

variable (ha : Allowed s r)
include ha

theorem startChecks_allowed : startChecks s r =
    (let g := if FeederLine.f1 ∈ r.params.lines then timingMark s .gnss r.number else (s, true)
     if !g.2 then (g.1, some .source) else auxChecks g.1 r) := by
  unfold startChecks
  rw [if_neg fun k => k.2 (ha.1 ((needsLink_iff r).1 k.1)), if_neg fun k => k.2 (ha.2 k.1)]
  rfl

theorem startChecks_gnss (hg : NeedsGnss r) (hs : s.timing.selected = some .gnss) :
    startChecks s r = (s, some .source) := by
  rw [startChecks_allowed ha, if_pos hg, timingMark_refused hs]
  rfl

theorem startChecks_aux (hg : ¬NeedsGnss r) (hx : NeedsAux r) (hs : s.timing.selected = some .aux) :
    startChecks s r = (s, some .source) := by
  rw [startChecks_allowed ha, if_neg hg]
  dsimp only
  unfold auxChecks
  rw [if_neg (by decide), if_pos hx, timingMark_refused hs]
  rfl

/-- The marks that the start checks have granted. -/
structure AllMarked (s u : State) (r : TestRec) : Prop where
  keeps : ChecksKeep s u
  link : u.link = s.link
  divert : u.clock.divert = s.clock.divert
  gnss : NeedsGnss r → (u.timing.sources.get .gnss).mark = some r.number
  aux : NeedsAux r → (u.timing.sources.get .aux).mark = some r.number

theorem startChecks_marks (hg : NeedsGnss r → s.timing.selected ≠ some .gnss)
    (hx : NeedsAux r → s.timing.selected ≠ some .aux ∧ ¬NeedsGnss r) :
    ∃ u, AllMarked s u r ∧ startChecks s r = claimChecks u r := by
  rw [startChecks_allowed ha]
  by_cases h : NeedsGnss r
  · have hn : ¬NeedsAux r := fun k => (hx k).2 h
    obtain ⟨u, hu, e⟩ := timingMark_granted (hg h) r.number
    refine ⟨u, ⟨hu.keeps, hu.link, hu.divert, fun _ => hu.mark, fun k => absurd k hn⟩, ?_⟩
    rw [if_pos h, e]
    dsimp only
    unfold auxChecks
    rw [if_neg (by decide), if_neg hn]
    rfl
  · rw [if_neg h]
    dsimp only
    unfold auxChecks
    rw [if_neg (by decide)]
    by_cases k : NeedsAux r
    · obtain ⟨u, hu, e⟩ := timingMark_granted (hx k).1 r.number
      refine ⟨u, ⟨hu.keeps, hu.link, hu.divert, fun c => absurd c h, fun _ => hu.mark⟩, ?_⟩
      rw [if_pos k, e]
      rfl
    · refine ⟨s, ⟨.refl s, rfl, rfl, fun c => absurd c h, fun c => absurd c k⟩, ?_⟩
      rw [if_neg k]
      rfl

end

/-! ## The link claim and the diversion -/

/-- All that the start checks of a test have granted. -/
structure Granted (s u : State) (r : TestRec) : Prop where
  keeps : ChecksKeep s u
  near : NeedsLink r → u.link.state = .test ∧ u.link.claim = some r.number ∧ u.link.base = 0
  gnss : NeedsGnss r → (u.timing.sources.get .gnss).mark = some r.number
  aux : NeedsAux r → (u.timing.sources.get .aux).mark = some r.number
  pulse : r.kind = .pulse → u.clock.divert = some r.number

section
variable {s : State} {r : TestRec}

theorem claimChecks_off (h : NeedsLink r) (ho : s.link.state = .off) : claimChecks s r = (s, some .link) := by
  unfold claimChecks
  rw [if_pos ((needsLink_iff r).2 h), linkClaim_off ho]

theorem claimChecks_mast (h : NeedsLink r) (ho : s.link.state ≠ .off) (hm : mastAsserted s = true) :
    claimChecks s r = (s, some .mast) := by
  unfold claimChecks
  rw [if_pos ((needsLink_iff r).2 h), linkClaim_mast ho hm]

theorem setDiversion_keeps_checks (s : State) (d : Option Nat) : ChecksKeep s (setDiversion s d) :=
  ⟨rfl, ⟨rfl, rfl, rfl, rfl, rfl, rfl, rfl, rfl, rfl, rfl, rfl, rfl, rfl⟩, rfl, id, id⟩

theorem claimChecks_granted {v : State} (hm : AllMarked v s r)
    (h : NeedsLink r → s.link.state ≠ .off ∧ mastAsserted s = false) :
    ∃ u, Granted v u r ∧ claimChecks s r = (u, none) := by
  have hd {w : State} (hk : ChecksKeep v w)
      (hn : NeedsLink r → w.link.state = .test ∧ w.link.claim = some r.number ∧ w.link.base = 0)
      (ht : w.timing = s.timing) :
      Granted v (if r.kind = .pulse then setDiversion w (some r.number) else w) r := by
    have hg (k : NeedsGnss r) : (w.timing.sources.get .gnss).mark = some r.number := by rw [ht]; exact hm.gnss k
    have hx (k : NeedsAux r) : (w.timing.sources.get .aux).mark = some r.number := by rw [ht]; exact hm.aux k
    split
    · exact ⟨hk.trans (setDiversion_keeps_checks _ _), hn, hg, hx, fun _ => rfl⟩
    · next hp => exact ⟨hk, hn, hg, hx, fun k => absurd k hp⟩
  unfold claimChecks
  by_cases k : NeedsLink r
  · obtain ⟨w, hw, e⟩ := linkClaim_granted (h k).1 (h k).2 r.number
    rw [if_pos ((needsLink_iff r).2 k), e]
    exact ⟨_, hd (hm.keeps.trans hw.keeps) (fun _ => ⟨hw.state, hw.claim, hw.base⟩) hw.timing, rfl⟩
  · rw [if_neg fun c => k ((needsLink_iff r).1 c)]
    exact ⟨_, hd hm.keeps (fun c => absurd c k) rfl, rfl⟩

end

end Sys2Proof.Machine
end

section
/-! SUPPORT. The head of the queue taken into the empty slot, and the requests of the test sequencer (R135 to R138,
R149). -/

namespace Sys2Proof.Machine

/-! ## The head of the queue -/

/-- The head `r` of the queue, taken into the slot, the rest of the queue being `l`. -/
def takenState (s : State) (r : TestRec) (l : List TestRec) : State :=
  { s with tests := { s.tests with current := some { r with start := some s.clock.sec }, queue := l, stage := .measuring } }

/-- The record of the head as it is taken. -/
def taken (s : State) (r : TestRec) : TestRec := { r with start := some s.clock.sec }

theorem takeTest_full {s : State} (h : s.tests.current.isSome) : takeTest s = s := by
  obtain ⟨r, hr⟩ := Option.isSome_iff_exists.1 h
  unfold takeTest
  rw [hr]

theorem takeTest_empty {s : State} (h : s.tests.queue = []) : takeTest s = s := by
  unfold takeTest
  rw [h]
  cases s.tests.current <;> rfl

section
variable {s : State} {r : TestRec} {l : List TestRec} (hc : s.tests.current = none) (hq : s.tests.queue = r :: l)
include hc hq

theorem takeTest_checks : ∃ w, Noticed (takenState s r l) w ∧ takeTest s =
    (match (startChecks w (taken s r)).2 with
     | some why => finalize (startChecks w (taken s r)).1 .refused (some why)
     | none =>
       if r.kind = .loopFar then deferTest (startChecks w (taken s r)).1 (taken s r)
       else runTest (startChecks w (taken s r)).1 (taken s r)) := by
  refine ⟨_, syncSummary_noticed testOwned (takenState s r l), ?_⟩
  unfold takeTest
  rw [hc, hq]
  rfl

/-- The test taken is refused with the reason of the check that fails. -/
theorem takeTest_refused {why : TestReason}
    (h : ∀ w, Noticed (takenState s r l) w → ∃ u, ChecksKeep w u ∧ startChecks w (taken s r) = (u, some why)) :
    TestFinal (takenState s r l) (takeTest s) (taken s r) .refused (some why) := by
  obtain ⟨w, hw, e⟩ := takeTest_checks hc hq
  obtain ⟨u, hu, k⟩ := h w hw
  have hk := (ChecksKeep.of_noticed hw).trans hu
  have hcu : u.tests.current = some (taken s r) := by
    rw [hk.tests]
    rfl
  rw [e, k]
  exact (finalize_final hcu .refused (some why)).of_same hk.same

/-- The test taken is RUNNING, or DEFERRED for the borrow, with its claims. -/
theorem takeTest_granted
    (h : ∀ w, Noticed (takenState s r l) w → ∃ u, Granted w u (taken s r) ∧ startChecks w (taken s r) = (u, none)) :
    ∃ u, Granted (takenState s r l) u (taken s r) ∧
      takeTest s = if r.kind = .loopFar then deferTest u (taken s r) else runTest u (taken s r) := by
  obtain ⟨w, hw, e⟩ := takeTest_checks hc hq
  obtain ⟨u, hu, k⟩ := h w hw
  refine ⟨u, ⟨(ChecksKeep.of_noticed hw).trans hu.keeps, hu.near, hu.gnss, hu.aux, hu.pulse⟩, ?_⟩
  rw [e, k]

end

/-! ## DEFERRED for the borrow -/

theorem borrowRequest_shared (s : State) (n : Nat) : Shared s (borrowRequest s n) := by
  unfold borrowRequest
  split
  · refine Shared.trans ?_ (reshare_shared _ _ _ _)
    exact ⟨⟨rfl, ⟨[], (List.append_nil _).symm⟩, fun _ => .refl _⟩, id⟩
  · exact .refl _

theorem borrowRequest_asks {s : State} (h : s.share.borrow = .absent) (n : Nat) :
    (borrowRequest s n).share.borrow = .waiting s.cfg.borrow n
      ∨ (borrowRequest s n).share.borrow = .held s.cfg.borrow n := by
  unfold borrowRequest
  rw [h]
  dsimp only
  rw [reshare_borrow, borrowAfter_waiting (n := s.cfg.borrow) (k := n) _ _ rfl]
  split
  · exact .inr rfl
  · exact .inl rfl

/-- A test in the slot DEFERRED. -/
def deferred (s : State) (r : TestRec) : State :=
  { s with tests := { s.tests with current := some { r with state := .deferred }, deferTimer := some 30000 } }

theorem deferTest_eq {s : State} {r : TestRec} (hc : s.tests.current = some r) :
    deferTest s r = borrowRequest (deferred s r) r.number := by
  unfold deferTest
  rw [onCurrent_current hc]
  rfl

/-! ## Measurements begun -/

section
variable {u : State} {r : TestRec}

theorem beginMeasurement_feeder {f : List FeederLine} {c d n : Nat} (hp : r.params = .feeder f c d n) :
    (beginMeasurement u r).tests.feeder.phase = .discharge ∧ (beginMeasurement u r).tests.feeder.timer = some d
      ∧ ∀ i, (beginMeasurement u r).tests.feeder.opened.get i = true ↔ i ∈ f := by
  unfold beginMeasurement
  rw [hp]
  refine ⟨rfl, rfl, fun i => ?_⟩
  cases i <;> exact decide_eq_true_iff

theorem beginMeasurement_pulse {c w o : Nat} (hp : r.params = .pulse c w o) :
    (beginMeasurement u r).tests.pulse = some
      { lead := none, count := 0, sum := 0, largest := 0, watch := some 2000, width := u.clock.active.width
        polarity := u.clock.active.polarity } := by
  unfold beginMeasurement
  rw [hp]
  rfl

/-- What a measurement's first step leaves. -/
structure Begun (u t : State) : Prop where
  current : t.tests.current = u.tests.current
  queue : t.tests.queue = u.tests.queue
  log : t.tests.log = u.tests.log
  link : t.link = u.link
  timing : t.timing = u.timing
  clock : t.clock = u.clock
  counts : t.counts = u.counts

theorem offerTest_begun (s : State) (o : Outstanding) : Begun s (offerTest s o) := by
  cases hc : s.tests.current with
  | none =>
    unfold offerTest
    rw [hc]
    exact ⟨rfl, rfl, rfl, rfl, rfl, rfl, rfl⟩
  | some r =>
    cases hb : s.bus.internalSlot with
    | none =>
      rw [offerTest_free hc o hb]
      exact ⟨rfl, rfl, rfl, rfl, rfl, rfl, rfl⟩
    | some y =>
      rw [offerTest_full hc o (by rw [hb]; rfl)]
      exact ⟨rfl, rfl, rfl, rfl, rfl, rfl, rfl⟩

theorem beginMeasurement_begun (u : State) (r : TestRec) : Begun u (beginMeasurement u r) := by
  unfold beginMeasurement
  cases r.params with
  | feeder => exact ⟨rfl, rfl, rfl, rfl, rfl, rfl, rfl⟩
  | loopNear => exact offerTest_begun _ _
  | loopFar => exact ⟨rfl, rfl, rfl, rfl, rfl, rfl, rfl⟩
  | pulse => exact ⟨rfl, rfl, rfl, rfl, rfl, rfl, rfl⟩
  | probe => exact offerTest_begun _ _

end

end Sys2Proof.Machine
end

section
/-! SUPPORT. The numbers of tests, and TEST ADD and TEST CANCEL (R135, R136, R149). -/

namespace Sys2Proof.Machine

/-! ## The next free number -/

/-- The candidates for a new number, from the last assigned. -/
def candidate (last j : Nat) : Nat := (last + j) % 999 + 1

theorem candidate_next {n : Nat} (h : n ≤ 999) : (if 999 ≤ n then 1 else n + 1) = candidate n 0 := by
  unfold candidate
  split <;> omega

theorem candidate_le (last j : Nat) : candidate last j ≤ 999 := by
  unfold candidate
  omega

theorem candidate_succ (last j : Nat) : candidate (candidate last 0) j = candidate last (j + 1) := by
  unfold candidate
  omega

/-- The first candidate that is not held, if one of the first `fuel` is not. -/
theorem freeNumber_first (held : List Nat) : ∀ (fuel last : Nat), last ≤ 999 →
    (∃ j, j < fuel ∧ freeNumber held fuel last = candidate last j ∧ candidate last j ∉ held
      ∧ ∀ i, i < j → candidate last i ∈ held)
    ∨ ∀ j, j < fuel → candidate last j ∈ held
  | 0, _, _ => .inr fun _ h => absurd h (Nat.not_lt_zero _)
  | fuel + 1, last, hl => by
    unfold freeNumber
    dsimp only
    rw [candidate_next hl]
    by_cases h : candidate last 0 ∈ held
    · rw [if_pos h]
      rcases freeNumber_first held fuel (candidate last 0) (candidate_le _ _) with ⟨j, hj, e, hn, hb⟩ | ha
      · rw [candidate_succ] at e hn
        refine .inl ⟨j + 1, Nat.succ_lt_succ hj, e, hn, fun i hi => ?_⟩
        cases i with
        | zero => exact h
        | succ i =>
          have := hb i (Nat.lt_of_succ_lt_succ hi)
          rwa [candidate_succ] at this
      · refine .inr fun j hj => ?_
        cases j with
        | zero => exact h
        | succ j =>
          have := ha j (Nat.lt_of_succ_lt_succ hj)
          rwa [candidate_succ] at this
    · rw [if_neg h]
      exact .inl ⟨0, Nat.zero_lt_succ _, rfl, h, fun i hi => absurd hi (Nat.not_lt_zero _)⟩

/-- Fewer numbers than 34 cannot hold the first 34 candidates. -/
theorem some_candidate_free {held : List Nat} (h : held.length < 34) (last : Nat) :
    ¬∀ j, j < 34 → candidate last j ∈ held := by
  intro ha
  have hn : ((List.range 34).map (candidate last)).Nodup := by
    refine (List.nodup_map_iff_inj_on List.nodup_range).2 fun i hi j hj e => ?_
    rw [List.mem_range] at hi hj
    unfold candidate at e
    omega
  have hs : (List.range 34).map (candidate last) ⊆ held := by
    intro x hx
    obtain ⟨j, hj, rfl⟩ := List.mem_map.1 hx
    exact ha j (List.mem_range.1 hj)
  have := (hn.subperm hs).length_le
  rw [List.length_map, List.length_range] at this
  omega

/-- Whether a record of the queue, the slot or the log bears the number. -/
def Held (t : Tests) (n : Nat) : Prop := ∃ y, (y ∈ t.queue ∨ t.current = some y ∨ y ∈ t.log) ∧ y.number = n

theorem held_iff (t : Tests) (n : Nat) : n ∈ heldNumbers t ↔ Held t n := by
  unfold heldNumbers Held
  simp only [List.mem_append, List.mem_map, Option.mem_toList]
  constructor
  · rintro ((⟨y, hy, e⟩ | ⟨y, hy, e⟩) | ⟨y, hy, e⟩)
    · exact ⟨y, .inl hy, e⟩
    · exact ⟨y, .inr (.inl hy), e⟩
    · exact ⟨y, .inr (.inr hy), e⟩
  · rintro ⟨y, hy | hy | hy, e⟩
    · exact .inl (.inl ⟨y, hy, e⟩)
    · exact .inl (.inr ⟨y, hy, e⟩)
    · exact .inr ⟨y, hy, e⟩

theorem heldNumbers_length (t : Tests) (hq : t.queue.length < 8) (hl : t.log.length ≤ 24) :
    (heldNumbers t).length < 34 := by
  have hc : t.current.toList.length ≤ 1 := by cases t.current <;> simp
  unfold heldNumbers
  simp only [List.length_append, List.length_map]
  omega

theorem newNumber_free {t : Tests} (hq : t.queue.length < 8) (hl : t.log.length ≤ 24) (hn : t.lastNumber ≤ 999) :
    ¬Held t (newNumber t) ∧ ∃ j, newNumber t = candidate t.lastNumber j ∧ ∀ i, i < j → Held t (candidate t.lastNumber i) := by
  rcases freeNumber_first (heldNumbers t) 34 t.lastNumber hn with ⟨j, -, e, hf, hb⟩ | ha
  · unfold newNumber
    rw [e]
    exact ⟨fun h => hf ((held_iff t _).2 h), j, rfl, fun i hi => (held_iff t _).1 (hb i hi)⟩
  · exact absurd ha (some_candidate_free (heldNumbers_length t hq hl) _)

/-! ## TEST ADD -/

/-- The record that TEST ADD queues. -/
def queuedRec (u : State) (p : Port) (k : TestKind) (x : TestParams) : TestRec :=
  { number := newNumber u.tests, kind := k, owner := p, params := x, state := .queued, pending := none
    reason := none, loopOffFailed := false, results := none, start := none, finish := none }

theorem handleTestAdd_queues {u : State} {k : TestKind} {a : TestArgs} {x : TestParams} (p : Port)
    (hx : testParams k a = some x) (hq : u.tests.queue.length < 8) : handleTestAdd u p (some (.known k)) a =
      ({ u with
          tests := { u.tests with
            queue := u.tests.queue ++ [queuedRec u p k x], lastNumber := (queuedRec u p k x).number }
          signals := u.signals ++ [.takeTest] }, .ok [kv "n" (.nat (queuedRec u p k x).number)] []) := by
  unfold handleTestAdd
  dsimp only [nameOf]
  rw [hx]
  dsimp only
  rw [if_neg (Nat.not_le.2 hq)]
  rfl

/-! ## TEST CANCEL -/

theorem testNumber_ok {n : Nat} (h1 : 1 ≤ n) (hn : n ≤ 999) : testNumber (some (n : Int)) = some n := by
  unfold testNumber
  dsimp only
  rw [if_pos (by omega)]
  rfl

section
variable {u : State} {r : TestRec} {p : Port} (h1 : 1 ≤ r.number) (hn : r.number ≤ 999)
  (hm : mayCancel u p r = true)
include h1 hn hm

theorem handleTestCancel_queued (hq : (u.tests.queue.find? fun x => x.number == r.number) = some r)
    (hc : u.tests.current.map (·.number) ≠ some r.number) :
    handleTestCancel u p (some (r.number : Int)) = cancelQueued u r := by
  have hf : (u.tests.current.filter fun x => x.number == r.number) = none := by
    cases hx : u.tests.current with
    | none => rfl
    | some x =>
      rw [hx] at hc
      exact Option.filter_eq_none_iff.2 fun y hy => by
        obtain rfl := Option.some.inj hy
        simpa using hc
  unfold handleTestCancel
  rw [testNumber_ok h1 hn]
  dsimp only
  rw [hf, hq]
  exact if_pos hm

theorem handleTestCancel_current (hc : u.tests.current = some r) :
    handleTestCancel u p (some (r.number : Int)) = cancelCurrent u r := by
  have hf : (u.tests.current.filter fun x => x.number == r.number) = some r := by
    rw [hc, Option.filter_some, beq_self_eq_true, if_pos rfl]
  unfold handleTestCancel
  rw [testNumber_ok h1 hn]
  dsimp only
  rw [hf]
  exact if_pos hm

end

section
variable {u : State} {r : TestRec}

theorem cancelQueued_cancels (u : State) (r : TestRec) : ∃ t l, cancelQueued u r = (t, .ok l []) ∧ AfterNotices
    { u with
      tests := { u.tests with
        queue := u.tests.queue.filter fun x => x.number != r.number
        log := logged u.tests.log (final u r .cancelled (some .cancel)) }
      counts := { u.counts with logDrops := t.counts.logDrops } } t := by
  refine ⟨_, _, rfl, ?_⟩
  have h := fileRecord_noticed
    (u.onTests fun k => { k with queue := k.queue.filter fun x => x.number != r.number }) r .cancelled (some .cancel)
  rw [filed_noVerdict _ _ (by decide) (by decide)] at h
  have hd : (fileRecord (u.onTests fun k => { k with queue := k.queue.filter fun x => x.number != r.number })
      { r with state := .cancelled, reason := some .cancel }).counts.logDrops = _ :=
    congrArg Counters.logDrops (PortsOnly.counts h.1.1)
  rw [hd]
  exact h.1

variable (hc : u.tests.current = some r)
include hc

theorem cancelCurrent_deferred (hd : r.state = .deferred) : ∃ t l, cancelCurrent u r = (t, .ok l [])
    ∧ TestFinal u t r .cancelled (some .cancel) ∧ t.share.borrow = .absent := by
  obtain ⟨w, hw, e, ha⟩ := endDeferred_shared hc .cancelled .cancel
  obtain ⟨l, hl⟩ : ∃ l, cancelCurrent u r = (endDeferred u .cancelled .cancel, .ok l []) := by
    unfold cancelCurrent
    rw [if_pos hd]
    exact ⟨_, rfl⟩
  refine ⟨_, l, hl, ?_, ?_⟩
  · rw [e]
    exact (TestFinal.of_shared hw).of_same ⟨rfl, rfl, rfl, rfl, rfl, rfl, rfl, rfl, rfl, rfl, rfl, rfl, rfl⟩
  · rw [e]
    exact ha

omit hc in
theorem cancelCurrent_running (hr : r.state = .running) : ∃ l, cancelCurrent u r = (abortTest u .cancel, .ok l []) := by
  unfold cancelCurrent
  rw [if_neg (by rw [hr]; decide)]
  exact ⟨_, rfl⟩

end

end Sys2Proof.Machine
end

section
/-! SUPPORT. The start of the test at the head of the queue, as its obligation puts it. -/

namespace Sys2Proof.Machine

/-- What the first step of a granted test leaves of its claims, the queue and the log. -/
structure StartKeeps (u t : State) : Prop where
  queue : t.tests.queue = u.tests.queue
  log : t.tests.log = u.tests.log
  link : t.link = u.link
  timing : t.timing = u.timing
  divert : t.clock.divert = u.clock.divert

theorem deferTest_keeps_claims {u : State} {r : TestRec} (hc : u.tests.current = some r) : StartKeeps u (deferTest u r) := by
  rw [deferTest_eq hc]
  have h := borrowRequest_shared (deferred u r) r.number
  refine ⟨by rw [h.1.tests]; rfl, by rw [h.1.tests]; rfl, h.1.link, h.1.timing, ?_⟩
  rw [h.1.clock]
  rfl

theorem runTest_keeps_claims {u : State} {r : TestRec} (hc : u.tests.current = some r) : StartKeeps u (runTest u r) := by
  obtain ⟨v, hv, e⟩ := runTest_eq hc
  have h := beginMeasurement_begun v r
  rw [e]
  exact ⟨by rw [h.queue, hv.tests]; rfl, by rw [h.log, hv.tests]; rfl, by rw [h.link, hv.link]; rfl,
    by rw [h.timing, hv.timing]; rfl, by rw [h.clock, hv.clock]; rfl⟩

/-- The transaction that a measurement begins with. -/
theorem offerTest_first {u : State} {r : TestRec} (hc : u.tests.current = some r) (hb : u.bus.internalSlot = none)
    (p : Purpose) : (offerTest u (firstAttempt p)).bus.internalSlot = some (testTransaction u.cfg r.params (firstAttempt p))
      ∧ (offerTest u (firstAttempt p)).tests.outstanding =
        some { purpose := p, attempt := 1, place := .offered, settling := false } := by
  rw [offerTest_free hc _ hb]
  exact ⟨rfl, rfl⟩

section
variable {s : State} {r : TestRec} {l : List TestRec} (hc : s.tests.current = none) (hq : s.tests.queue = r :: l)
include hc hq

/-- The refusal of the first check that fails. -/
theorem takeTest_phase (h : NeedsLink r) (hp : s.site.phase ≠ .staging) :
    TestFinal (takenState s r l) (takeTest s) (taken s r) .refused (some .phase) :=
  takeTest_refused hc hq fun w hw =>
    ⟨w, .refl w, startChecks_phase (r := taken s r) h (by rw [hw.site]; exact hp)⟩

theorem takeTest_far (h : NeedsLink r → s.site.phase = .staging) (hk : r.kind = .loopFar) (hl : s.link.state ≠ .up) :
    TestFinal (takenState s r l) (takeTest s) (taken s r) .refused (some .link) :=
  takeTest_refused hc hq fun w hw =>
    ⟨w, .refl w, startChecks_far (r := taken s r) (fun k => by rw [hw.site]; exact h k) hk (by rw [hw.link]; exact hl)⟩

variable (ha : Allowed s r)
include ha

omit hc hq in
theorem allowed_taken {w : State} (hw : Noticed (takenState s r l) w) : Allowed w (taken s r) :=
  ⟨fun k => by rw [hw.site]; exact ha.1 k, fun k => by rw [hw.link]; exact ha.2 k⟩

theorem takeTest_gnss (hg : NeedsGnss r) (hs : s.timing.selected = some .gnss) :
    TestFinal (takenState s r l) (takeTest s) (taken s r) .refused (some .source) :=
  takeTest_refused hc hq fun w hw =>
    ⟨w, .refl w, startChecks_gnss (allowed_taken ha hw) hg (by rw [hw.timing]; exact hs)⟩

theorem takeTest_aux (hg : ¬NeedsGnss r) (hx : NeedsAux r) (hs : s.timing.selected = some .aux) :
    TestFinal (takenState s r l) (takeTest s) (taken s r) .refused (some .source) :=
  takeTest_refused hc hq fun w hw =>
    ⟨w, .refl w, startChecks_aux (allowed_taken ha hw) hg hx (by rw [hw.timing]; exact hs)⟩

variable (hg : NeedsGnss r → s.timing.selected ≠ some .gnss)
  (hx : NeedsAux r → s.timing.selected ≠ some .aux ∧ ¬NeedsGnss r)
include hg hx

omit hc hq in
theorem taken_marks {w : State} (hw : Noticed (takenState s r l) w) :
    ∃ u, AllMarked w u (taken s r) ∧ startChecks w (taken s r) = claimChecks u (taken s r) :=
  startChecks_marks (allowed_taken ha hw) (fun k => by rw [hw.timing]; exact hg k)
    fun k => by rw [hw.timing]; exact hx k

theorem takeTest_off (h : NeedsLink r) (ho : s.link.state = .off) :
    TestFinal (takenState s r l) (takeTest s) (taken s r) .refused (some .link) :=
  takeTest_refused hc hq fun w hw => by
    obtain ⟨u, hu, e⟩ := taken_marks ha hg hx hw
    refine ⟨u, hu.keeps, e.trans (claimChecks_off h ?_)⟩
    rw [hu.link, hw.link]
    exact ho

theorem takeTest_mast (h : NeedsLink r) (ho : s.link.state ≠ .off) (hm : s.site.inputs.mastMoving.filtered = true) :
    TestFinal (takenState s r l) (takeTest s) (taken s r) .refused (some .mast) :=
  takeTest_refused hc hq fun w hw => by
    obtain ⟨u, hu, e⟩ := taken_marks ha hg hx hw
    refine ⟨u, hu.keeps, e.trans (claimChecks_mast h ?_ ?_)⟩
    · rw [hu.link, hw.link]
      exact ho
    · unfold mastAsserted
      rw [hu.keeps.same.site, hw.site]
      exact hm

theorem takeTest_starts (h : NeedsLink r → s.link.state ≠ .off ∧ s.site.inputs.mastMoving.filtered = false) :
    ∃ u, Granted (takenState s r l) u (taken s r) ∧
      takeTest s = if r.kind = .loopFar then deferTest u (taken s r) else runTest u (taken s r) :=
  takeTest_granted hc hq fun w hw => by
    obtain ⟨u, hu, e⟩ := taken_marks ha hg hx hw
    obtain ⟨v, hv, e'⟩ := claimChecks_granted hu fun k => by
      unfold mastAsserted
      rw [hu.link, hw.link, hu.keeps.same.site, hw.site]
      exact h k
    exact ⟨v, hv, e.trans e'⟩

end

/-! ## The two ways to start -/

/-- A LOOP_FAR test is DEFERRED in `t`. -/
theorem deferTest_starts {v u : State} {r : TestRec} (hu : ChecksKeep v u) (hc : v.tests.current = some r) :
    (deferTest u r).tests.current = some { r with state := .deferred } ∧ (deferTest u r).tests.deferTimer = some 30000
      ∧ (v.share.borrow = .absent →
        (deferTest u r).share.borrow = .waiting v.cfg.borrow r.number
          ∨ (deferTest u r).share.borrow = .held v.cfg.borrow r.number) := by
  have hcu : u.tests.current = some r := by rw [hu.tests, hc]
  have h := borrowRequest_shared (deferred u r) r.number
  rw [deferTest_eq hcu]
  refine ⟨by rw [h.1.tests]; rfl, by rw [h.1.tests]; rfl, fun hb => ?_⟩
  rw [← hu.same.cfg]
  exact borrowRequest_asks (s := deferred u r) (hu.absent hb) r.number

/-- A test RUNNING in `t`, from `v`, its measurement begun. -/
structure TestStarted (v t : State) (r : TestRec) : Prop where
  current : t.tests.current = some { r with state := .running }
  counted : t.counts.testsRun = bump v.counts.testsRun
  feeder : ∀ f c d n, r.params = .feeder f c d n → t.tests.feeder.phase = .discharge
    ∧ t.tests.feeder.timer = some d ∧ ∀ i, t.tests.feeder.opened.get i = true ↔ i ∈ f
  pulse : ∀ c w o, r.params = .pulse c w o → t.tests.pulse = some
    { lead := none, count := 0, sum := 0, largest := 0, watch := some 2000, width := v.clock.active.width
      polarity := v.clock.active.polarity }
  probe : ∀ a g n e m, r.params = .probe a g n e m → v.bus.internalSlot = none →
    t.bus.internalSlot = some (testTxn .probe 1 a g n)
      ∧ t.tests.outstanding = some { purpose := .probe, attempt := 1, place := .offered, settling := false }
  loopNear : ∀ x y z, r.params = .loopNear x y z → v.bus.internalSlot = none →
    t.bus.internalSlot = some (testTxn .loopOn 1 v.cfg.templates.loopOn.addr v.cfg.templates.loopOn.bytes 0)
      ∧ t.tests.outstanding = some { purpose := .loopOn, attempt := 1, place := .offered, settling := false }

theorem runTest_starts {v u : State} {r : TestRec} (hu : ChecksKeep v u) (hc : v.tests.current = some r) :
    TestStarted v (runTest u r) r := by
  have hcu : u.tests.current = some r := by rw [hu.tests, hc]
  obtain ⟨w, hw, e⟩ := runTest_eq hcu
  have hb := beginMeasurement_begun w r
  have hcw : w.tests.current = some { r with state := .running } := by
    rw [hw.tests]
    rfl
  have hslot (h : v.bus.internalSlot = none) : w.bus.internalSlot = none := by
    rw [hw.bus]
    exact hu.slot h
  have hcfg : w.cfg = v.cfg := hw.cfg.trans hu.same.cfg
  rw [e]
  refine ⟨hb.current.trans hcw, ?_, fun f c d n hp => beginMeasurement_feeder hp, fun c x o hp => ?_,
    fun a g n e' m hp hs => ?_, fun x y z hp hs => ?_⟩
  · rw [hb.counts, show w.counts = _ from PortsOnly.counts hw.1.1]
    show bump u.counts.testsRun = _
    rw [hu.same.run]
  · rw [beginMeasurement_pulse hp, hw.clock]
    show some _ = some _
    rw [← hu.active]
    rfl
  · have hm : beginMeasurement w r = offerTest w (firstAttempt .probe) := by
      unfold beginMeasurement
      rw [hp]
    have h := offerTest_first hcw (hslot hs) .probe
    rw [show ({ r with state := .running } : TestRec).params = .probe a g n e' m from hp,
      testTransaction_probe _ _ _ _ _ _ rfl] at h
    rw [hm]
    exact h
  · have hm : beginMeasurement w r = offerTest w (firstAttempt .loopOn) := by
      unfold beginMeasurement
      rw [hp]
    have h := offerTest_first hcw (hslot hs) .loopOn
    rw [testTransaction_loopOn _ _ rfl, hcfg] at h
    rw [hm]
    exact h

end Sys2Proof.Machine
end
section
open Sys2Proof Sys2Proof.Machine

/-- Settles O43. -/
theorem testRequestsAct : Obligations.TestRequestsAct := by
  refine ⟨fun s rq hx => ?_, fun s => ?_⟩
  · intro u
    have hu : portLine s rq.port = u := rfl
    clear_value u
    refine ⟨fun k a x hp hq => ?_, fun hq hl hn => ?_, fun r h1 hn hq hc hm => ?_, fun r h1 hn hc hm => ?_⟩
    · intro r
      exact answersAt hu hx (handleTestAdd_queues rq.port hp hq)
    · exact newNumber_free hq hl hn
    · obtain ⟨t, l, e, ht⟩ := cancelQueued_cancels u r
      exact ⟨t, l, answersAt hu hx ((handleTestCancel_queued h1 hn hm hq hc).trans e), ht⟩
    · have he := handleTestCancel_current h1 hn hm hc
      refine ⟨fun hd => ?_, fun hr hp => ?_, fun hr hp => ?_⟩
      · obtain ⟨t, l, e, ht⟩ := cancelCurrent_deferred hc hd
        exact ⟨t, l, answersAt hu hx (he.trans e), ht⟩
      · obtain ⟨l, e⟩ := cancelCurrent_running hr
        rw [abortTest_running hc hr hp] at e
        exact ⟨_, l, answersAt hu hx (he.trans e), rfl, rfl, rfl, rfl, rfl⟩
      · obtain ⟨l, e⟩ := cancelCurrent_running hr
        rw [abortTest_other hc (.inl hp)] at e
        exact ⟨l, answersAt hu hx (he.trans e)⟩
  · intro t
    refine ⟨takeTest_full, takeTest_empty, fun r l hc hq => ?_⟩
    intro taken v refused near gnss aux allowed marked slot
    refine ⟨takeTest_phase hc hq, takeTest_far hc hq, takeTest_gnss hc hq, takeTest_aux hc hq,
      fun ha hm => takeTest_off hc hq ha hm.1 hm.2, fun ha hm => takeTest_mast hc hq ha hm.1 hm.2, fun ha hm hn => ?_⟩
    obtain ⟨w, hw, e⟩ := takeTest_starts hc hq ha hm.1 hm.2 hn
    have hcv : (takenState s r l).tests.current = some (Machine.taken s r) := rfl
    have hcw : w.tests.current = some (Machine.taken s r) := by rw [hw.keeps.tests]; rfl
    have ht : t = takeTest s := rfl
    clear_value t
    rw [← ht] at e
    have hk : StartKeeps w t := by
      rw [e]
      split
      · exact deferTest_keeps_claims hcw
      · exact runTest_keeps_claims hcw
    refine ⟨by rw [hk.queue, hw.keeps.tests]; rfl, by rw [hk.log, hw.keeps.tests]; rfl,
      fun h => by rw [hk.link]; exact hw.near h, fun h => by rw [hk.timing]; exact hw.gnss h,
      fun h => by rw [hk.timing]; exact hw.aux h, fun h => by rw [hk.divert]; exact hw.pulse h, fun h => ?_, fun h => ?_⟩
    · rw [if_pos h] at e
      rw [e]
      exact deferTest_starts (v := takenState s r l) hw.keeps hcv
    · rw [if_neg h] at e
      have hs : TestStarted (takenState s r l) t (Machine.taken s r) := by
        rw [e]
        exact runTest_starts hw.keeps hcv
      exact ⟨hs.current, hs.counted, hs.feeder, hs.pulse, fun a g n e m hp _ => hs.probe a g n e m hp,
        fun x y z hp _ => hs.loopNear x y z hp⟩

end

section
/-! SUPPORT. The choice of the selected source, by its cases (R89, R93), and what an event of one source leaves
(R82, R83, R87, R102). -/

namespace Sys2Proof.Machine

/-! ## A change of selection -/

theorem select_same {t : Timing} {new : Option Source} (h : new = t.selected) : t.select new = t := by
  unfold Timing.select
  rw [if_pos h]

theorem select_new {t : Timing} {i : Source} (h : t.selected ≠ some i) :
    t.select (some i) = { t.toLocking with selected := some i } := by
  unfold Timing.select
  rw [if_neg (Ne.symm h)]

theorem select_none {t : Timing} {i : Source} (h : t.selected = some i) :
    t.select none = { t.lose with selected := none } := by
  unfold Timing.select
  rw [if_neg (by rw [h]; exact nofun)]

/-- The timing state that the loss of the selection leaves (R93). -/
theorem lose_state {t : Timing} (h : t.state = .locked ∨ t.state = .locking) : t.lose.state =
    if (t.state = .locked ∨ t.everLocked = true) ∧ (t.bound.any fun b => decide (b ≤ t.latch.holdover)) = true
    then .holdover else .freerun := by
  have hw : within t.latch.holdover t.bound = t.bound.any fun b => decide (b ≤ t.latch.holdover) := by
    cases t.bound <;> rfl
  unfold Timing.lose
  rcases h with h | h
  all_goals
    rw [h]
    dsimp only
    rw [← hw]
    split <;> rfl

/-! ## The choice at an event, by its cases -/

section
variable {t : Timing} {became : Option Source}

theorem reselect_stays_none (h : t.selected = none) : (t.reselect none false).1 = t := by
  unfold Timing.reselect
  rw [h]
  rfl

theorem reselect_first {i : Source} (h : t.selected = none) :
    (t.reselect (some i) false).1 = { t.toLocking with selected := some i } := by
  unfold Timing.reselect
  rw [h]
  exact select_new (by rw [h]; exact nofun)

theorem reselect_lost {j : Source} (h : t.selected = some j) (hs : t.selectable j = false) (boundary : Bool) :
    (t.reselect became boundary).1 = t.select t.preferred := by
  unfold Timing.reselect
  rw [h]
  dsimp only
  rw [hs]
  rfl

theorem reselect_stays {j : Source} (h : t.selected = some j) (hs : t.selectable j = true)
    (hb : ∀ i, became = some i → (t.latch.revertive && t.preferredTo i j) = false) :
    (t.reselect became false).1 = t := by
  unfold Timing.reselect
  rw [h]
  dsimp only
  rw [hs, Bool.and_false]
  cases became with
  | none => rfl
  | some i =>
    dsimp only
    rw [hb i rfl]
    rfl

theorem reselect_reverts {i j : Source} (h : t.selected = some j) (hs : t.selectable j = true)
    (hb : (t.latch.revertive && t.preferredTo i j) = true) :
    (t.reselect (some i) false).1 = t.select (some i) := by
  unfold Timing.reselect
  rw [h]
  dsimp only
  rw [hs, Bool.and_false, hb]
  rfl

end

/-! ## What the records say -/

/-- `t` has the sources, the latched settings, the selection and the timing state of `ρ`. -/
structure HasChoice (t : State) (ρ : Timing) : Prop where
  sources : t.timing.sources = ρ.sources
  latch : t.timing.latch = ρ.latch
  selected : t.timing.selected = ρ.selected
  state : t.timing.state = ρ.state
  lockRun : t.timing.lockRun = ρ.lockRun
  entryBound : t.timing.entryBound = ρ.entryBound
  holdSecs : t.timing.holdSecs = ρ.holdSecs

section
variable {t : State} {ρ τ : Timing} (h : HasChoice t ρ) (hs : ρ.sources = τ.sources) (hl : ρ.latch = τ.latch)
include h hs

theorem HasChoice.selectable_iff (i : Source) : Selectable t i ↔ τ.selectable i = true := by
  rw [← Machine.selectable_iff]
  unfold Timing.selectable
  rw [h.sources, hs]

include hl

omit hs in
theorem HasChoice.preferredTo_iff (i j : Source) : Before t i j ↔ τ.preferredTo i j = true := by
  rw [← Machine.preferredTo_iff]
  unfold Timing.preferredTo
  rw [h.latch, hl]

theorem HasChoice.preferred : t.timing.preferred = τ.preferred := by
  unfold Timing.preferred Timing.selectable
  rw [h.sources, h.latch, hs, hl]

end

theorem HasChoice.newly {t : State} {τ : Timing} {i : Source} (h : HasChoice t { τ.toLocking with selected := some i }) :
    NewlySelected t i := ⟨h.selected, h.state, h.lockRun, h.entryBound, h.holdSecs⟩

/-! ## Bound, grade and jump request -/

theorem within_any (n : Nat) (b : Option Nat) : within n b = b.any fun b => decide (b ≤ n) := by
  cases b <;> rfl

/-- The bound and the grade are those that the other items give. -/
theorem regrade_graded {t : State} {τ : Timing} {cfg : Settings} (h : t.timing = τ.regrade cfg) (hc : t.cfg = cfg) :
    BoundAndGrade t := by
  have hb : (τ.regrade cfg).bound = boundOf cfg τ := rfl
  unfold BoundAndGrade
  rw [h, hc, hb]
  refine ⟨fun hs => ?_, fun hs i hi => ?_, fun hs e n he hn => ?_, ?_⟩
  · unfold boundOf
    rw [show τ.state = .freerun from hs]
  · have hi : τ.selected = some i := hi
    unfold boundOf
    rcases hs with hs | hs
    · rw [show τ.state = .locking from hs]
      dsimp only
      rw [hi]
      rfl
    · rw [show τ.state = .locked from hs]
      dsimp only
      rw [hi]
      rfl
  · unfold boundOf
    rw [show τ.state = .holdover from hs, show τ.entryBound = some e from he, show τ.holdSecs = some n from hn]
    rfl
  · rw [← within_any]
    rfl

/-- The jump request of `s` follows the selection that an event leaves. -/
theorem jumpFollows_of {s u t : State} (h : Shared (committed (jumpCancelled u s.timing)) t)
    (hj : u.timing.jumpReq = s.timing.jumpReq) (hc : u.clock.jump = s.clock.jump)
    (hsh : s.timing.jumpReq.isSome → u.timing.selected ≠ s.timing.selected → t.share.jump = false) : JumpFollows s t := by
  have hsel : t.timing.selected = u.timing.selected := by
    rw [h.1.timing]
    rfl
  have hreq : t.timing.jumpReq = if cancels s.timing u.timing then none else u.timing.jumpReq := by
    rw [h.1.timing]
    rfl
  have hclk : t.clock.jump = if cancels s.timing u.timing then none else u.clock.jump := by
    rw [h.1.clock]
    rfl
  refine ⟨fun e => ?_, fun e => ?_⟩
  · have hn : cancels s.timing u.timing = false := by
      unfold cancels
      rw [← hsel, decide_eq_false (not_not_intro e)]
      rfl
    rw [hreq, hclk, hn]
    exact ⟨hj, hc⟩
  · have hn : cancels s.timing u.timing = u.timing.jumpReq.isSome := by
      unfold cancels
      rw [← hsel, decide_eq_true e]
      rfl
    refine ⟨?_, fun k => ⟨?_, hsh k (hsel ▸ e)⟩⟩
    · rw [hreq, hn]
      cases u.timing.jumpReq <;> rfl
    · rw [hclk, hn, hj, k]
      rfl

theorem sourcesChanged_jump {s0 s : State} {became : Option Source} {cause : String}
    (hj : s.timing.jumpReq = s0.timing.jumpReq) (hs : s0.timing.jumpReq.isSome)
    (hc : (chosen s.timing became).selected ≠ s0.timing.selected) :
    (sourcesChanged s0 s became cause).share.jump = false := by
  have hq : (chosen s.timing became).jumpReq = s0.timing.jumpReq := by
    rw [← hj, ← (applyForce_fields s.timing).2.2.2.1]
    unfold chosen
    rcases reselect_cases s.timing.applyForce became false with ⟨_, _, _, e⟩ | ⟨_, e⟩ | e | ⟨_, _, e⟩ <;> rw [e]
    · exact (select_keeps _ _).2.2
    · exact (select_keeps _ _).2.2
  have hn : (jumpCancelled (s.onTiming fun _ => chosen s.timing became) s0.timing).timing.jumpReq = none := by
    show (if cancels s0.timing (chosen s.timing became) then none else (chosen s.timing became).jumpReq) = none
    have hk : cancels s0.timing (chosen s.timing became) = true := by
      unfold cancels
      rw [decide_eq_true hc, hq, hs]
      rfl
    rw [hk]
    rfl
  obtain ⟨c, e⟩ := sourcesChanged_eq s0 s became cause
  rw [e, timingCommit_jump, hn, hs]
  rfl

end Sys2Proof.Machine
end

section
/-! SUPPORT. What a capture or a MISSING event of one source leaves (`SourceTaken`: R82, R83, R87, R89, R93, R102). -/

namespace Sys2Proof.Machine

theorem sourcesChanged_choice (s0 s : State) (became : Option Source) (cause : String) :
    HasChoice (sourcesChanged s0 s became cause) (chosen s.timing became) := by
  have h := (sourcesChanged_shared s0 s became cause).1.timing
  constructor <;> rw [h] <;> rfl

theorem sourcesChanged_graded (s0 s : State) (became : Option Source) (cause : String) :
    BoundAndGrade (sourcesChanged s0 s became cause) :=
  regrade_graded (sourcesChanged_shared s0 s became cause).1.timing (sourcesChanged_shared s0 s became cause).1.cfg

theorem sourcesChanged_jumpFollows {s v : State} (hj : v.timing.jumpReq = s.timing.jumpReq)
    (hc : v.clock.jump = s.clock.jump) (became : Option Source) (cause : String) :
    JumpFollows s (sourcesChanged s v became cause) := by
  refine jumpFollows_of (u := v.onTiming fun _ => chosen v.timing became) (sourcesChanged_shared s v became cause) ?_ hc
    fun hs hn => sourcesChanged_jump hj hs hn
  show (chosen v.timing became).jumpReq = _
  rw [← hj, ← (applyForce_fields v.timing).2.2.2.1]
  unfold chosen
  rcases reselect_cases v.timing.applyForce became false with ⟨_, _, _, e⟩ | ⟨_, e⟩ | e | ⟨_, _, e⟩ <;> rw [e]
  · exact (select_keeps _ _).2.2
  · exact (select_keeps _ _).2.2

theorem chosen_latch (τ : Timing) (became : Option Source) : (chosen τ became).latch = τ.latch := by
  rw [← (applyForce_fields τ).2.2.2.2.1]
  unfold chosen
  rcases reselect_cases τ.applyForce became false with ⟨_, _, _, e⟩ | ⟨_, e⟩ | e | ⟨_, _, e⟩ <;> rw [e]
  · exact (select_keeps _ _).2.1
  · exact (select_keeps _ _).2.1

/-- The forced CHECKs leave the runs and the bound. -/
theorem applyForce_runs (t : Timing) : t.applyForce.lockRun = t.lockRun ∧ t.applyForce.bound = t.bound
    ∧ t.applyForce.everLocked = t.everLocked := by
  have h (t : Timing) (i : Source) : (forceStep t i).lockRun = t.lockRun ∧ (forceStep t i).bound = t.bound
      ∧ (forceStep t i).everLocked = t.everLocked := by
    unfold forceStep
    split <;> exact ⟨rfl, rfl, rfl⟩
  rw [applyForce_eq]
  obtain ⟨a1, a2, a3⟩ := h t .gnss
  obtain ⟨b1, b2, b3⟩ := h (forceStep t .gnss) .link
  obtain ⟨c1, c2, c3⟩ := h (forceStep (forceStep t .gnss) .link) .aux
  exact ⟨c1.trans (b1.trans a1), c2.trans (b2.trans a2), c3.trans (b3.trans a3)⟩

theorem forced_iff (s : State) (i : Source) : s.timing.forced i = true ↔ HeldInCheck s i := by
  unfold Timing.forced HeldInCheck
  simp [or_assoc]

theorem preferredTo_irrefl (t : Timing) (i : Source) : t.preferredTo i i = false := by
  unfold Timing.preferredTo
  simp

/-! ## One record changed -/

section
variable {s v : State} {i : Source} {r : SourceRec} (hv : v.timing = s.timing.onSource i fun _ => r)
  (hm : r.mark = (s.timing.sources.get i).mark)
include hv hm

theorem onSource_forced (j : Source) : v.timing.forced j = s.timing.forced j := by
  have hmark : (v.timing.sources.get j).mark = (s.timing.sources.get j).mark := by
    rw [hv, Timing.onSource_get]
    split
    · next e => rw [e, hm]
    · rfl
  unfold Timing.forced
  rw [hmark, hv]
  rfl

theorem onSource_applied (hn : ¬HeldInCheck s i) : v.timing.applyForce.sources.get i = r := by
  rw [applyForce_get, onSource_forced hv hm, if_neg fun h => hn ((forced_iff s i).1 h.1), hv, Timing.onSource_get,
    if_pos rfl]

theorem onSource_applied_other {j : Source} (hj : j ≠ i) (hn : ¬HeldInCheck s j) :
    v.timing.applyForce.sources.get j = s.timing.sources.get j := by
  rw [applyForce_get, onSource_forced hv hm, if_neg fun h => hn ((forced_iff s j).1 h.1), hv, Timing.onSource_get,
    if_neg hj]

variable (hn : ¬HeldInCheck s i) (hc : v.clock.jump = s.clock.jump)
include hn hc

/-- A changed record of one source, with the selection that follows. -/
theorem sourcesChanged_taken (cause : String) {became : Option Source}
    (hb : became = if (s.timing.sources.get i).state ≠ r.state ∧ r.state = .qualified then some i else none) :
    SourceTaken s (sourcesChanged s v became cause) i r := by
  have hf := applyForce_fields v.timing
  have hr := applyForce_runs v.timing
  have hri := onSource_applied hv hm hn
  have hro (j : Source) := onSource_applied_other (j := j) hv hm
  have hch := sourcesChanged_choice s v became cause
  have hsrc := chosen_sources v.timing became
  have hlat : (chosen v.timing became).latch = v.timing.applyForce.latch :=
    (chosen_latch v.timing became).trans hf.2.2.2.2.1.symm
  have hjf := sourcesChanged_jumpFollows (s := s) (v := v) (by rw [hv]; rfl) hc became cause
  have hgr := sourcesChanged_graded s v became cause
  generalize sourcesChanged s v became cause = t at hch hjf hgr ⊢
  have hsel (j : Source) := hch.selectable_iff (τ := v.timing.applyForce) hsrc j
  have hpre (j k : Source) := hch.preferredTo_iff (τ := v.timing.applyForce) hlat j k
  have hbest := hch.preferred (τ := v.timing.applyForce) hsrc hlat
  unfold chosen at hch
  generalize hτ : v.timing.applyForce = τ at *
  have hselected : τ.selected = s.timing.selected := hf.1.trans (by rw [hv]; rfl)
  have hstate : τ.state = s.timing.state := hf.2.2.2.2.2.trans (by rw [hv]; rfl)
  have hlatch : τ.latch = s.timing.latch := hf.2.2.2.2.1.trans (by rw [hv]; rfl)
  have hlock : τ.lockRun = s.timing.lockRun := hr.1.trans (by rw [hv]; rfl)
  have hbound : τ.bound = s.timing.bound := hr.2.1.trans (by rw [hv]; rfl)
  have hever : τ.everLocked = s.timing.everLocked := hr.2.2.trans (by rw [hv]; rfl)
  have hts : t.timing.sources = τ.sources := hch.sources.trans (reselect_sources _ _ _)
  refine
    { record := by rw [hts, hri]
      others := fun j hj hh => by rw [hts, hro j hj hh]
      jump := hjf
      graded := hgr
      selects := fun h hq hrq _ => ?_
      keepsNone := fun h hq => ?_
      keeps := fun j h hsj hk => ?_
      reverts := fun j h hsj hrv hq hrq hbf => ?_
      replaced := fun j k h hns hp => ?_
      loses := fun h hq hno hst => ?_ }
  · rw [hb, if_pos ⟨by rw [hrq]; exact hq, hrq⟩, reselect_first (hselected.trans h)] at hch
    exact hch.newly
  · have hbn : became = none := by
      rw [hb]
      refine if_neg fun k => ?_
      rcases hq with hq | hq
      · exact k.1 (hq.trans k.2.symm)
      · exact hq k.2
    rw [hbn, reselect_stays_none (hselected.trans h)] at hch
    exact ⟨hch.selected.trans (hselected.trans h), hch.state.trans hstate⟩
  · rw [reselect_stays (hselected.trans h) ((hsel j).1 hsj) fun k hbk => ?_] at hch
    · exact ⟨hch.selected.trans (hselected.trans h), hch.state.trans hstate, hch.lockRun.trans hlock⟩
    · rw [hb] at hbk
      split at hbk
      · next hc' =>
        obtain rfl := Option.some.inj hbk
        rcases hk with hk | hk | hk | hk
        · rw [hlatch, hk]
          rfl
        · exact absurd (hk.trans hc'.2.symm) hc'.1
        · exact absurd hc'.2 hk
        · rw [hpre, Bool.not_eq_true] at hk
          rw [hk, Bool.and_false]
      · cases hbk
  · have hpt : τ.preferredTo i j = true := (hpre i j).1 hbf
    have hij : i ≠ j := by
      rintro rfl
      rw [preferredTo_irrefl] at hpt
      cases hpt
    rw [hb, if_pos ⟨by rw [hrq]; exact hq, hrq⟩,
      reselect_reverts (hselected.trans h) ((hsel j).1 hsj) (by rw [hlatch, hrv, hpt]; rfl),
      select_new (by rw [hselected, h]; exact fun e => hij (Option.some.inj e).symm)] at hch
    exact hch.newly
  · have hjk : j ≠ k := by
      rintro rfl
      exact hns hp.1
    have hns' : τ.selectable j = false := by
      rw [← Bool.not_eq_true, ← hsel]
      exact hns
    rw [reselect_lost (hselected.trans h) hns', ← hbest, (preferred_some t k).2 hp,
      select_new (by rw [hselected, h]; exact fun e => hjk (Option.some.inj e))] at hch
    exact hch.newly
  · have hns' : τ.selectable i = false := by
      rw [← Bool.not_eq_true, ← hsel]
      exact hno i
    rw [reselect_lost (hselected.trans h) hns', ← hbest, (preferred_none t).2 hno, select_none (hselected.trans h)] at hch
    refine ⟨hch.selected, hch.state.trans ?_⟩
    show τ.lose.state = _
    rw [lose_state (by rw [hstate]; exact hst), hstate, hever, hbound, hlatch]

end

end Sys2Proof.Machine
end

section
/-! SUPPORT. MISSING events and captures, as the timing selector takes them (R80 to R85). -/

namespace Sys2Proof.Machine

/-! ## A changed record -/

theorem sourcesChanged_timing {s0 s1 : State} (h : s1.timing = s0.timing) (s : State) (became : Option Source)
    (cause : String) : sourcesChanged s1 s became cause = sourcesChanged s0 s became cause := by
  unfold sourcesChanged
  rw [h]

theorem recordChanged_timing {s0 s1 : State} (h : s1.timing = s0.timing) (s : State) (i : Source) (cause : String) :
    recordChanged s1 s i cause = recordChanged s0 s i cause := by
  unfold recordChanged
  dsimp only
  rw [h, sourcesChanged_timing h]

/-- The clock's copies of what the timing selector decides, as in `t`. -/
def copiesOf (t : State) (k : Clock) : Clock :=
  { k with tstate := t.clock.tstate, grade := t.clock.grade, jump := t.clock.jump }

/-- What an event of the timing selector leaves beside its own block. -/
theorem sourcesChanged_frame (s0 s : State) (became : Option Source) (cause : String) :
    Shared { s with
        timing := (sourcesChanged s0 s became cause).timing
        clock := copiesOf (sourcesChanged s0 s became cause) s.clock } (sourcesChanged s0 s became cause) := by
  have h := sourcesChanged_shared s0 s became cause
  generalize sourcesChanged s0 s became cause = t at h ⊢
  have ht : t.timing = (rechosen s0 s became).timing := h.1.timing
  have h1 : t.clock.tstate = (rechosen s0 s became).clock.tstate := by rw [h.1.clock]
  have h2 : t.clock.grade = (rechosen s0 s became).clock.grade := by rw [h.1.clock]
  have h3 : t.clock.jump = (rechosen s0 s became).clock.jump := by rw [h.1.clock]
  unfold copiesOf
  rw [ht, h1, h2, h3]
  exact h

section
variable {s v : State} {i : Source} {r : SourceRec} (hv : v.timing = s.timing.onSource i fun _ => r) (cause : String)
include hv

theorem recordChanged_steps : ∃ u, Noticed v u ∧ recordChanged s v i cause =
    sourcesChanged s u
      (if (s.timing.sources.get i).state ≠ r.state ∧ r.state = .qualified then some i else none) cause := by
  have hr : v.timing.sources.get i = r := by
    rw [hv, Timing.onSource_get, if_pos rfl]
  refine ⟨if (s.timing.sources.get i).state ≠ r.state ∧ r.state = .failed then setFlagBoth v .sourceFail else v, ?_, ?_⟩
  · split
    · exact setFlagBoth_noticed _ _
    · exact .refl _
  · unfold recordChanged
    dsimp only
    rw [hr]

theorem recordChanged_frame : Shared { v with
    timing := (recordChanged s v i cause).timing, clock := copiesOf (recordChanged s v i cause) v.clock }
    (recordChanged s v i cause) := by
  obtain ⟨u, hu, e⟩ := recordChanged_steps hv cause
  rw [e]
  generalize (if (s.timing.sources.get i).state ≠ r.state ∧ r.state = .qualified then some i else none) = b
  have h := sourcesChanged_frame s u b cause
  generalize sourcesChanged s u b cause = t at h ⊢
  exact ((hu.onTiming fun _ => t.timing).onClock (copiesOf t)).shared.trans h

theorem recordChanged_taken (hm : r.mark = (s.timing.sources.get i).mark) (hn : ¬HeldInCheck s i)
    (hc : v.clock.jump = s.clock.jump) : SourceTaken s (recordChanged s v i cause) i r := by
  obtain ⟨u, hu, e⟩ := recordChanged_steps hv cause
  rw [e]
  exact sourcesChanged_taken (hu.timing.trans hv) hm hn (by rw [hu.clock]; exact hc) cause rfl

end

/-! ## MISSING -/

/-- The record that a MISSING event leaves (R85). -/
def missed (g : SourceSettings) (r : SourceRec) : SourceRec :=
  match r.state with
  | .qualifying => { r with watch := some 1000 }.breakRun
  | .qualified => badPulse g { r with watch := some 1000 }
  | _ => { r with watch := some 1000 }

theorem missed_mark (g : SourceSettings) (r : SourceRec) : (missed g r).mark = r.mark := by
  unfold missed
  split
  · rfl
  · exact badPulse_mark _ _
  · rfl

section
variable {g : SourceSettings} {r : SourceRec}

theorem missed_qualifying (h : r.state = .qualifying) :
    missed g r = { r with watch := some 1000, goodRun := 0, anchor := none } := by
  obtain ⟨st, _, _, _, _, _, _, _, _⟩ := r
  cases h
  rfl

theorem missed_qualified (h : r.state = .qualified) : missed g r =
    if g.fail ≤ r.badRun + 1 then
      { r with watch := some 1000, state := .failed, badRun := 0, goodRun := 0, anchor := none }
    else { r with watch := some 1000, badRun := r.badRun + 1 } := by
  obtain ⟨st, _, _, _, _, _, _, _, _⟩ := r
  cases h
  rfl

theorem missed_other (h : r.state ≠ .qualifying) (k : r.state ≠ .qualified) :
    missed g r = { r with watch := some 1000 } := by
  obtain ⟨st, _, _, _, _, _, _, _, _⟩ := r
  cases st
  case qualifying => exact absurd rfl h
  case qualified => exact absurd rfl k
  all_goals rfl

end

/-- The count of a MISSING event, and the record it leaves. -/
def missingState (s : State) (i : Source) : State :=
  { s with
    timing := s.timing.onSource i fun _ => missed (s.cfg.sources.get i) (s.timing.sources.get i)
    counts := { s.counts with srcMissing := s.counts.srcMissing.put i (bump (s.counts.srcMissing.get i)) } }

theorem timingMissing_stopped {s : State} {i : Source} (h : (s.timing.sources.get i).watch = none) :
    timingMissing s i = s := by
  unfold timingMissing
  dsimp only
  rw [h]
  rfl

theorem timingMissing_runs {s : State} {i : Source} (h : (s.timing.sources.get i).watch.isSome) :
    timingMissing s i = recordChanged s (missingState s i) i "MISSING" := by
  unfold timingMissing
  dsimp only
  rw [if_neg (by rw [Option.isNone_iff_eq_none]; exact Option.isSome_iff_ne_none.1 h)]
  rfl

theorem timingMissing_taken {s : State} {i : Source} (h : (s.timing.sources.get i).watch.isSome)
    (hn : ¬HeldInCheck s i) :
    SourceTaken s (timingMissing s i) i (missed (s.cfg.sources.get i) (s.timing.sources.get i)) := by
  rw [timingMissing_runs h]
  exact recordChanged_taken rfl _ (missed_mark _ _) hn rfl

end Sys2Proof.Machine

open Sys2Proof Sys2Proof.Machine

/-- Settles O32. -/
theorem missingCounted : Obligations.MissingCounted := by
  intro s i hr r w fail
  refine ⟨fun hw => ?_, fun hw => lives hr (timingMissing_stopped hw)⟩
  have hf : Shared { missingState s i with
      timing := (timingMissing s i).timing, clock := copiesOf (timingMissing s i) s.clock } (timingMissing s i) := by
    rw [timingMissing_runs hw]
    exact recordChanged_frame (s := s) (v := missingState s i) (i := i) rfl _
  refine ⟨_, lives hr rfl, hf.1, fun hn => ?_⟩
  have ht := timingMissing_taken hw hn
  refine ⟨fun h => ?_, fun h hl => ?_, fun h hl => ?_, fun h k => ?_⟩
  · rw [missed_qualifying h] at ht
    exact ht
  · rw [missed_qualified h, if_neg (Nat.not_le.2 hl)] at ht
    exact ht
  · rw [missed_qualified h, if_pos hl] at ht
    exact ht
  · rw [missed_other h k] at ht
    exact ht

end

section
/-! SUPPORT. SOURCE SET: the settings of a source, and its record where it is disabled or enabled (R69, R103). -/

namespace Sys2Proof.Machine

/-- What SOURCE SET of source `i` leaves before the selector has judged it. -/
structure SourceApplied (s v : State) (i : Source) (g : SourceSettings) : Prop where
  frame : v = { s with
    cfg := { s.cfg with sources := s.cfg.sources.put i g }, timing := v.timing
    clock := { s.clock with
      enabled := v.clock.enabled, captures := v.clock.captures, auxCount := v.clock.auxCount } }

section
variable {s v : State} {i : Source} {g : SourceSettings} (h : SourceApplied s v i g) (cause : String)
include h

theorem SourceApplied.shared {t : State} (ht : sourcesChanged s v none cause = t) : AfterReshares
    { s with
      cfg := { s.cfg with sources := s.cfg.sources.put i g }, timing := t.timing
      clock := { s.clock with
        enabled := t.clock.enabled, captures := t.clock.captures, auxCount := t.clock.auxCount
        jump := t.clock.jump, tstate := t.clock.tstate, grade := t.clock.grade } } t := by
  have hf := sourcesChanged_frame s v none cause
  rw [ht] at hf
  have h1 : t.clock.enabled = v.clock.enabled := by rw [hf.1.clock]; rfl
  have h2 : t.clock.captures = v.clock.captures := by rw [hf.1.clock]; rfl
  have h3 : t.clock.auxCount = v.clock.auxCount := by rw [hf.1.clock]; rfl
  rw [h1, h2, h3]
  have e := h.frame
  have k := hf.1
  rw [e] at k
  exact k

omit h in
theorem sourcesChanged_clock (s0 s : State) (b : Option Source) (c : String) :
    (sourcesChanged s0 s b c).clock.enabled = s.clock.enabled ∧ (sourcesChanged s0 s b c).clock.captures = s.clock.captures
      ∧ (sourcesChanged s0 s b c).clock.auxCount = s.clock.auxCount := by
  have h := (sourcesChanged_frame s0 s b c).1.clock
  generalize sourcesChanged s0 s b c = t at h ⊢
  exact ⟨by rw [h]; rfl, by rw [h]; rfl, by rw [h]; rfl⟩

end

section
variable (s : State) (i : Source) (g : SourceSettings)

theorem settings_sources : (s.settings fun cfg => { cfg with sources := cfg.sources.put i g }).cfg =
    { s.cfg with sources := s.cfg.sources.put i g } := rfl

/-- Disabled: the source is OFF, and the clock drops its capture. -/
def disabledSource : State :=
  clockEnable ((s.settings fun cfg => { cfg with sources := cfg.sources.put i g }).onTiming
    fun k => k.onSource i fun _ => .atReset false) i false

/-- Enabled: the source is in CHECK. -/
def enabledSource : State :=
  clockEnable ((s.settings fun cfg => { cfg with sources := cfg.sources.put i g }).onTiming
    fun k => k.onSource i fun r => { r with state := .check }) i true

def keptSource : State := s.settings fun cfg => { cfg with sources := cfg.sources.put i g }

theorem disabledSource_applied : SourceApplied s (disabledSource s i g) i g := ⟨rfl⟩
theorem enabledSource_applied : SourceApplied s (enabledSource s i g) i g := ⟨rfl⟩
theorem keptSource_applied : SourceApplied s (keptSource s i g) i g := ⟨rfl⟩

variable {s i g}

theorem applySource_disables (he : g.enabled = false) (hw : (s.timing.sources.get i).state ≠ .off) :
    applySource s i g = sourcesChanged s (disabledSource s i g) none "DISABLE" := by
  unfold applySource
  dsimp only
  rw [if_pos (by simp [he, hw])]
  rfl

theorem applySource_enables (he : g.enabled = true) (hw : (s.timing.sources.get i).state = .off) :
    applySource s i g = sourcesChanged s (enabledSource s i g) none "ENABLE" := by
  unfold applySource
  dsimp only
  rw [if_neg (by simp [he]), if_pos (by simp [he, hw])]
  rfl

theorem applySource_stands (h : g.enabled = true ↔ (s.timing.sources.get i).state ≠ .off) :
    applySource s i g = sourcesChanged s (keptSource s i g) none "ENABLE" := by
  unfold applySource
  dsimp only
  cases he : g.enabled
  · have hw : (s.timing.sources.get i).state = .off := by
      by_contra hw
      rw [h.2 hw] at he
      cases he
    rw [if_neg (by simp [hw]), if_neg (by simp)]
    rfl
  · rw [if_neg (by simp), if_neg (by simpa using h.1 he)]
    rfl

end

theorem sourcesChanged_source (s0 s : State) (b : Option Source) (c : String) (i : Source) :
    (sourcesChanged s0 s b c).timing.sources.get i = s.timing.applyForce.sources.get i := by
  rw [(sourcesChanged_choice s0 s b c).sources, chosen_sources]

theorem sourcesChanged_selected {s0 s : State} {c : String} {i : Source}
    (h : (s.timing.applyForce.sources.get i).state ≠ .qualified) :
    (sourcesChanged s0 s none c).timing.selected ≠ some i := by
  rw [(sourcesChanged_choice s0 s none c).selected]
  intro hs
  have hq := reselect_selectable s.timing.applyForce none false nofun i hs
  unfold Timing.selectable at hq
  rw [Bool.and_eq_true, beq_iff_eq] at hq
  exact h hq.1

/-- What SOURCE SET leaves. -/
structure SourceSet (s t : State) (i : Source) (g : SourceSettings) : Prop where
  frame : AfterReshares
    { s with
      cfg := { s.cfg with sources := s.cfg.sources.put i g }, timing := t.timing
      clock := { s.clock with
        enabled := t.clock.enabled, captures := t.clock.captures, auxCount := t.clock.auxCount
        jump := t.clock.jump, tstate := t.clock.tstate, grade := t.clock.grade } } t
  graded : BoundAndGrade t
  disables : g.enabled = false → (s.timing.sources.get i).state ≠ .off →
    (t.timing.sources.get i).state = .off ∧ t.clock.enabled = s.clock.enabled.put i false
      ∧ t.clock.captures = s.clock.captures.put i { last := none, interval := none, coarse := false, elapsed := 0 }
      ∧ t.clock.auxCount = (if i = .aux then 0 else s.clock.auxCount) ∧ t.timing.selected ≠ some i
  enables : g.enabled = true → (s.timing.sources.get i).state = .off →
    (t.timing.sources.get i).state = .check ∧ t.clock.enabled = s.clock.enabled.put i true
  keeps : (g.enabled = true ↔ (s.timing.sources.get i).state ≠ .off) →
    t.clock.enabled = s.clock.enabled ∧ t.clock.captures = s.clock.captures
      ∧ (¬HeldInCheck s i → t.timing.sources.get i = s.timing.sources.get i)

theorem atReset_forced (s : State) (i : Source) (g : SourceSettings) :
    (disabledSource s i g).timing.applyForce.sources.get i = .atReset false := by
  have hg : (disabledSource s i g).timing.sources.get i = .atReset false := by
    show ((Timing.onSource _ i _).sources.get i) = _
    rw [Timing.onSource_get, if_pos rfl]
  rw [applyForce_get, hg]
  exact if_neg fun h => h.2 rfl

theorem disabledSource_sets {s : State} {i : Source} {g : SourceSettings} (he : g.enabled = false)
    (hw : (s.timing.sources.get i).state ≠ .off) (cause : String) :
    SourceSet s (sourcesChanged s (disabledSource s i g) none cause) i g := by
  have hf := (disabledSource_applied s i g).shared cause rfl
  have hg := sourcesChanged_graded s (disabledSource s i g) none cause
  have hs := sourcesChanged_source s (disabledSource s i g) none cause i
  obtain ⟨h1, h2, h3⟩ := sourcesChanged_clock s (disabledSource s i g) none cause
  have ha := atReset_forced s i g
  have hq := sourcesChanged_selected (s0 := s) (s := disabledSource s i g) (c := cause) (i := i)
    (by rw [ha]; decide)
  refine ⟨hf, hg, fun _ _ => ⟨by rw [hs, ha]; rfl, h1, h2, h3.trans ?_, hq⟩, fun k => ?_, fun k => ?_⟩
  · show (if i = .aux ∧ !false then 0 else s.clock.auxCount) = _
    simp
  · rw [he] at k
    cases k
  · rw [k.2 hw] at he
    cases he

theorem enabledSource_sets {s : State} {i : Source} {g : SourceSettings} (he : g.enabled = true)
    (hw : (s.timing.sources.get i).state = .off) (cause : String) :
    SourceSet s (sourcesChanged s (enabledSource s i g) none cause) i g := by
  have hf := (enabledSource_applied s i g).shared cause rfl
  have hg := sourcesChanged_graded s (enabledSource s i g) none cause
  have hs := sourcesChanged_source s (enabledSource s i g) none cause i
  obtain ⟨h1, -, -⟩ := sourcesChanged_clock s (enabledSource s i g) none cause
  have ha : ((enabledSource s i g).timing.applyForce.sources.get i).state = .check := by
    have hc : ((enabledSource s i g).timing.sources.get i).state = .check := by
      show ((Timing.onSource _ i _).sources.get i).state = _
      rw [Timing.onSource_get, if_pos rfl]
    rw [applyForce_get]
    split
    · rfl
    · exact hc
  refine ⟨hf, hg, fun k => ?_, fun _ _ => ⟨by rw [hs, ha], h1⟩, fun k => absurd hw (k.1 he)⟩
  rw [he] at k
  cases k

theorem keptSource_sets {s : State} {i : Source} {g : SourceSettings}
    (h : g.enabled = true ↔ (s.timing.sources.get i).state ≠ .off) (cause : String) :
    SourceSet s (sourcesChanged s (keptSource s i g) none cause) i g := by
  have hf := (keptSource_applied s i g).shared cause rfl
  have hg := sourcesChanged_graded s (keptSource s i g) none cause
  have hs := sourcesChanged_source s (keptSource s i g) none cause i
  obtain ⟨h1, h2, -⟩ := sourcesChanged_clock s (keptSource s i g) none cause
  refine ⟨hf, hg, fun k hw => ?_, fun k hw => absurd hw (h.1 k), fun _ => ⟨h1, h2, fun hn => ?_⟩⟩
  · rw [h.2 hw] at k
    cases k
  · rw [hs, applyForce_get]
    exact if_neg fun k => hn ((forced_iff s i).1 k.1)

theorem applySource_sets (s : State) (i : Source) (g : SourceSettings) : SourceSet s (applySource s i g) i g := by
  by_cases h : g.enabled = true ↔ (s.timing.sources.get i).state ≠ .off
  · rw [applySource_stands h]
    exact keptSource_sets h _
  · cases he : g.enabled
    · have hw : (s.timing.sources.get i).state ≠ .off := fun hw => h (by rw [he, hw]; decide)
      rw [applySource_disables he hw]
      exact disabledSource_sets he hw _
    · have hw : (s.timing.sources.get i).state = .off := by
        by_contra hw
        exact h ⟨fun _ => hw, fun _ => he⟩
      rw [applySource_enables he hw]
      exact enabledSource_sets he hw _

/-! ## The request -/

theorem index_sourceAt (i : Fin 3) : Source.index (sourceAt i) = i.val := by
  unfold sourceAt
  fin_cases i <;> rfl

theorem SourceSettings.with_eq (g : SourceSettings) (a : SourceArgs) : g.with a =
    { enabled := a.enabled.getD g.enabled, priority := natOr g.priority a.priority, tol := natOr g.tol a.tol
      qualify := natOr g.qualify a.qualify, fail := natOr g.fail a.fail, stability := natOr g.stability a.stability
      allowance := natOr g.allowance a.allowance } := by
  unfold SourceSettings.with
  rw [boolOr_eq]

theorem handleSourceSet_ok (u : State) (i : Fin 3) {a : SourceArgs} (ha : sourceArgsOk a = true) :
    ∃ l, handleSourceSet u (some (Source.index (sourceAt i))) a =
      (applySource u (sourceAt i) ((u.cfg.sources.get (sourceAt i)).with a), .ok l []) := by
  unfold handleSourceSet
  rw [index_sourceAt, indexOf_val]
  dsimp only
  rw [ha]
  exact ⟨_, rfl⟩

end Sys2Proof.Machine

open Sys2Proof Sys2Proof.Machine

/-- Settles O34. -/
theorem sourceSettingsSet : Obligations.SourceSettingsSet := by
  intro s rq i a hx ha u i' g was new
  have hu : portLine s rq.port = u := rfl
  clear_value u
  obtain ⟨l, h⟩ := handleSourceSet_ok u i ha
  have hn : (u.cfg.sources.get (sourceAt i)).with a = new := SourceSettings.with_eq _ _
  rw [hn] at h
  have hs := applySource_sets u i' new
  exact ⟨_, l, answersAt hu hx h, hs.frame, hs.graded, hs.disables, hs.enables, hs.keeps⟩

end

section
/-! SUPPORT. Edges: the prescaler, the captures, and the rule of a source's state for a taken capture (R69 to R71, R80 to
R84). -/

namespace Sys2Proof.Machine

/-! ## The rule of the source's state -/

theorem judge_good_iff (tol : Nat) (iv : Option Interval) : judge tol iv = .good ↔
    ∃ m, iv = some (.ns m) ∧ 1000000000 - tol ≤ m ∧ m ≤ 1000000000 + tol := by
  unfold judge
  match iv with
  | none => simp
  | some .long => simp
  | some (.ns n) =>
    dsimp only
    by_cases h : 1000000000 - tol ≤ n ∧ n ≤ 1000000000 + tol
    · rw [if_pos h]
      exact ⟨fun _ => ⟨n, rfl, h⟩, fun _ => rfl⟩
    · rw [if_neg h]
      refine ⟨nofun, fun ⟨m, e, k⟩ => absurd ?_ h⟩
      cases e
      exact k

theorem judge_none (tol : Nat) : judge tol none = .noInterval := rfl

theorem judge_bad {tol : Nat} {iv : Option Interval} (h : iv.isSome) (hg : judge tol iv ≠ .good) :
    judge tol iv = .bad := by
  unfold judge at hg ⊢
  match iv with
  | some .long => rfl
  | some (.ns n) =>
    dsimp only at hg ⊢
    split
    · next k => exact absurd (if_pos k) hg
    · rfl

/-- The record of a source with a capture in it. -/
def stamped (r : SourceRec) (now : SiteTime) (x : Int) (f : Option Int) : SourceRec :=
  { r with lastTime := some now, lastOffset := some x, watch := some 1500, fresh := f }

/-- The record that a taken capture leaves. -/
def captured (g : SourceSettings) (r : SourceRec) (now : SiteTime) (x : Int) (j : Judgement) : SourceRec :=
  takeCapture g (stamped r now x (if r.state ≠ .check ∧ j = .good then some x else r.fresh)) x j

section
variable {g : SourceSettings} {r : SourceRec} {now : SiteTime} {x : Int} {j : Judgement}

theorem captured_mark : (captured g r now x j).mark = r.mark := takeCapture_mark _ _ _ _

theorem captured_check (h : r.state = .check) : captured g r now x j =
    { stamped r now x r.fresh with
      state := .qualifying, goodRun := 0, anchor := some { min := x, max := x }, badRun := 0 } := by
  unfold captured
  rw [if_neg (by simp [h])]
  unfold takeCapture
  rw [show (stamped r now x r.fresh).state = .check from h]
  rfl

/-- The record of a good capture, outside CHECK. -/
theorem captured_used (h : r.state ≠ .check) (hj : j = .good) :
    captured g r now x j = takeCapture g (stamped r now x (some x)) x .good := by
  unfold captured
  rw [if_pos ⟨h, hj⟩, hj]

/-- The record of any other. -/
theorem captured_kept (hj : j ≠ .good) : captured g r now x j = takeCapture g (stamped r now x r.fresh) x j := by
  unfold captured
  rw [if_neg fun k => hj k.2]

theorem captured_failed_good (h : r.state = .failed) (hj : j = .good) : captured g r now x j =
    { stamped r now x (some x) with
      state := .qualifying, goodRun := 0, anchor := some { min := x, max := x }, badRun := 0 } := by
  rw [captured_used (by rw [h]; decide) hj]
  unfold takeCapture
  rw [show (stamped r now x (some x)).state = .failed from h]
  rfl

theorem captured_failed_bad (h : r.state = .failed) (hj : j ≠ .good) :
    captured g r now x j = stamped r now x r.fresh := by
  rw [captured_kept hj]
  unfold takeCapture
  rw [show (stamped r now x r.fresh).state = .failed from h]
  exact if_neg hj

theorem captured_qualifying_bad (h : r.state = .qualifying) (hj : j ≠ .good) :
    captured g r now x j = { stamped r now x r.fresh with goodRun := 0, anchor := none } := by
  rw [captured_kept hj]
  unfold takeCapture
  rw [show (stamped r now x r.fresh).state = .qualifying from h]
  cases j
  case good => exact absurd rfl hj
  all_goals rfl

theorem captured_qualifying (h : r.state = .qualifying) (hj : j = .good) :
    captured g r now x j = qualifyStep g (stamped r now x (some x)) x .good := by
  rw [captured_used (by rw [h]; decide) hj]
  unfold takeCapture
  rw [show (stamped r now x (some x)).state = .qualifying from h]

theorem captured_qualifying_first (h : r.state = .qualifying) (hj : j = .good) (ha : r.anchor = none) :
    captured g r now x j =
      { stamped r now x (some x) with goodRun := 0, anchor := some { min := x, max := x } } := by
  rw [captured_qualifying h hj]
  unfold qualifyStep
  dsimp only
  rw [show (stamped r now x (some x)).anchor = none from ha]
  rfl

section
variable {a : Anchor} (h : r.state = .qualifying) (hj : j = .good) (ha : r.anchor = some a)
include h hj ha

theorem captured_qualifying_step : captured g r now x j =
    if g.qualify ≤ min 60 (r.goodRun + 1) then
      if max a.max x - min a.min x ≤ g.stability then
        { stamped r now x (some x) with
          state := .qualified, goodRun := min 60 (r.goodRun + 1)
          anchor := some { min := min a.min x, max := max a.max x }, badRun := 0 }
      else { stamped r now x (some x) with goodRun := 0, anchor := some { min := x, max := x } }
    else
      { stamped r now x (some x) with
        goodRun := min 60 (r.goodRun + 1), anchor := some { min := min a.min x, max := max a.max x } } := by
  rw [captured_qualifying h hj]
  unfold qualifyStep
  dsimp only
  rw [show (stamped r now x (some x)).anchor = some a from ha]
  rfl

end

theorem takeCapture_qualified_good (h : r.state = .qualified) : takeCapture g r x .good = { r with badRun := 0 } := by
  obtain ⟨_, _, _, _, _, _, _, _, _⟩ := r
  cases h
  rfl

theorem captured_qualified_good (h : r.state = .qualified) (hj : j = .good) :
    captured g r now x j = { stamped r now x (some x) with badRun := 0 } := by
  rw [captured_used (by rw [h]; decide) hj]
  exact takeCapture_qualified_good h

theorem captured_qualified_bad (h : r.state = .qualified) (hj : j ≠ .good) : captured g r now x j =
    if g.fail ≤ r.badRun + 1 then
      { stamped r now x r.fresh with state := .failed, badRun := 0, goodRun := 0, anchor := none }
    else { stamped r now x r.fresh with badRun := r.badRun + 1 } := by
  rw [captured_kept hj]
  unfold takeCapture
  rw [show (stamped r now x r.fresh).state = .qualified from h]
  exact if_neg hj

end

/-! ## A capture event -/

/-- The counts after a judged capture. -/
def judgedCounts (c : Counters) (i : Source) (st : SourceState) (j : Judgement) : Counters :=
  { c with
    srcGood := if st ≠ .check ∧ j = .good then c.srcGood.put i (bump (c.srcGood.get i)) else c.srcGood
    srcBad := if st ≠ .check ∧ j = .bad then c.srcBad.put i (bump (c.srcBad.get i)) else c.srcBad }

theorem countJudged_eq (s : State) (i : Source) (st : SourceState) (j : Judgement) :
    countJudged s i st j = { s with counts := judgedCounts s.counts i st j } := by
  unfold countJudged judgedCounts
  cases st <;> cases j <;> rfl

section
variable {s : State} {i : Source} {now : SiteTime} {iv : Option Interval} {coarse : Bool}

theorem timingCapture_off (h : (s.timing.sources.get i).state = .off) : timingCapture s i now iv coarse = s := by
  unfold timingCapture
  dsimp only
  rw [if_pos h]

variable (h : (s.timing.sources.get i).state ≠ .off)
include h

theorem timingCapture_ignored (hi : HeldInCheck s i ∨ coarse = true) : timingCapture s i now iv coarse =
    { s with counts := { s.counts with srcIgnored := s.counts.srcIgnored.put i (bump (s.counts.srcIgnored.get i)) } } := by
  unfold timingCapture
  dsimp only
  rw [if_neg h, if_pos (by rw [Bool.or_eq_true, forced_iff]; exact hi)]
  rfl

/-- What a taken capture leaves before the selection is judged. -/
def captureTaken (s : State) (i : Source) (now : SiteTime) (iv : Option Interval) : State :=
  { s with
    timing := s.timing.onSource i fun _ => captured (s.cfg.sources.get i) (s.timing.sources.get i) now (offsetOf now)
      (judge (s.cfg.sources.get i).tol iv)
    counts := judgedCounts s.counts i (s.timing.sources.get i).state (judge (s.cfg.sources.get i).tol iv) }

theorem timingCapture_taken (hi : ¬(HeldInCheck s i ∨ coarse = true)) :
    timingCapture s i now iv coarse = recordChanged s (captureTaken s i now iv) i "CAPTURE" := by
  unfold timingCapture
  dsimp only
  rw [if_neg h, if_neg (by rw [Bool.or_eq_true, forced_iff]; exact hi), countJudged_eq]
  rfl

end

end Sys2Proof.Machine
end

section
/-! SUPPORT. Edges at the inputs of the site clock: the steps that pass first, the prescaler, the early test, and the
capture that the timing selector takes (R69 to R71, R80). -/

namespace Sys2Proof.Machine

/-! ## Steps of the timebase -/

/-- `k'` is `k` but for the time, a start hold, the pulse and the intervals. -/
structure Stepped (k k' : Clock) : Prop where
  enabled : k'.enabled = k.enabled
  divert : k'.divert = k.divert
  auxCount : k'.auxCount = k.auxCount
  oscBad : k'.oscBad = k.oscBad
  jump : k'.jump = k.jump
  sec : k'.sec = k.sec
  active : k'.active = k.active
  steer : k'.steer = k.steer

theorem stepLo_stepped (k : Clock) (n : Nat) : Stepped k (k.stepLo n) := by
  unfold Clock.stepLo
  dsimp only
  cases (k.pass (n * unitsPerStep)).startHold with
  | none => exact ⟨rfl, rfl, rfl, rfl, rfl, rfl, rfl, rfl⟩
  | some h =>
    dsimp only
    by_cases hn : 10 * n < h
    · rw [if_pos hn]
      exact ⟨rfl, rfl, rfl, rfl, rfl, rfl, rfl, rfl⟩
    · rw [if_neg hn]
      exact ⟨rfl, rfl, rfl, rfl, rfl, rfl, rfl, rfl⟩

theorem pass_stepped (k : Clock) (u : Nat) : Stepped k (k.pass u) := ⟨rfl, rfl, rfl, rfl, rfl, rfl, rfl, rfl⟩

theorem stepRc_stepped (k : Clock) (n : Nat) : Stepped k (k.stepRc n) := by
  obtain ⟨h1, h2, h3, h4, h5, h6, h7, h8⟩ := pass_stepped k (n * unitsPerCycle)
  unfold Clock.stepRc
  generalize k.pass (n * unitsPerCycle) = q at h1 h2 h3 h4 h5 h6 h7 h8 ⊢
  exact ⟨h1, h2, h3, h4, h5, h6, h7, h8⟩

theorem advance_stepped (k : Clock) (n : Nat) : Stepped k (k.advance n) := by
  unfold Clock.advance
  split
  · exact stepRc_stepped k n
  · exact stepLo_stepped k n

section
variable (k : Clock) (n : Nat)

theorem advance_enabled : (k.advance n).enabled = k.enabled := (advance_stepped k n).enabled

theorem advance_divert : (k.advance n).divert = k.divert := (advance_stepped k n).divert

theorem advance_auxCount : (k.advance n).auxCount = k.auxCount := (advance_stepped k n).auxCount

theorem advance_oscBad : (k.advance n).oscBad = k.oscBad := (advance_stepped k n).oscBad

theorem advance_jump : (k.advance n).jump = k.jump := (advance_stepped k n).jump

end

/-! ## An edge, by its cases -/

/-- The steps of an edge have passed. -/
def stepped (s : State) (n : Nat) : State := { s with clock := s.clock.advance n }

/-- The edge has passed the prescaler. -/
def prescaled (s : State) (i : Source) (n : Nat) : State :=
  { s with clock := { s.clock.advance n with auxCount := if i = .aux then 0 else (s.clock.advance n).auxCount } }

/-- The interval since the last capture of the source. -/
def edgeInterval (s : State) (i : Source) (n : Nat) : Option Interval :=
  ((s.clock.advance n).captures.get i).last.map fun _ => intervalOf ((s.clock.advance n).captures.get i).elapsed

def edgeTime (s : State) (n : Nat) : SiteTime := { sec := (s.clock.advance n).sec, ns := (s.clock.advance n).ns }

/-- The edge has been captured by the site clock. -/
def edgeCaptured (s : State) (i : Source) (n : Nat) : State :=
  (prescaled s i n).onClock fun k =>
    { k with captures := k.captures.put i {
        last := some (edgeTime s n), interval := edgeInterval s i n, coarse := s.clock.oscBad, elapsed := 0 } }

/-- What the edge leaves. -/
def edgeTaken (s : State) (i : Source) (n : Nat) : State :=
  timingCapture (edgeCaptured s i n) i (edgeTime s n) (edgeInterval s i n) s.clock.oscBad

section
variable {s : State} {i : Source} {n : Nat}

theorem captureEdge_early (h : ((edgeInterval s i n).map isEarly).getD false = true) :
    captureEdge (prescaled s i n) i = { prescaled s i n with
      counts := { s.counts with srcEarly := s.counts.srcEarly.put i (bump (s.counts.srcEarly.get i)) } } := by
  unfold captureEdge
  dsimp only
  exact if_pos h

theorem captureEdge_taken (h : ((edgeInterval s i n).map isEarly).getD false = false) :
    captureEdge (prescaled s i n) i = edgeTaken s i n := by
  unfold captureEdge
  dsimp only
  refine (if_neg (by rw [Bool.not_eq_true]; exact h)).trans ?_
  unfold edgeTaken edgeCaptured
  rw [← advance_oscBad s.clock n]
  rfl

section
variable (hd : i = .aux → s.clock.divert = none)
include hd

theorem ppsEdge_plain (d : EdgeDir) :
    ppsEdge s i d n = if d = .rise then risingEdge (stepped s n) i else stepped s n := by
  unfold ppsEdge
  refine if_neg fun h => ?_
  rw [show ((s.onClock fun k => k.advance n).clock.divert) = s.clock.divert from advance_divert _ _, hd h.1] at h
  exact absurd h.2 (by decide)

theorem ppsEdge_fall : ppsEdge s i .fall n = stepped s n := by
  rw [ppsEdge_plain hd, if_neg (by decide)]

theorem ppsEdge_disabled (he : s.clock.enabled.get i = false) : ppsEdge s i .rise n = stepped s n := by
  rw [ppsEdge_plain hd, if_pos rfl]
  unfold risingEdge
  rw [show (stepped s n).clock.enabled = s.clock.enabled from advance_enabled _ _, he]
  rfl

end

theorem ppsEdge_held (he : s.clock.enabled.get .aux = true) (hd : s.clock.divert = none)
    (hc : s.clock.auxCount + 1 < s.cfg.auxDiv) : ppsEdge s .aux .rise n =
      { s with clock := { s.clock.advance n with auxCount := (s.clock.advance n).auxCount + 1 } } := by
  rw [ppsEdge_plain (fun _ => hd), if_pos rfl]
  unfold risingEdge prescaler
  rw [show (stepped s n).clock.enabled = s.clock.enabled from advance_enabled _ _,
    show (stepped s n).clock.divert = s.clock.divert from advance_divert _ _,
    show (stepped s n).clock.auxCount = s.clock.auxCount from advance_auxCount _ _, he, hd]
  refine (if_neg (by decide)).trans ((if_pos rfl).trans ((if_neg ?_).trans ?_))
  · exact Nat.not_le.2 hc
  · rfl

theorem ppsEdge_passes (he : s.clock.enabled.get i = true)
    (hp : i ≠ .aux ∨ s.clock.divert = none ∧ s.cfg.auxDiv ≤ s.clock.auxCount + 1) :
    ppsEdge s i .rise n = captureEdge (prescaled s i n) i := by
  have hd : i = .aux → s.clock.divert = none := fun h => (hp.resolve_left (not_not_intro h)).1
  rw [ppsEdge_plain hd, if_pos rfl]
  unfold risingEdge prescaler
  rw [show (stepped s n).clock.enabled = s.clock.enabled from advance_enabled _ _,
    show (stepped s n).clock.divert = s.clock.divert from advance_divert _ _,
    show (stepped s n).clock.auxCount = s.clock.auxCount from advance_auxCount _ _, he]
  refine (if_neg (by decide)).trans ?_
  by_cases ha : i = .aux
  · obtain ⟨hdv, hc⟩ := hp.resolve_left (not_not_intro ha)
    rw [if_pos ha, hdv]
    refine (if_pos hc).trans ?_
    unfold prescaled stepped
    rw [if_pos ha]
    rfl
  · rw [if_neg ha]
    unfold prescaled stepped
    rw [if_neg ha]

end

/-! ## What the timing selector does with a capture -/

section
variable (s : State) (i : Source) (n : Nat)

theorem edgeCaptured_timing : (edgeCaptured s i n).timing = s.timing := rfl

theorem edgeCaptured_jump : (edgeCaptured s i n).clock.jump = s.clock.jump := advance_jump _ _

/-- The capture's judgement. -/
def edgeJudged (s : State) (i : Source) (n : Nat) : Judgement :=
  judge (s.cfg.sources.get i).tol (edgeInterval s i n)

/-- The record that the edge leaves where the selector takes it. -/
def edgeRecord (s : State) (i : Source) (n : Nat) : SourceRec :=
  captured (s.cfg.sources.get i) (s.timing.sources.get i) (edgeTime s n) (offsetOf (edgeTime s n)) (edgeJudged s i n)

end

section
variable {s : State} {i : Source} {n : Nat}

theorem edgeTaken_off (h : (s.timing.sources.get i).state = .off) : edgeTaken s i n = edgeCaptured s i n :=
  timingCapture_off h

section
variable (h : (s.timing.sources.get i).state ≠ .off)
include h

theorem edgeTaken_ignored (hi : HeldInCheck s i ∨ s.clock.oscBad = true) : edgeTaken s i n =
    { edgeCaptured s i n with counts := { s.counts with
        srcIgnored := s.counts.srcIgnored.put i (bump (s.counts.srcIgnored.get i)) } } :=
  timingCapture_ignored h hi

variable (hi : ¬(HeldInCheck s i ∨ s.clock.oscBad = true))
include hi

theorem edgeTaken_taken : edgeTaken s i n =
    recordChanged s (captureTaken (edgeCaptured s i n) i (edgeTime s n) (edgeInterval s i n)) i "CAPTURE" := by
  exact (timingCapture_taken (s := edgeCaptured s i n) h hi).trans (recordChanged_timing rfl _ _ _)

theorem edgeTaken_record : SourceTaken s (edgeTaken s i n) i (edgeRecord s i n) := by
  rw [edgeTaken_taken h hi]
  exact recordChanged_taken rfl _ captured_mark (fun k => hi (.inl k)) (edgeCaptured_jump s i n)

theorem edgeTaken_shared : Shared { edgeCaptured s i n with
    timing := (edgeTaken s i n).timing
    clock := copiesOf (edgeTaken s i n) (edgeCaptured s i n).clock
    counts := judgedCounts s.counts i (s.timing.sources.get i).state (edgeJudged s i n) } (edgeTaken s i n) := by
  rw [edgeTaken_taken h hi]
  exact recordChanged_frame (s := s) (v := captureTaken (edgeCaptured s i n) i (edgeTime s n) (edgeInterval s i n))
    (i := i) rfl _

end

end

/-- The counts of judged captures in `t`. -/
def srcCountsOf (t : State) (c : Counters) : Counters :=
  { c with srcGood := t.counts.srcGood, srcBad := t.counts.srcBad, srcIgnored := t.counts.srcIgnored }

theorem srcCountsOf_eq {u t : State} (h : Shared u t) : srcCountsOf t u.counts = u.counts := by
  have hc := h.1.counts
  unfold srcCountsOf
  rw [hc]

/-- The state that an edge leaves, beside its source's record and what the selector decides. -/
theorem edgeTaken_frame (s : State) (i : Source) (n : Nat) : AfterReshares
    { edgeCaptured s i n with
      timing := (edgeTaken s i n).timing
      clock := copiesOf (edgeTaken s i n) (edgeCaptured s i n).clock
      counts := srcCountsOf (edgeTaken s i n) s.counts } (edgeTaken s i n) := by
  by_cases h : (s.timing.sources.get i).state = .off
  · rw [edgeTaken_off h]
    exact (Shared.refl _).1
  by_cases hi : HeldInCheck s i ∨ s.clock.oscBad = true
  · rw [edgeTaken_ignored h hi]
    exact (Shared.refl _).1
  · have hs := edgeTaken_shared (n := n) h hi
    have hc := srcCountsOf_eq hs
    have e : srcCountsOf (edgeTaken s i n) s.counts =
        judgedCounts s.counts i (s.timing.sources.get i).state (edgeJudged s i n) := hc
    rw [e]
    exact hs.1

end Sys2Proof.Machine
end

section
/-! SUPPORT. Diverted edges, as the test sequencer takes them (R72, R169, R170), and the counts of captures. -/

namespace Sys2Proof.Machine

/-! ## The counts of captures -/

section
variable {s : State} {i : Source} {n : Nat}

theorem edgeTaken_counts_off (h : (s.timing.sources.get i).state = .off) :
    (edgeTaken s i n).counts = s.counts := by
  have e := congrArg State.counts (edgeTaken_off (n := n) h)
  exact e

theorem edgeTaken_counts_ignored (h : (s.timing.sources.get i).state ≠ .off)
    (hi : HeldInCheck s i ∨ s.clock.oscBad = true) : (edgeTaken s i n).counts =
      { s.counts with srcIgnored := s.counts.srcIgnored.put i (bump (s.counts.srcIgnored.get i)) } := by
  have e := congrArg State.counts (edgeTaken_ignored (n := n) h hi)
  exact e

section
variable (h : (s.timing.sources.get i).state ≠ .off) (hi : ¬(HeldInCheck s i ∨ s.clock.oscBad = true))
include h hi

theorem edgeTaken_counts : srcCountsOf (edgeTaken s i n) s.counts =
    judgedCounts s.counts i (s.timing.sources.get i).state (edgeJudged s i n) :=
  srcCountsOf_eq (edgeTaken_shared h hi)

theorem edgeTaken_srcIgnored : (edgeTaken s i n).counts.srcIgnored = s.counts.srcIgnored := by
  have e := congrArg Counters.srcIgnored (edgeTaken_counts (n := n) h hi)
  exact e

theorem edgeTaken_srcGood : (edgeTaken s i n).counts.srcGood =
    if (s.timing.sources.get i).state ≠ .check ∧ edgeJudged s i n = .good then
      s.counts.srcGood.put i (bump (s.counts.srcGood.get i)) else s.counts.srcGood :=
  congrArg Counters.srcGood (edgeTaken_counts (n := n) h hi)

theorem edgeTaken_srcBad : (edgeTaken s i n).counts.srcBad =
    if (s.timing.sources.get i).state ≠ .check ∧ edgeJudged s i n = .bad then
      s.counts.srcBad.put i (bump (s.counts.srcBad.get i)) else s.counts.srcBad :=
  congrArg Counters.srcBad (edgeTaken_counts (n := n) h hi)

end

theorem edgeTaken_unjudged (h : (s.timing.sources.get i).state = .off ∨ (HeldInCheck s i ∨ s.clock.oscBad = true)
      ∨ (s.timing.sources.get i).state = .check ∨ edgeInterval s i n = none) :
    (edgeTaken s i n).counts.srcGood = s.counts.srcGood ∧ (edgeTaken s i n).counts.srcBad = s.counts.srcBad := by
  by_cases ho : (s.timing.sources.get i).state = .off
  · rw [edgeTaken_counts_off ho]
    exact ⟨rfl, rfl⟩
  by_cases hi : HeldInCheck s i ∨ s.clock.oscBad = true
  · rw [edgeTaken_counts_ignored ho hi]
    exact ⟨rfl, rfl⟩
  have hj : (s.timing.sources.get i).state = .check ∨ edgeJudged s i n = .noInterval := by
    rcases h with h | h | h | h
    · exact absurd h ho
    · exact absurd h hi
    · exact .inl h
    · refine .inr ?_
      unfold edgeJudged
      rw [h]
      rfl
  rw [edgeTaken_srcGood ho hi, edgeTaken_srcBad ho hi]
  rcases hj with hj | hj
  · exact ⟨if_neg fun k => k.1 hj, if_neg fun k => k.1 hj⟩
  · rw [hj]
    exact ⟨if_neg (fun k => absurd k.2 (by decide)), if_neg (fun k => absurd k.2 (by decide))⟩

end

/-! ## Diverted edges -/

/-- The diverted edge is the clock's last. -/
def divertedEdge (s : State) (d : EdgeDir) (n : Nat) : State :=
  { s with clock := { s.clock.advance n with lastDiverted := some (edgeTime s n, d) } }

theorem ppsEdge_diverted {s : State} (h : s.clock.divert.isSome) (d : EdgeDir) (n : Nat) :
    ppsEdge s .aux d n = testEdge (divertedEdge s d n) d (edgeTime s n) := by
  unfold ppsEdge
  refine if_pos ⟨rfl, ?_⟩
  rw [show (s.onClock fun k => k.advance n).clock.divert = s.clock.divert from advance_divert _ _]
  exact h

theorem isLeading_iff (p : PulsePolarity) (d : EdgeDir) :
    isLeading p d = true ↔ p = .activeHigh ∧ d = .rise ∨ p = .activeLow ∧ d = .fall := by
  cases p <;> cases d <;> decide

section
variable {m : PulseMeasure} {d : EdgeDir} (t : SiteTime)

theorem edge_leading (h : isLeading m.polarity d = true) :
    m.edge d t = { m with watch := some 2000, lead := some (t, offsetOf t) } := by
  unfold PulseMeasure.edge
  dsimp only
  rw [h]

section
variable (h : isLeading m.polarity d = false)
include h

theorem edge_stray (hl : m.lead = none) : m.edge d t = { m with watch := some 2000, lead := none } := by
  unfold PulseMeasure.edge
  dsimp only
  rw [h, hl]

theorem edge_trailing {a : SiteTime} {x : Int} (hl : m.lead = some (a, x)) : m.edge d t =
    { m with
      watch := some 2000, lead := none, count := m.count + 1, sum := m.sum + nsBetween a t
      largest := max m.largest x.natAbs } := by
  unfold PulseMeasure.edge
  dsimp only
  rw [h, hl]

end

end

/-- The mean width of the pulses measured. -/
def meanOf (m : PulseMeasure) : Int := m.sum / m.count / 10 * 10

theorem meanWidth_some {m : PulseMeasure} (h : m.count ≠ 0) : meanWidth m = some (meanOf m) := if_neg h

theorem pulseResults_some {m : PulseMeasure} (h : m.count ≠ 0) :
    pulseResults m = .pulse m.count (some (meanOf m)) (some m.largest) := by
  unfold pulseResults
  rw [meanWidth_some h, if_neg h]

theorem pulseVerdict_iff {m : PulseMeasure} (h : m.count ≠ 0) (tol limit : Nat) : pulseVerdict m tol limit = true ↔
    (meanOf m - (m.width * 1000000 : Nat)).natAbs ≤ tol * 1000000 ∧ m.largest ≤ limit := by
  unfold pulseVerdict
  rw [meanWidth_some h]
  dsimp only
  rw [Bool.and_eq_true, decide_eq_true_iff, decide_eq_true_iff]

section
variable {s : State} {q : TestRec} {m : PulseMeasure} {count tol limit : Nat} (d : EdgeDir) (t : SiteTime)

theorem testEdge_idle (h : s.tests.pulse = none) : testEdge s d t = s := by
  unfold testEdge
  rw [h]
  cases s.tests.current <;> rfl

section
variable (hm : Measuring s q .pulse) (hq : q.params = .pulse count tol limit) (hp : s.tests.pulse = some m)
include hm hq hp

theorem testEdge_measuring : testEdge s d t =
    if count ≤ (m.edge d t).count then
      endMeasurement (s.onTests fun k => { k with pulse := some (m.edge d t) })
        (if pulseVerdict (m.edge d t) tol limit then .pass else .fail)
        (if pulseVerdict (m.edge d t) tol limit then none else some .limit) (pulseResults (m.edge d t))
    else s.onTests fun k => { k with pulse := some (m.edge d t) } := by
  unfold testEdge
  rw [hm.1, hp]
  dsimp only
  rw [hq]

theorem testEdge_counts (h : (m.edge d t).count < count) :
    testEdge s d t = { s with tests := { s.tests with pulse := some (m.edge d t) } } := by
  rw [testEdge_measuring d t hm hq hp]
  exact if_neg (Nat.not_le.2 h)

theorem testEdge_ends (h1 : 1 ≤ count) (h : count ≤ (m.edge d t).count) : testEdge s d t = measured s { q with
    pending := some (if (meanOf (m.edge d t) - ((m.edge d t).width * 1000000 : Nat)).natAbs ≤ tol * 1000000
        ∧ (m.edge d t).largest ≤ limit then (.pass, none) else (.fail, some .limit))
    results := some (.pulse (m.edge d t).count (some (meanOf (m.edge d t))) (some (m.edge d t).largest)) } := by
  have h0 : (m.edge d t).count ≠ 0 := Nat.ne_of_gt (Nat.lt_of_lt_of_le h1 h)
  rw [testEdge_measuring d t hm hq hp, if_pos h]
  obtain ⟨hc, -, hr, hn⟩ := hm
  rw [endMeasurement_running (s := s.onTests fun k => { k with pulse := some (m.edge d t) }) hc hr hn,
    pulseResults_some h0]
  by_cases hv : (meanOf (m.edge d t) - ((m.edge d t).width * 1000000 : Nat)).natAbs ≤ tol * 1000000
      ∧ (m.edge d t).largest ≤ limit
  · rw [if_pos hv, (pulseVerdict_iff h0 _ _).2 hv]
    rfl
  · have hf : pulseVerdict (m.edge d t) tol limit = false := by
      rw [← Bool.not_eq_true, pulseVerdict_iff h0]
      exact hv
    rw [if_neg hv, hf]
    rfl

end

end

end Sys2Proof.Machine
end

section
/-! SUPPORT. What a captured edge leaves, and O31. -/

namespace Sys2Proof.Machine

theorem edgeTaken_captures (s : State) (i : Source) (n : Nat) : (edgeTaken s i n).clock.captures =
    (s.clock.advance n).captures.put i {
      last := some (edgeTime s n), interval := edgeInterval s i n, coarse := s.clock.oscBad, elapsed := 0 } := by
  have h := (edgeTaken_frame s i n).clock
  have e := congrArg Clock.captures h
  exact e

theorem edgeTaken_timing_off {s : State} {i : Source} (n : Nat) (h : (s.timing.sources.get i).state = .off) :
    (edgeTaken s i n).timing = s.timing := by
  have e := congrArg State.timing (edgeTaken_off (n := n) h)
  exact e

theorem edgeTaken_timing_ignored {s : State} {i : Source} (n : Nat) (h : (s.timing.sources.get i).state ≠ .off)
    (hi : HeldInCheck s i ∨ s.clock.oscBad = true) : (edgeTaken s i n).timing = s.timing := by
  have e := congrArg State.timing (edgeTaken_ignored (n := n) h hi)
  exact e

end Sys2Proof.Machine

open Sys2Proof Sys2Proof.Machine

/-- Settles O31. -/
theorem edgesCaptured : Obligations.EdgesCaptured := by
  intro s i n hr k now iv early passes r g x ignored good bad bumped
  have hgood : good ↔ edgeJudged s i n = .good := (judge_good_iff _ _).symm
  have hnot : ¬good ↔ edgeJudged s i n ≠ .good := not_congr hgood
  have hbad : bad → edgeJudged s i n = .bad := fun h => judge_bad h.1 (hnot.1 h.2)
  refine ⟨fun he hp hy => ?_, fun he hp hy => ?_, fun he ha hd hc => ?_, fun he hd => ?_, fun hd => ?_,
    fun d ha hd => ?_⟩
  · have hx : ppsEdge s i .rise n = edgeTaken s i n := (ppsEdge_passes he hp).trans (captureEdge_taken hy)
    have hcap := edgeTaken_captures s i n
    refine ⟨edgeTaken s i n, lives hr hx, ?_, fun j hj => ?_, ?_, fun ho => ?_, fun ho hi => ?_, fun h => ?_,
      fun ho hi => ?_⟩
    · rw [hcap, PerSource.get_put_same]
      rfl
    · rw [hcap, PerSource.get_put_other _ _ hj]
    · have hf := edgeTaken_frame s i n
      rw [hcap]
      exact hf
    · exact ⟨edgeTaken_timing_off n ho, by rw [edgeTaken_counts_off ho]⟩
    · exact ⟨edgeTaken_timing_ignored n ho hi, by rw [edgeTaken_counts_ignored ho hi]⟩
    · exact edgeTaken_unjudged h
    · intro fresh kept used anchor
      have ht := edgeTaken_record (n := n) ho hi
      unfold edgeRecord at ht
      refine ⟨edgeTaken_srcIgnored ho hi, fun hk hg => ?_, fun hk hb => ?_, fun hk => ?_, fun hk hg => ?_,
        fun hk hg => ?_, fun hk hg => ?_, fun hk hg hn => ?_, fun a hk hg hn => ?_, fun hk hg => ?_,
        fun hk hg hl => ?_, fun hk hg hl => ?_⟩
      · rw [edgeTaken_srcGood ho hi, edgeTaken_srcBad ho hi, hgood.1 hg]
        exact ⟨if_pos ⟨hk, rfl⟩, if_neg fun c => absurd c.2 (by decide)⟩
      · rw [edgeTaken_srcGood ho hi, edgeTaken_srcBad ho hi, hbad hb]
        exact ⟨if_neg fun c => absurd c.2 (by decide), if_pos ⟨hk, rfl⟩⟩
      · rw [captured_check hk] at ht
        exact ht
      · rw [captured_failed_good hk (hgood.1 hg)] at ht
        exact ht
      · rw [captured_failed_bad hk (hnot.1 hg)] at ht
        exact ht
      · rw [captured_qualifying_bad hk (hnot.1 hg)] at ht
        exact ht
      · rw [captured_qualifying_first hk (hgood.1 hg) hn] at ht
        exact ht
      · rw [captured_qualifying_step hk (hgood.1 hg) hn] at ht
        refine ⟨fun hl => ?_, fun hl hs => ?_, fun hl hs => ?_⟩
        · rw [if_neg (Nat.not_le.2 hl)] at ht
          exact ht
        · have hs : max a.max (offsetOf (edgeTime s n)) - min a.min (offsetOf (edgeTime s n))
              ≤ (s.cfg.sources.get i).stability := hs
          rw [if_pos hl, if_pos hs] at ht
          exact ht
        · have hs : ¬max a.max (offsetOf (edgeTime s n)) - min a.min (offsetOf (edgeTime s n))
              ≤ (s.cfg.sources.get i).stability := Int.not_le.2 hs
          rw [if_pos hl, if_neg hs] at ht
          exact ht
      · rw [captured_qualified_good hk (hgood.1 hg)] at ht
        exact ht
      · rw [captured_qualified_bad hk (hnot.1 hg), if_neg (Nat.not_le.2 hl)] at ht
        exact ht
      · rw [captured_qualified_bad hk (hnot.1 hg), if_pos hl] at ht
        exact ht
  · exact lives hr ((ppsEdge_passes he hp).trans (captureEdge_early hy))
  · subst ha
    exact lives hr (ppsEdge_held he hd hc)
  · exact lives hr (ppsEdge_disabled hd he)
  · exact lives hr (ppsEdge_fall hd)
  · subst ha
    have hx := ppsEdge_diverted hd d n
    refine ⟨fun hp => lives hr (hx.trans (testEdge_idle d _ hp)), fun q m count tol limit hm hq h1 hp => ?_⟩
    intro leads width taken mean within
    have hlead : isLeading m.polarity d = true ↔ leads := isLeading_iff _ _
    have htaken : m.edge d (edgeTime s n) = taken := by
      show _ = if leads then _ else _
      by_cases hl : leads
      · rw [if_pos hl]
        exact edge_leading _ (hlead.2 hl)
      · rw [if_neg hl]
        have hf : isLeading m.polarity d = false := by
          rw [← Bool.not_eq_true, hlead]
          exact hl
        cases hml : m.lead with
        | none => exact edge_stray _ hf hml
        | some p => exact edge_trailing _ hf hml
    have hm' : Measuring (divertedEdge s d n) q .pulse := hm
    refine ⟨fun hc => ?_, fun hc => ?_⟩
    · rw [← htaken] at hc ⊢
      exact lives hr (hx.trans (testEdge_counts d _ hm' hq hp hc))
    · have hend := testEdge_ends d _ hm' hq hp h1 (htaken ▸ hc)
      rw [htaken] at hend
      exact lives hr (hx.trans hend)

end

section
/-! SUPPORT. The oscillator check (R66, R67, R96) and the passage of counting to the RC clock (R63). -/

namespace Sys2Proof.Machine

/-! ## OSC_BAD sets -/

/-- The timing as OSC_BAD sets, before bound and grade follow. -/
def oscLost (t : Timing) : Timing :=
  { { t with oscCopy := true }.applyForce.toFreerun with selected := none, jumpReq := none }

/-- OSC_BAD has set, but for the end of the event. -/
def oscMarked (s : State) : State :=
  { s with
    timing := oscLost s.timing
    clock := { s.clock with jump := if s.timing.jumpReq.isSome then none else s.clock.jump } }

theorem timingOscSet_eq (s : State) : timingOscSet s =
    timingCommit (oscMarked s) s.timing { source := "OSC", select := "LOSS", state := "OSC", jump := "OSC" } := by
  have hk : oscMarked s = (s.onTiming fun _ => oscLost s.timing).onClock fun k =>
      if s.timing.jumpReq.isSome then { k with jump := none } else k := by
    unfold oscMarked State.onClock
    cases s.timing.jumpReq <;> rfl
  rw [hk]
  rfl

theorem timingOscSet_shared (s : State) : Shared (committed (oscMarked s)) (timingOscSet s) := by
  rw [timingOscSet_eq]
  exact timingCommit_committed _ _ _

section
variable (cfg : Settings) (t : Timing)

theorem oscLost_copy : { t with oscCopy := true }.applyForce.oscCopy = true := (applyForce_fields _).2.2.1

theorem oscLost_grade : ((oscLost t).regrade cfg).grade = .oscFail := by
  show (if (oscLost t).oscCopy then Grade.oscFail else _) = _
  exact if_pos (oscLost_copy t)

theorem oscLost_source (i : Source) : ((oscLost t).sources.get i).state =
    if (t.sources.get i).state = .off then .off else .check := by
  show (({ t with oscCopy := true }.applyForce).sources.get i).state = _
  have hf : ({ t with oscCopy := true } : Timing).forced i = true := by
    unfold Timing.forced
    rw [Bool.or_true]
  rw [applyForce_get, hf]
  by_cases h : (t.sources.get i).state = .off
  · rw [if_pos h, if_neg fun k => k.2 h, h]
  · rw [if_neg h, if_pos ⟨rfl, h⟩]
    rfl

end

/-! ## A window, by its cases -/

/-- The LO count of a window (R66). -/
def windowCount (n : Nat) : Nat := min 65535 (n / 1024)

/-- The window has been counted. -/
def windowSeen (s : State) (n : Nat) : State :=
  { s with clock := { s.clock with lastWindow := some (windowCount n), windowRc := 0, windowLo := 0 } }

/-- The window has moved the run of good windows to `r`. -/
def windowRun (s : State) (n r : Nat) : State := (windowSeen s n).onClock fun k => { k with goodRun := r }

section
variable {s : State} {n : Nat}

theorem oscWindow_eq (s : State) (n : Nat) : oscWindow s n =
    if s.clock.oscBad = true then
      if 1100 ≤ windowCount n ∧ windowCount n ≤ 1350 then
        if 8 ≤ s.clock.goodRun + 1 then oscClear (windowRun s n (min 8 (s.clock.goodRun + 1)))
        else windowRun s n (min 8 (s.clock.goodRun + 1))
      else windowRun s n 0
    else if windowCount n < 1000 ∨ 1450 < windowCount n then oscSet (windowSeen s n) (windowCount n)
    else windowSeen s n := rfl

theorem oscWindow_sets (h : s.clock.oscBad = false) (hc : windowCount n < 1000 ∨ 1450 < windowCount n) :
    oscWindow s n = oscSet (windowSeen s n) (windowCount n) := by
  rw [oscWindow_eq, if_neg (by rw [h]; decide), if_pos hc]

theorem oscWindow_stays (h : s.clock.oscBad = false) (h1 : 1000 ≤ windowCount n) (h2 : windowCount n ≤ 1450) :
    oscWindow s n = windowSeen s n := by
  rw [oscWindow_eq, if_neg (by rw [h]; decide), if_neg (by omega)]

theorem oscWindow_resets (h : s.clock.oscBad = true) (hc : windowCount n < 1100 ∨ 1350 < windowCount n) :
    oscWindow s n = windowRun s n 0 := by
  rw [oscWindow_eq, if_pos h, if_neg (by omega)]

section
variable (h : s.clock.oscBad = true) (h1 : 1100 ≤ windowCount n) (h2 : windowCount n ≤ 1350)
include h h1 h2

theorem oscWindow_clears (hg : s.clock.goodRun = 7) : oscWindow s n = oscClear (windowRun s n 8) := by
  rw [oscWindow_eq, if_pos h, if_pos ⟨h1, h2⟩, if_pos (by omega), Nat.min_eq_left (by omega)]

theorem oscWindow_runs (hg : s.clock.goodRun < 7) : oscWindow s n = windowRun s n (s.clock.goodRun + 1) := by
  rw [oscWindow_eq, if_pos h, if_pos ⟨h1, h2⟩, if_neg (by omega), Nat.min_eq_right (by omega)]

end

end

/-! ## The RC cycle at which counting passes -/

theorem rcCycleAt_le (n k : Nat) : rcCycleAt n ≤ k ↔ n ≤ rcReading k := by
  unfold rcCycleAt rcReading secondNs
  omega

section
variable {s : State}

/-- Counting has passed to the RC clock. -/
def passed (s : State) : State := { s with clock := { s.clock with passing := false, ahead := 0 } }

theorem passToRc_within {k : Nat} (hk : rcCycleAt s.clock.ns = k) (h : k < 32768) : passToRc s =
    { s with clock := { s.clock with passing := false, ahead := 0, rcCycle := k, ns := rcReading k } } := by
  unfold passToRc
  dsimp only
  rw [hk]
  exact if_pos h

theorem passToRc_past (h : 32768 ≤ rcCycleAt s.clock.ns) : passToRc s = boundary (passed s) := by
  unfold passToRc
  exact if_neg (Nat.not_lt.2 h)

theorem clockEdge_counting (h : s.clock.passing = false) : clockEdge s = s := by
  unfold clockEdge
  rw [h]
  rfl

/-- The edge brings no steering point where the reading does not pass it. -/
theorem clockEdge_quiet (h : s.clock.passing = true) {t : State} (ht : settle (passToRc s) = t)
    (hn : steers s.clock.ns t.clock.ns = false) : clockEdge s = t := by
  unfold clockEdge
  rw [h]
  dsimp only
  rw [ht, hn]
  rfl

end

end Sys2Proof.Machine
end

section
/-! SUPPORT. What OSC_BAD leaves where it sets and where it clears, and O30. -/

namespace Sys2Proof.Machine

/-- The clock as OSC_BAD sets. -/
def oscBegun (s : State) : State :=
  { s with
    clock := { s.clock with
      oscBad := true, passing := true, goodRun := 0, startHold := none, ppsActive := false, pulseLeft := none
      squelched := true }
    counts := { s.counts with oscFails := bump s.counts.oscFails } }

theorem oscSet_shared (s : State) (c : Nat) : Shared (committed (oscMarked (oscBegun s))) (oscSet s c) :=
  (timingOscSet_shared (oscBegun s)).trans (noticeBoth_noticed _ _ _ _).shared

/-- The clock as OSC_BAD clears. -/
def oscEnded (s : State) : State :=
  { s with
    clock := { s.clock with oscBad := false, passing := false, rcCycle := 0 }
    timing := { s.timing with oscCopy := false } }

theorem oscClear_shared (s : State) : Shared (committed (oscEnded s)) (oscClear s) :=
  (timingCommit_committed (oscEnded s) _ _).trans (noticeBoth_noticed _ _ _ _).shared

/-! ## The state after the event -/

/-- The end of an event leaves the timing selector's block, and the clock's copies of its state and grade. -/
theorem committed_frame {u t : State} (h : Shared (committed u) t) : AfterReshares
    { u with
      timing := t.timing, clock := { u.clock with tstate := t.clock.tstate, grade := t.clock.grade } } t := by
  have ht := h.1.timing
  have h1 : t.clock.tstate = (committed u).clock.tstate := by rw [h.1.clock]
  have h2 : t.clock.grade = (committed u).clock.grade := by rw [h.1.clock]
  rw [ht, h1, h2]
  exact h.1

section
variable (s : State) (c : Nat)

theorem oscSet_timing : (oscSet s c).timing = (oscLost s.timing).regrade s.cfg := (oscSet_shared s c).1.timing

theorem oscSet_copies :
    (oscSet s c).clock.tstate = .freerun ∧ (oscSet s c).clock.grade = .oscFail := by
  have h := (oscSet_shared s c).1.clock
  have hg : (committed (oscMarked (oscBegun s))).clock.grade = .oscFail := oscLost_grade _ _
  have ht : (committed (oscMarked (oscBegun s))).clock.tstate = .freerun := rfl
  generalize committed (oscMarked (oscBegun s)) = u at h hg ht
  rw [h]
  exact ⟨ht, hg⟩

theorem oscSet_frame : AfterReshares
    { s with
      clock := { s.clock with
        oscBad := true, passing := true, goodRun := 0, startHold := none, ppsActive := false, pulseLeft := none
        squelched := true, jump := if s.timing.jumpReq.isSome then none else s.clock.jump, tstate := .freerun
        grade := .oscFail }
      timing := (oscSet s c).timing
      counts := { s.counts with oscFails := bump s.counts.oscFails } } (oscSet s c) := by
  have h := committed_frame (oscSet_shared s c)
  rw [(oscSet_copies s c).1, (oscSet_copies s c).2] at h
  exact h

end

theorem oscClear_frame (s : State) : AfterReshares
    { s with
      clock := { s.clock with
        oscBad := false, passing := false, rcCycle := 0
        tstate := (oscClear s).clock.tstate, grade := (oscClear s).clock.grade }
      timing := (oscClear s).timing } (oscClear s) := committed_frame (oscClear_shared s)

theorem oscClear_copy (s : State) : (oscClear s).timing.oscCopy = false := by
  rw [(oscClear_shared s).1.timing]
  rfl

section
variable {s : State} (h : s.clock.passing = true)
include h

/-- Counting passes within the second, before its steering point or past it. -/
theorem clockEdge_within (hs : s.signals = []) {k : Nat} (hk : rcCycleAt s.clock.ns = k) (hl : k < 32768)
    (hq : 600000000 ≤ s.clock.ns ∨ rcReading k < 600000000) : clockEdge s =
      { s with clock := { s.clock with passing := false, ahead := 0, rcCycle := k, ns := rcReading k } } := by
  refine clockEdge_quiet h ?_ ?_
  · rw [passToRc_within hk hl]
    exact settle_none _ hs
  · show (decide (s.clock.ns < steeringNs) && decide (steeringNs ≤ rcReading k)) = false
    rw [Bool.and_eq_false_iff, decide_eq_false_iff_not, decide_eq_false_iff_not, Nat.not_lt, Nat.not_le]
    exact hq

end

theorem rcCycleAt_eq {n k : Nat} (hk : n ≤ rcReading k) (hl : ∀ j, j < k → rcReading j < n) : rcCycleAt n = k := by
  refine Nat.le_antisymm ((rcCycleAt_le n k).2 hk) (Nat.le_of_not_lt fun h => ?_)
  exact absurd ((rcCycleAt_le n _).1 (Nat.le_refl _)) (Nat.not_le.2 (hl _ h))

end Sys2Proof.Machine

open Sys2Proof Sys2Proof.Machine

/-- Settles O30. -/
theorem oscillatorChecked : Obligations.OscillatorChecked := by
  refine ⟨fun s n hr => ?_, fun s hp hs => ?_, fun s hp => clockEdge_counting hp⟩
  · intro count seen
    refine ⟨fun h hc => ?_, fun h h1 h2 hg => ?_, fun h h1 h2 hg => ?_, fun h hc => ?_, fun h h1 h2 => ?_⟩
    · have ht := oscSet_timing (windowSeen s n) (windowCount n)
      refine ⟨oscSet (windowSeen s n) (windowCount n), lives hr (oscWindow_sets h hc), ?_, ?_, ?_, ?_, ?_, fun i => ?_,
        oscSet_frame (windowSeen s n) (windowCount n)⟩
      · rw [ht]
        exact oscLost_grade _ _
      · rw [ht]
        rfl
      · rw [ht]
        rfl
      · rw [ht]
        rfl
      · rw [ht]
        rfl
      · rw [ht]
        exact oscLost_source _ i
    · exact ⟨oscClear (windowRun s n 8), lives hr (oscWindow_clears h h1 h2 hg), oscClear_copy _,
        oscClear_frame (windowRun s n 8)⟩
    · exact lives hr (oscWindow_runs h h1 h2 hg)
    · exact lives hr (oscWindow_resets h hc)
    · exact lives hr (oscWindow_stays h h1 h2)
  · intro reading
    refine ⟨fun k hl hk hb hq => clockEdge_within hp hs (rcCycleAt_eq hk hb) hl hq, fun hb => passToRc_past ?_⟩
    by_contra hn
    exact absurd ((rcCycleAt_le _ _).1 (Nat.le_refl _)) (Nat.not_le.2 (hb _ (Nat.not_le.1 hn)))

end

section
/-! SUPPORT. Steering points (R90 to R92, R100). -/

namespace Sys2Proof.Machine

/-- The timing `v`, with the commands for the site clock. -/
def steered (s : State) (v : Timing) (steer jump : Option Int) : State :=
  { s with timing := v, clock := { s.clock with steer := steer, jump := jump } }

/-- Every fresh capture is used up. -/
def freshUsed (w : State) : State :=
  w.onTiming fun t => { t with sources := t.sources.map fun r => { r with fresh := none } }

/-- A steering point that leaves `w`, but for the fresh captures and the end of the event. -/
def steeringEnd (s w : State) : State :=
  timingCommit (freshUsed w) s.timing
    { source := "CAPTURE", select := "LOSS", state := if s.timing.state = .locking then "LOCK" else "UNLOCK", jump := "" }

section
variable {s : State}

theorem timingSteering_idle (h : ∀ i, s.timing.selected = some i → (s.timing.sources.get i).fresh = none) :
    timingSteering s = steeringEnd s s := by
  unfold timingSteering
  dsimp only
  cases hs : s.timing.selected with
  | none => rfl
  | some i =>
    dsimp only
    rw [h i hs]
    rfl

section
variable {i : Source} {x : Int} (hs : s.timing.selected = some i) (hx : (s.timing.sources.get i).fresh = some x)
include hs hx

theorem timingSteering_fresh : timingSteering s = steeringEnd s (steerTo s i x) := by
  unfold timingSteering
  dsimp only
  rw [hs]
  dsimp only
  rw [hx]
  rfl

end

/-! ## The steer, by the timing state -/

section
variable (i : Source) (x : Int)

theorem steerTo_free (h : s.timing.state = .freerun ∨ s.timing.state = .holdover) : steerTo s i x = s := by
  unfold steerTo
  rcases h with h | h <;> rw [h]

theorem steerTo_repeats {j : JumpRequest} (h : s.timing.state = .locking) (hj : s.timing.jumpReq = some j)
    (hx : j.amount = -x) : steerTo s i x = s := by
  unfold steerTo
  rw [h, hj]
  exact if_pos hx

theorem steerTo_amends {j : JumpRequest} (h : s.timing.state = .locking) (hj : s.timing.jumpReq = some j)
    (hx : j.amount ≠ -x) : steerTo s i x =
      steered s { s.timing with jumpReq := some { amount := -x, source := j.source }, lastJump := some (-x) }
        s.clock.steer (some (-x)) := by
  unfold steerTo
  rw [h, hj]
  exact if_neg hx

/-- The run of fresh captures within the window, after one more. -/
def lockRunAfter (s : State) (x : Int) : Nat :=
  if x.natAbs ≤ s.cfg.timing.window then min 60 (s.timing.lockRun + 1) else 0

/-- The run of fresh captures outside the window, after one more. -/
def unlockRunAfter (s : State) (x : Int) : Nat :=
  if s.cfg.timing.window < x.natAbs then min 60 (s.timing.unlockRun + 1) else 0

/-- The steer against an offset. -/
def steerAgainst (s : State) (x : Int) : Int := max (-(s.cfg.timing.slew : Int)) (min s.cfg.timing.slew (-x))

theorem steerTo_raises (h : s.timing.state = .locking) (hj : s.timing.jumpReq = none)
    (hx : s.cfg.timing.jump < x.natAbs) : Noticed
      (steered s { s.timing with
          lockRun := 0, jumpReq := some { amount := -x, source := i }, lastJump := some (-x) } s.clock.steer
        (some (-x))) (steerTo s i x) := by
  have e : steerTo s i x = raiseJump s i x := by
    unfold steerTo
    rw [h, hj]
    exact if_pos hx
  rw [e]
  exact noticeBoth_noticed _ _ _ _

theorem lockStep_locks {g : TimingSettings} {t : Timing} {x : Int} {n : Nat}
    (hn : n = if x.natAbs ≤ g.window then min 60 (t.lockRun + 1) else 0) (h : g.lockcount ≤ n) :
    lockStep g t x = { t with lockRun := n, state := .locked, everLocked := true, unlockRun := 0 } := by
  subst hn
  exact if_pos h

theorem lockStep_runs {g : TimingSettings} {t : Timing} {x : Int} {n : Nat}
    (hn : n = if x.natAbs ≤ g.window then min 60 (t.lockRun + 1) else 0) (h : n < g.lockcount) :
    lockStep g t x = { t with lockRun := n } := by
  subst hn
  exact if_neg (Nat.not_le.2 h)

theorem unlockStep_unlocks {g : TimingSettings} {t : Timing} {x : Int} {n : Nat}
    (hn : n = if g.window < x.natAbs then min 60 (t.unlockRun + 1) else 0) (h : g.lockcount ≤ n) :
    unlockStep g t x = { t with unlockRun := n, state := .locking, lockRun := 0 } := by
  subst hn
  exact if_pos h

theorem unlockStep_slips {g : TimingSettings} {t : Timing} {x : Int} {n : Nat}
    (hn : n = if g.window < x.natAbs then min 60 (t.unlockRun + 1) else 0) (h : n < g.lockcount) :
    unlockStep g t x = { t with unlockRun := n } := by
  subst hn
  exact if_neg (Nat.not_le.2 h)

section
variable (h : s.timing.state = .locking) (hj : s.timing.jumpReq = none) (hx : x.natAbs ≤ s.cfg.timing.jump)
include h hj hx

theorem steerTo_locking : steerTo s i x =
    (handSteer s (steerAgainst s x)).onTiming fun t => lockStep s.cfg.timing t x := by
  unfold steerTo
  rw [h, hj]
  exact if_neg (Nat.not_lt.2 hx)

theorem steerTo_locks (hl : s.cfg.timing.lockcount ≤ lockRunAfter s x) : steerTo s i x =
    steered s { s.timing with
        handed := some (steerAgainst s x), lockRun := lockRunAfter s x, state := .locked, everLocked := true
        unlockRun := 0 } (some (steerAgainst s x)) s.clock.jump := by
  rw [steerTo_locking i x h hj hx]
  unfold State.onTiming
  dsimp only
  rw [lockStep_locks (t := (handSteer s (steerAgainst s x)).timing) (n := lockRunAfter s x) rfl hl]
  rfl

theorem steerTo_runs (hl : lockRunAfter s x < s.cfg.timing.lockcount) : steerTo s i x =
    steered s { s.timing with handed := some (steerAgainst s x), lockRun := lockRunAfter s x }
      (some (steerAgainst s x)) s.clock.jump := by
  rw [steerTo_locking i x h hj hx]
  unfold State.onTiming
  dsimp only
  rw [lockStep_runs (t := (handSteer s (steerAgainst s x)).timing) (n := lockRunAfter s x) rfl hl]
  rfl

end

section
variable (h : s.timing.state = .locked)
include h

theorem steerTo_locked : steerTo s i x =
    (handSteer s (steerAgainst s x)).onTiming fun t => unlockStep s.cfg.timing t x := by
  unfold steerTo
  rw [h]
  rfl

theorem steerTo_unlocks (hl : s.cfg.timing.lockcount ≤ unlockRunAfter s x) : steerTo s i x =
    steered s { s.timing with
        handed := some (steerAgainst s x), unlockRun := unlockRunAfter s x, state := .locking, lockRun := 0 }
      (some (steerAgainst s x)) s.clock.jump := by
  rw [steerTo_locked i x h]
  unfold State.onTiming
  dsimp only
  rw [unlockStep_unlocks (t := (handSteer s (steerAgainst s x)).timing) (n := unlockRunAfter s x) rfl hl]
  rfl

theorem steerTo_slips (hl : unlockRunAfter s x < s.cfg.timing.lockcount) : steerTo s i x =
    steered s { s.timing with handed := some (steerAgainst s x), unlockRun := unlockRunAfter s x }
      (some (steerAgainst s x)) s.clock.jump := by
  rw [steerTo_locked i x h]
  unfold State.onTiming
  dsimp only
  rw [unlockStep_slips (t := (handSteer s (steerAgainst s x)).timing) (n := unlockRunAfter s x) rfl hl]
  rfl

end

end

/-! ## What the steering point leaves -/

/-- The steering point has left the timing `v` and the commands given. -/
structure SteerLeaves (s t : State) (v : Timing) (steer jump : Option Int) : Prop where
  timing : t.timing = { v with
    sources := v.sources.map fun r => { r with fresh := none }, bound := t.timing.bound, grade := t.timing.grade }
  clock : t.clock = { s.clock with
    steer := steer, jump := jump, tstate := v.state, grade := t.timing.grade, permitted := t.clock.permitted }
  frame : AfterReshares { s with clock := t.clock, timing := t.timing } t
  graded : BoundAndGrade t

theorem freshUsed_noticed {u w : State} (h : Noticed u w) : Noticed (freshUsed u) (freshUsed w) := by
  have k := h.onTiming fun t => { t with sources := t.sources.map fun r => { r with fresh := none } }
  exact k

/-- What an event of the timing selector leaves, its block and the clock given. -/
theorem committed_sets {s t : State} {v : Timing} {k : Clock}
    (h : Shared (committed { s with timing := v, clock := k }) t) :
    t.timing = { v with bound := t.timing.bound, grade := t.timing.grade }
      ∧ t.clock = { k with tstate := v.state, grade := t.timing.grade, permitted := t.clock.permitted }
      ∧ AfterReshares { s with clock := t.clock, timing := t.timing } t ∧ BoundAndGrade t := by
  have ht : t.timing = v.regrade s.cfg := h.1.timing
  have hc : t.clock = { k with
      tstate := v.state, grade := (v.regrade s.cfg).grade, permitted := t.clock.permitted } := h.1.clock
  have hcfg : t.cfg = s.cfg := h.1.cfg
  refine ⟨by rw [ht]; rfl, by rw [ht]; exact hc, ?_, regrade_graded ht hcfg⟩
  have hp : AfterReshares { s with
      clock := { k with tstate := v.state, grade := (v.regrade s.cfg).grade, permitted := t.clock.permitted }
      timing := v.regrade s.cfg } t := h.1
  rw [← hc, ← ht] at hp
  exact hp

theorem Noticed.committed {u w : State} (h : Noticed u w) : Noticed (committed u) (committed w) := by
  refine ((h.onTiming fun t => t.regrade w.cfg).onClock fun k =>
    { k with tstate := w.timing.state, grade := (w.timing.regrade w.cfg).grade }).congr ?_ rfl
  rw [h.cfg, h.timing]
  rfl

theorem steeringEnd_leaves {s w : State} {v : Timing} {steer jump : Option Int}
    (h : Noticed (steered s v steer jump) w) : SteerLeaves s (steeringEnd s w) v steer jump := by
  have hs : Shared (committed (freshUsed (steered s v steer jump))) (steeringEnd s w) :=
    (freshUsed_noticed h).committed.shared.trans (timingCommit_committed _ _ _)
  obtain ⟨h1, h2, h3, h4⟩ := committed_sets (s := s) hs
  exact ⟨h1, h2, h3, h4⟩

theorem steeringEnd_jump {s w : State} (h : s.timing.jumpReq = none) (hw : w.timing.jumpReq.isSome) :
    (steeringEnd s w).share.jump = true := by
  unfold steeringEnd
  rw [timingCommit_jump, h, show (freshUsed w).timing.jumpReq = w.timing.jumpReq from rfl, hw]
  rfl

end

end Sys2Proof.Machine
end

section
/-! SUPPORT. What every steering point leaves, and O29. -/

namespace Sys2Proof.Machine

/-- The steps up to the steering point have passed. -/
def steeringAt (s : State) : State := { s with clock := s.clock.advance s.clock.stepsToSteering }

/-- What a steering point leaves of the clock and the timing selector. -/
theorem timingSteering_leaves {s : State} {v : Timing} {steer jump : Option Int} {w : State}
    (e : timingSteering s = steeringEnd s w) (h : Noticed (steered s v steer jump) w) :
    SteerLeaves s (timingSteering s) v steer jump := by
  rw [e]
  exact steeringEnd_leaves h

/-- The fresh capture is none of a selected source in LOCKING or LOCKED: nothing is steered. -/
theorem timingSteering_quiet {s : State} (h : s.timing.state = .freerun ∨ s.timing.state = .holdover
      ∨ ∀ i, s.timing.selected = some i → (s.timing.sources.get i).fresh = none) :
    SteerLeaves s (timingSteering s) s.timing s.clock.steer s.clock.jump := by
  refine timingSteering_leaves (w := s) ?_ (.refl s)
  by_cases hf : ∀ i, s.timing.selected = some i → (s.timing.sources.get i).fresh = none
  · exact timingSteering_idle hf
  · obtain ⟨i, hi⟩ := not_forall.1 hf
    obtain ⟨hs, hn⟩ := Classical.not_imp.1 hi
    obtain ⟨x, hx⟩ := Option.ne_none_iff_exists'.1 hn
    have hfree : s.timing.state = .freerun ∨ s.timing.state = .holdover :=
      (or_assoc.2 h).resolve_right hf
    rw [timingSteering_fresh hs hx, steerTo_free i x hfree]

theorem timingSteering_sets {s : State} {i : Source} {x : Int} {v : Timing} {steer jump : Option Int}
    (hs : s.timing.selected = some i) (hx : (s.timing.sources.get i).fresh = some x)
    (e : steerTo s i x = steered s v steer jump) : SteerLeaves s (timingSteering s) v steer jump := by
  refine timingSteering_leaves (timingSteering_fresh hs hx) ?_
  rw [e]
  exact .refl _

/-- A steering point leaves the frame of its event, whatever it steers. -/
theorem timingSteering_frame (s : State) : ∃ v a b, SteerLeaves s (timingSteering s) v a b := by
  by_cases hq : s.timing.state = .freerun ∨ s.timing.state = .holdover
      ∨ ∀ i, s.timing.selected = some i → (s.timing.sources.get i).fresh = none
  · exact ⟨_, _, _, timingSteering_quiet hq⟩
  rw [not_or, not_or] at hq
  obtain ⟨h1, h2, hf⟩ := hq
  obtain ⟨i, hi⟩ := not_forall.1 hf
  obtain ⟨hs, hn⟩ := Classical.not_imp.1 hi
  obtain ⟨x, hx⟩ := Option.ne_none_iff_exists'.1 hn
  have he := timingSteering_fresh hs hx
  have hsame {v : Timing} {a b : Option Int} (k : steerTo s i x = steered s v a b) :=
    timingSteering_sets hs hx k
  cases hst : s.timing.state with
  | freerun => exact absurd hst h1
  | holdover => exact absurd hst h2
  | locked =>
    rcases Nat.lt_or_ge (unlockRunAfter s x) s.cfg.timing.lockcount with hl | hl
    · exact ⟨_, _, _, hsame (steerTo_slips i x hst hl)⟩
    · exact ⟨_, _, _, hsame (steerTo_unlocks i x hst hl)⟩
  | locking =>
    cases hj : s.timing.jumpReq with
    | some j =>
      by_cases hja : j.amount = -x
      · exact ⟨_, _, _, hsame (v := s.timing) (steerTo_repeats i x hst hj hja)⟩
      · exact ⟨_, _, _, hsame (steerTo_amends i x hst hj hja)⟩
    | none =>
      rcases Nat.lt_or_ge s.cfg.timing.jump x.natAbs with hl | hl
      · exact ⟨_, _, _, timingSteering_leaves he (steerTo_raises i x hst hj hl)⟩
      · rcases Nat.lt_or_ge (lockRunAfter s x) s.cfg.timing.lockcount with hc | hc
        · exact ⟨_, _, _, hsame (steerTo_runs i x hst hj hl hc)⟩
        · exact ⟨_, _, _, hsame (steerTo_locks i x hst hj hl hc)⟩

end Sys2Proof.Machine

open Sys2Proof Sys2Proof.Machine

/-- Settles O29. -/
theorem steeringPointCorrects : Obligations.SteeringPointCorrects := by
  intro s hr k g τ
  obtain ⟨_, _, _, hfr⟩ := timingSteering_frame (steeringAt s)
  have hsame {v : Timing} {a b : Option Int} (h : SteerLeaves (steeringAt s) (timingSteering (steeringAt s)) v a b) :
      _ ∧ _ := ⟨h.timing, h.clock⟩
  refine ⟨timingSteering (steeringAt s), lives hr rfl, hfr.frame, hfr.graded, ?_⟩
  intro leaves
  refine ⟨fun h => hsame (timingSteering_quiet (s := steeringAt s) h), fun i x hs hx => ?_⟩
  intro c locks slips
  have he : timingSteering (steeringAt s) = steeringEnd (steeringAt s) (steerTo (steeringAt s) i x) :=
    timingSteering_fresh hs hx
  have hsteer {v : Timing} {a b : Option Int} (e : steerTo (steeringAt s) i x = steered (steeringAt s) v a b) :=
    hsame (timingSteering_sets hs hx e)
  refine ⟨fun hl hj hx => ⟨fun hc => ?_, fun hc => ?_⟩, fun hl hj hx => ⟨?_, ?_⟩, fun j hl hj => ⟨fun ha => ?_, fun ha => ?_⟩,
    fun hl => ⟨fun hc => ?_, fun hc => ?_⟩⟩
  · exact hsteer (steerTo_runs (s := steeringAt s) i x hl hj hx hc)
  · exact hsteer (steerTo_locks (s := steeringAt s) i x hl hj hx hc)
  · exact hsame (timingSteering_leaves he (steerTo_raises (s := steeringAt s) i x hl hj hx))
  · rw [he]
    exact steeringEnd_jump (s := steeringAt s) hj (by rw [(steerTo_raises (s := steeringAt s) i x hl hj hx).timing]; rfl)
  · exact hsteer (v := τ) (steerTo_repeats (s := steeringAt s) i x hl hj ha)
  · exact hsteer (steerTo_amends (s := steeringAt s) i x hl hj ha)
  · exact hsteer (steerTo_slips (s := steeringAt s) i x hl hc)
  · exact hsteer (steerTo_unlocks (s := steeringAt s) i x hl hc)

end

section
/-! SUPPORT. Second boundaries, as the timing selector takes them (R88, R89, R94, R101). -/

namespace Sys2Proof.Machine

/-! ## The selection at a boundary -/

/-- The source that a boundary finds to select. -/
def boundaryChoice (t : Timing) : Option Source :=
  match t.selected with
  | none => t.preferred
  | some i => if t.selectable i = false ∨ t.latch.revertive = true then t.preferred else some i

theorem reselect_boundary (t : Timing) : (t.reselect none true).1 = t.select (boundaryChoice t) := by
  unfold Timing.reselect boundaryChoice
  cases hs : t.selected with
  | none => rfl
  | some i =>
    dsimp only
    cases hi : t.selectable i
    · rw [if_pos (Or.inl rfl)]
      rfl
    · cases hr : t.latch.revertive
      · rw [if_neg (by decide)]
        exact (select_same hs.symm).symm
      · rw [if_pos (Or.inr rfl)]
        rfl

section
variable {t : Timing}

theorem boundaryChoice_first (h : t.selected = none) : boundaryChoice t = t.preferred := by
  unfold boundaryChoice
  rw [h]

theorem boundaryChoice_gives {j : Source} (h : t.selected = some j)
    (hj : t.selectable j = false ∨ t.latch.revertive = true) : boundaryChoice t = t.preferred := by
  unfold boundaryChoice
  rw [h]
  exact if_pos hj

theorem boundaryChoice_stays {j : Source} (h : t.selected = some j) (hs : t.selectable j = true)
    (hr : t.latch.revertive = false) : boundaryChoice t = some j := by
  unfold boundaryChoice
  rw [h]
  exact if_neg (by rw [hs, hr]; decide)

end

/-! ## The boundary's own changes -/

/-- The settings latched, the offsets moved, and the request of an applied jump gone. -/
def boundaryMoved (cfg : Settings) (t : Timing) (jumped : Bool) : Timing :=
  { t with
    latch := .of cfg, sources := t.sources.map fun r => r.move (correctionAt t jumped), handed := none
    jumpReq := if jumped then none else t.jumpReq
    lockRun := if jumped && t.jumpReq.isSome then 0 else t.lockRun
    lastJump := if (if jumped then none else t.jumpReq).isNone then none else t.lastJump }

/-- One more second of holdover, `n` in all. -/
def secondHeld (t : Timing) (n : Nat) : Timing :=
  match t.state, t.holdSecs with
  | .holdover, some _ => t.holdoverSecond n
  | _, _ => t

/-! ## The steps of the event -/

/-- The first steps: the settings latched, the offsets moved, the request of an applied jump gone. -/
def boundaryBegun (s : State) (jumped : Bool) : State :=
  let old := s.timing
  let s := s.onTiming fun t => { t with latch := .of s.cfg }
  let c := correctionAt old jumped
  let s := s.onTiming fun t => { t with sources := t.sources.map fun r => r.move c, handed := none }
  let s := if jumped && old.jumpReq.isSome then s.onTiming fun t => { t with jumpReq := none, lockRun := 0 } else s
  s.onTiming fun t => { t with lastJump := if t.jumpReq.isNone then none else t.lastJump }

theorem boundaryBegun_eq (s : State) (jumped : Bool) :
    boundaryBegun s jumped = { s with timing := boundaryMoved s.cfg s.timing jumped } := by
  unfold boundaryBegun boundaryMoved
  cases jumped with
  | false => rfl
  | true =>
    obtain ⟨_, _, _, _, _, _, ⟨_, _, _, _, _, _, _, _, _, _, jr, _, _, _, _, _⟩, _, _, _, _, _, _, _, _, _, _⟩ := s
    cases jr <;> rfl

/-- The count of the seconds of holdover. -/
def boundarySecond (s : State) : State :=
  match s.timing.state, s.timing.holdSecs with
  | .holdover, some n => (countOn s 0 n).1.onTiming fun t => t.holdoverSecond (countOn s 0 n).2
  | _, _ => s

theorem boundarySecond_eq (s : State) : ∃ n f, boundarySecond s = { s with timing := secondHeld s.timing n, free := f }
    ∧ ∀ m, s.timing.state = .holdover → s.timing.holdSecs = some m → m < 2 ^ 32 - 1 → n = m + 1 := by
  unfold boundarySecond secondHeld
  cases hs : s.timing.state with
  | holdover =>
    cases hn : s.timing.holdSecs with
    | none => exact ⟨0, s.free, rfl, fun _ _ h => nomatch h⟩
    | some m =>
      dsimp only
      unfold countOn
      by_cases hm : m < 2 ^ 32 - 1
      · refine ⟨m + 1, s.free, ?_, fun k _ hk _ => by rw [Option.some.inj hk]⟩
        rw [if_pos hm]
        rfl
      · rw [if_neg hm]
        exact ⟨_, _, rfl, fun k _ hk hl => absurd (Option.some.inj hk ▸ hl) hm⟩
  | freerun => exact ⟨0, s.free, rfl, fun m h => nomatch h⟩
  | locking => exact ⟨0, s.free, rfl, fun m h => nomatch h⟩
  | locked => exact ⟨0, s.free, rfl, fun m h => nomatch h⟩

/-- The last steps: the choice of a source, and the end of the event. -/
def boundaryEnded (old : Timing) (jumped : Bool) (s : State) : State :=
  let limit := decide (s.timing.state ≠ old.state)
  let r := s.timing.reselect none true
  let t := cancelOnReselect (s.onTiming fun _ => r.1) s.timing
  timingCommit t old
    { source := "CAPTURE", select := r.2
      state := if t.timing.selected ≠ old.selected then (if t.timing.selected.isSome then "SELECTED" else "LOSS")
        else if limit then "HOLDOVER_LIMIT" else "LOSS"
      jump := if jumped && old.jumpReq.isSome then "" else "RESELECT" }

theorem timingBoundary_eq (s : State) (jumped : Bool) :
    timingBoundary s jumped = boundaryEnded s.timing jumped (boundarySecond (boundaryBegun s jumped)) := rfl

theorem boundaryEnded_eq (old : Timing) (jumped : Bool) (s : State) : ∃ c, boundaryEnded old jumped s =
    timingCommit (jumpCancelled (s.onTiming fun _ => (s.timing.reselect none true).1) s.timing) old c := by
  unfold boundaryEnded
  dsimp only
  rw [cancelOnReselect_eq]
  exact ⟨_, rfl⟩

theorem secondHeld_selected (t : Timing) (n : Nat) : (secondHeld t n).selected = t.selected := by
  unfold secondHeld
  split
  · unfold Timing.holdoverSecond
    dsimp only
    split <;> rfl
  · rfl

theorem secondHeld_other {t : Timing} (h : t.state ≠ .holdover) (n : Nat) : secondHeld t n = t := by
  unfold secondHeld
  split
  · next hs _ => exact absurd hs h
  · rfl

theorem timingCommit_request (s : State) (old : Timing) (c : TimingCauses) : (timingCommit s old c).share.jump =
    if (timingCommit s old c).timing.jumpReq.isSome = old.jumpReq.isSome then s.share.jump
    else (timingCommit s old c).timing.jumpReq.isSome := by
  have e : (timingCommit s old c).timing.jumpReq = s.timing.jumpReq := by
    rw [(timingCommit_committed s old c).1.timing]
    rfl
  rw [timingCommit_jump, e]

/-- What the boundary leaves, but for the end of the event: `n` seconds of holdover. -/
structure BoundaryLeaves (s t : State) (jumped : Bool) (n f : Nat) : Prop where
  shared : Shared (committed (jumpCancelled
      { s with
        timing := (secondHeld (boundaryMoved s.cfg s.timing jumped) n).select
          (boundaryChoice (secondHeld (boundaryMoved s.cfg s.timing jumped) n))
        free := f } s.timing)) t
  seconds : ∀ m, s.timing.state = .holdover → s.timing.holdSecs = some m → m < 2 ^ 32 - 1 → n = m + 1
  request : t.share.jump = if t.timing.jumpReq.isSome = s.timing.jumpReq.isSome then s.share.jump
    else t.timing.jumpReq.isSome

theorem jumpCancelled_selected (s : State) {a b : Timing} (h : a.selected = b.selected) :
    jumpCancelled s a = jumpCancelled s b := by
  unfold jumpCancelled cancels
  rw [h]

theorem timingBoundary_leaves (s : State) (jumped : Bool) :
    ∃ n f, BoundaryLeaves s (timingBoundary s jumped) jumped n f := by
  obtain ⟨n, f, e, hn⟩ := boundarySecond_eq (boundaryBegun s jumped)
  rw [boundaryBegun_eq] at hn
  obtain ⟨c, ec⟩ := boundaryEnded_eq s.timing jumped (boundarySecond (boundaryBegun s jumped))
  have hsel : (secondHeld (boundaryMoved s.cfg s.timing jumped) n).selected = s.timing.selected :=
    secondHeld_selected _ n
  rw [← timingBoundary_eq, e, boundaryBegun_eq, jumpCancelled_selected _ hsel, reselect_boundary] at ec
  refine ⟨n, f, ?_, hn, ?_⟩
  · rw [ec]
    exact timingCommit_committed _ _ _
  · rw [ec]
    exact timingCommit_request _ _ _

end Sys2Proof.Machine
end

section
/-! SUPPORT. What a second boundary leaves of the timing selector: the offsets, the seconds of holdover, the selection,
the jump request (R88, R89, R93, R94, R101, R102). -/

namespace Sys2Proof.Machine

/-! ## What a selection and a second of holdover leave -/

theorem lose_frame (t : Timing) : t.lose = { t with
    state := t.lose.state, everLocked := t.lose.everLocked, entryBound := t.lose.entryBound
    holdSecs := t.lose.holdSecs } := by
  unfold Timing.lose
  split
  · split <;> rfl
  · split <;> rfl
  · rfl

theorem select_frame (t : Timing) (o : Option Source) : t.select o = { t with
    selected := (t.select o).selected, state := (t.select o).state, everLocked := (t.select o).everLocked
    entryBound := (t.select o).entryBound, holdSecs := (t.select o).holdSecs, lockRun := (t.select o).lockRun } := by
  unfold Timing.select
  split
  · rfl
  · cases o with
    | none =>
      dsimp only
      rw [lose_frame]
    | some i => rfl

theorem select_lockRun {t : Timing} (h : t.lockRun = 0) (o : Option Source) : (t.select o).lockRun = 0 := by
  unfold Timing.select
  split
  · exact h
  · cases o with
    | none =>
      dsimp only
      rw [lose_frame]
      exact h
    | some i => rfl

theorem secondHeld_frame (t : Timing) (n : Nat) : secondHeld t n = { t with
    state := (secondHeld t n).state, everLocked := (secondHeld t n).everLocked
    entryBound := (secondHeld t n).entryBound, holdSecs := (secondHeld t n).holdSecs } := by
  unfold secondHeld
  split
  · unfold Timing.holdoverSecond
    dsimp only
    split <;> rfl
  · rfl

/-- The second is within the limit of holdover, or past it. -/
theorem secondHeld_holdover {t : Timing} {m e : Nat} (hs : t.state = .holdover) (hm : t.holdSecs = some m)
    (he : t.entryBound = some e) (n : Nat) : secondHeld t n =
      if e + t.latch.drift * n ≤ t.latch.holdover then { t with holdSecs := some n }
      else { t with holdSecs := some n }.toFreerun := by
  have hk : secondHeld t n = t.holdoverSecond n := by
    unfold secondHeld
    rw [hs, hm]
  have hw : within t.latch.holdover (match t.entryBound with | none => none | some e => some (e + t.latch.drift * n)) =
      decide (e + t.latch.drift * n ≤ t.latch.holdover) := by
    rw [he]
    rfl
  rw [hk]
  unfold Timing.holdoverSecond
  by_cases h : e + t.latch.drift * n ≤ t.latch.holdover
  · rw [if_pos h]
    exact if_pos (hw.trans (decide_eq_true h))
  · rw [if_neg h]
    exact if_neg (by rw [Bool.not_eq_true]; exact hw.trans (decide_eq_false h))

/-! ## The timing that the boundary chooses from -/

/-- The timing before the choice of a source. -/
def boundaryHeld (s : State) (jumped : Bool) (n : Nat) : Timing := secondHeld (boundaryMoved s.cfg s.timing jumped) n

section
variable (s : State) (jumped : Bool) (n : Nat)

theorem boundaryHeld_selected : (boundaryHeld s jumped n).selected = s.timing.selected := secondHeld_selected _ _

theorem boundaryHeld_latch : (boundaryHeld s jumped n).latch = .of s.cfg := by
  unfold boundaryHeld
  rw [secondHeld_frame]
  rfl

theorem boundaryHeld_handed : (boundaryHeld s jumped n).handed = none := by
  unfold boundaryHeld
  rw [secondHeld_frame]
  rfl

theorem boundaryHeld_jumpReq : (boundaryHeld s jumped n).jumpReq = if jumped then none else s.timing.jumpReq := by
  unfold boundaryHeld
  rw [secondHeld_frame]
  rfl

theorem boundaryHeld_lastJump : (boundaryHeld s jumped n).lastJump =
    if (if jumped then none else s.timing.jumpReq).isNone then none else s.timing.lastJump := by
  unfold boundaryHeld
  rw [secondHeld_frame]
  rfl

theorem boundaryHeld_lockRun : (boundaryHeld s jumped n).lockRun =
    if jumped && s.timing.jumpReq.isSome then 0 else s.timing.lockRun := by
  unfold boundaryHeld
  rw [secondHeld_frame]
  rfl

theorem boundaryHeld_source (i : Source) : (boundaryHeld s jumped n).sources.get i =
    (s.timing.sources.get i).move (correctionAt s.timing jumped) := by
  have h : (boundaryHeld s jumped n).sources =
      s.timing.sources.map fun r => r.move (correctionAt s.timing jumped) := by
    unfold boundaryHeld
    rw [secondHeld_frame]
    rfl
  rw [h]
  cases i <;> rfl

theorem boundaryHeld_selectable (i : Source) :
    (boundaryHeld s jumped n).selectable i = s.timing.selectable i := by
  unfold Timing.selectable
  rw [boundaryHeld_source]
  rfl

theorem boundaryHeld_other (h : s.timing.state ≠ .holdover) :
    (boundaryHeld s jumped n).state = s.timing.state := by
  unfold boundaryHeld
  rw [secondHeld_other (t := boundaryMoved s.cfg s.timing jumped) h]
  rfl

end

/-! ## What the boundary leaves -/

section
variable {s t : State} {jumped : Bool} {n f : Nat} (h : BoundaryLeaves s t jumped n f)
include h

theorem BoundaryLeaves.timing : t.timing =
    (jumpCancelled
      { s with
        timing := (boundaryHeld s jumped n).select (boundaryChoice (boundaryHeld s jumped n)), free := f }
      s.timing).timing.regrade s.cfg := h.shared.1.timing

theorem BoundaryLeaves.choice :
    HasChoice t ((boundaryHeld s jumped n).select (boundaryChoice (boundaryHeld s jumped n))) := by
  have e := h.timing
  constructor <;> rw [e] <;> rfl

theorem BoundaryLeaves.graded : BoundAndGrade t := regrade_graded h.timing h.shared.1.cfg

theorem BoundaryLeaves.latch : t.timing.latch = .of s.cfg := by
  rw [h.choice.latch, select_frame]
  exact boundaryHeld_latch _ _ _

theorem BoundaryLeaves.handed : t.timing.handed = none := by
  rw [h.timing]
  show ((boundaryHeld s jumped n).select _).handed = none
  rw [select_frame]
  exact boundaryHeld_handed _ _ _

theorem BoundaryLeaves.lastJump (hj : jumped = true) : t.timing.lastJump = none := by
  rw [h.timing]
  show ((boundaryHeld s jumped n).select _).lastJump = none
  rw [select_frame]
  show (boundaryHeld s jumped n).lastJump = none
  rw [boundaryHeld_lastJump, hj]
  rfl

theorem BoundaryLeaves.jumpReq (hj : jumped = true) : t.timing.jumpReq = none := by
  rw [h.timing]
  show (if cancels s.timing _ then none else ((boundaryHeld s jumped n).select _).jumpReq) = none
  split
  · rfl
  · rw [select_frame]
    show (boundaryHeld s jumped n).jumpReq = none
    rw [boundaryHeld_jumpReq, hj]
    rfl

theorem BoundaryLeaves.lockRun (hj : jumped = true) (hq : s.timing.jumpReq.isSome) : t.timing.lockRun = 0 := by
  rw [h.choice.lockRun]
  refine select_lockRun ?_ _
  rw [boundaryHeld_lockRun, hj, hq]
  rfl

theorem BoundaryLeaves.shareJump (hj : jumped = true) (hq : s.timing.jumpReq.isSome) : t.share.jump = false := by
  rw [h.request, h.jumpReq hj, hq]
  rfl

theorem BoundaryLeaves.source (i : Source) :
    t.timing.sources.get i = (s.timing.sources.get i).move (correctionAt s.timing jumped) := by
  rw [h.choice.sources, select_frame]
  exact boundaryHeld_source _ _ _ _

/-! ### The selection -/

theorem BoundaryLeaves.selected : t.timing.selected = boundaryChoice (boundaryHeld s jumped n) := by
  rw [h.choice.selected, select_selected]

theorem BoundaryLeaves.preferred : t.timing.preferred = (boundaryHeld s jumped n).preferred :=
  h.choice.preferred (by rw [select_frame]) (by rw [select_frame])

theorem BoundaryLeaves.selectable_iff (i : Source) : Selectable t i ↔ (boundaryHeld s jumped n).selectable i = true :=
  h.choice.selectable_iff (by rw [select_frame]) i

/-- The preferred source, where the boundary selects it and it was not the selected one. -/
theorem BoundaryLeaves.newly {i : Source} (hp : Preferred t i) (hn : s.timing.selected ≠ some i)
    (hc : boundaryChoice (boundaryHeld s jumped n) = (boundaryHeld s jumped n).preferred) : NewlySelected t i := by
  have hi : (boundaryHeld s jumped n).preferred = some i := by
    rw [← h.preferred]
    exact (preferred_some t i).2 hp
  have hch := h.choice
  rw [hc, hi, select_new (by rw [boundaryHeld_selected]; exact hn)] at hch
  exact hch.newly

theorem BoundaryLeaves.first {i : Source} (hs : s.timing.selected = none) (hp : Preferred t i) : NewlySelected t i :=
  h.newly hp (by rw [hs]; exact nofun) (boundaryChoice_first (by rw [boundaryHeld_selected, hs]))

theorem BoundaryLeaves.replaced {i j : Source} (hs : s.timing.selected = some j) (hj : ¬Selectable t j)
    (hp : Preferred t i) : NewlySelected t i := by
  refine h.newly hp (fun e => ?_) (boundaryChoice_gives (j := j) (by rw [boundaryHeld_selected, hs]) (.inl ?_))
  · rw [hs] at e
    exact hj (Option.some.inj e ▸ hp.1)
  · rw [← Bool.not_eq_true, ← h.selectable_iff]
    exact hj

theorem BoundaryLeaves.reverts {i j : Source} (hs : s.timing.selected = some j)
    (hr : s.cfg.timing.revertive = true) (hp : Preferred t i) (hij : i ≠ j) : NewlySelected t i := by
  refine h.newly hp (fun e => ?_) (boundaryChoice_gives (j := j) (by rw [boundaryHeld_selected, hs]) (.inr ?_))
  · rw [hs] at e
    exact hij (Option.some.inj e).symm
  · rw [boundaryHeld_latch]
    exact hr

theorem BoundaryLeaves.stays {j : Source} (hs : s.timing.selected = some j) (hj : Selectable t j)
    (hr : s.cfg.timing.revertive = false ∨ Preferred t j) : t.timing.selected = some j := by
  have hsel : (boundaryHeld s jumped n).selected = some j := by rw [boundaryHeld_selected, hs]
  have hsj := (h.selectable_iff j).1 hj
  rw [h.selected]
  cases hv : s.cfg.timing.revertive with
  | false => exact boundaryChoice_stays hsel hsj (by rw [boundaryHeld_latch]; exact hv)
  | true =>
    rw [boundaryChoice_gives hsel (.inr (by rw [boundaryHeld_latch]; exact hv)), ← h.preferred]
    exact (preferred_some t j).2 (hr.resolve_left (by rw [hv]; decide))

theorem BoundaryLeaves.unselected (hn : ∀ i, ¬Selectable t i) : t.timing.selected = none := by
  have hp : (boundaryHeld s jumped n).preferred = none := by
    rw [← h.preferred]
    exact (preferred_none t).2 hn
  rw [h.selected, ← hp]
  cases hs : s.timing.selected with
  | none => exact boundaryChoice_first (by rw [boundaryHeld_selected, hs])
  | some j =>
    refine boundaryChoice_gives (j := j) (by rw [boundaryHeld_selected, hs]) (.inl ?_)
    rw [← Bool.not_eq_true, ← h.selectable_iff]
    exact hn j

theorem BoundaryLeaves.state (hs : s.timing.state ≠ .holdover) (hk : t.timing.selected = s.timing.selected) :
    t.timing.state = s.timing.state := by
  rw [h.selected] at hk
  rw [h.choice.state, select_same (by rw [hk, boundaryHeld_selected])]
  exact boundaryHeld_other _ _ _ hs

/-! ### Holdover -/

theorem BoundaryLeaves.holdover {e m : Nat} (hs : s.timing.state = .holdover) (hn : s.timing.selected = none)
    (hq : ∀ i, ¬Selectable s i) (he : s.timing.entryBound = some e) (hm : s.timing.holdSecs = some m)
    (hl : m < 2 ^ 32 - 1) :
    (e + s.cfg.timing.drift * (m + 1) ≤ s.cfg.timing.holdover →
      t.timing.state = .holdover ∧ t.timing.holdSecs = some (m + 1)
        ∧ t.timing.bound = some (e + s.cfg.timing.drift * (m + 1)))
    ∧ (s.cfg.timing.holdover < e + s.cfg.timing.drift * (m + 1) →
      t.timing.state = .freerun ∧ t.timing.bound = none) := by
  have hnone : t.timing.selected = none   := h.unselected fun i => by
    rw [h.selectable_iff, boundaryHeld_selectable, Machine.selectable_iff]
    exact hq i
  have hch := h.choice
  rw [select_same (by rw [← h.selected, hnone, boundaryHeld_selected, hn])] at hch
  have hg := h.graded
  have hlat := h.latch
  have hh : boundaryHeld s jumped n =
      if e + s.cfg.timing.drift * n ≤ s.cfg.timing.holdover then
        { boundaryMoved s.cfg s.timing jumped with holdSecs := some n }
      else { boundaryMoved s.cfg s.timing jumped with holdSecs := some n }.toFreerun :=
    secondHeld_holdover (t := boundaryMoved s.cfg s.timing jumped) hs hm he n
  have hk := h.seconds m hs hm hl
  rw [hk] at hh hch
  rw [hh] at hch
  refine ⟨fun hb => ?_, fun hb => ?_⟩
  · rw [if_pos hb] at hch
    have h1 : t.timing.state = .holdover := hch.state.trans hs
    have h2 : t.timing.holdSecs = some (m + 1) := hch.holdSecs
    have h3 := hg.2.2.1 h1 e (m + 1) (hch.entryBound.trans he) h2
    rw [hlat] at h3
    exact ⟨h1, h2, h3⟩
  · rw [if_neg (Nat.not_le.2 hb)] at hch
    have h1 : t.timing.state = .freerun := hch.state
    exact ⟨h1, hg.1 h1⟩

end

end Sys2Proof.Machine
end

section
/-! SUPPORT. Second boundaries, as the site clock takes them (R62, R64, R65, R73, R74). -/

namespace Sys2Proof.Machine

/-! ## The rest of the second -/

/-- The units of time up to the wrap. -/
def restOf (k : Clock) : Nat :=
  if k.oscBad = true ∧ k.passing = false then (32768 - k.rcCycle) * 1000000000
  else (k.startHold.getD 0 + (1000000000 - k.ns)) / 10 * 327680

theorem onRc_iff (k : Clock) : k.onRc = true ↔ k.oscBad = true ∧ k.passing = false := by
  unfold Clock.onRc
  cases k.oscBad <;> cases k.passing <;> decide

theorem toWrap_eq (k : Clock) : k.toWrap = k.pass (restOf k) := by
  unfold Clock.toWrap restOf
  by_cases h : k.oscBad = true ∧ k.passing = false
  · rw [if_pos h, if_pos ((onRc_iff k).2 h)]
    rfl
  · rw [if_neg h, if_neg (fun e => h ((onRc_iff k).1 e))]
    rfl

/-! ## The correction -/

/-- The jump that is due. -/
def dueOf (k : Clock) : Option Int := if k.permitted = true ∧ k.oscBad = false then k.jump else none

/-- The correction that a boundary takes. -/
def correctionOf (k : Clock) : Int :=
  match dueOf k with
  | some j => j
  | none => if k.oscBad then 0 else k.steer.getD 0

theorem dueJump_eq (k : Clock) : k.dueJump = dueOf k := by
  unfold Clock.dueJump dueOf
  cases k.permitted <;> cases k.oscBad <;> rfl

theorem correct_eq {k : Clock} (hn : k.ns = 0) (hh : k.startHold = none) (c : Int) : k.correct c =
    { k with ns := c.toNat, startHold := if c < 0 then some c.natAbs else none } := by
  unfold Clock.correct
  rcases Int.lt_trichotomy c 0 with h | h | h
  · rw [if_neg (by omega), if_pos h, if_pos h, Int.toNat_of_nonpos (by omega), ← hn]
  · subst h
    rw [if_neg (by decide), if_neg (by decide), if_neg (by decide), ← hh, show (0 : Int).toNat = k.ns from hn.symm]
  · rw [if_pos h, if_neg (by omega), ← hh]

theorem applyCorrection_eq {k : Clock} (hn : k.ns = 0) (hh : k.startHold = none) : k.applyCorrection =
    { k with
      ns := (correctionOf k).toNat, startHold := if correctionOf k < 0 then some (correctionOf k).natAbs else none
      steer := none, jump := if (dueOf k).isSome then none else k.jump } := by
  unfold Clock.applyCorrection correctionOf
  rw [dueJump_eq]
  cases dueOf k with
  | some j =>
    dsimp only
    rw [correct_eq hn hh]
    rfl
  | none =>
    dsimp only
    by_cases ho : k.oscBad = true
    · rw [if_pos ho, if_pos ho]
      have e : k = _ := (show k.correct 0 = k from rfl).symm.trans (correct_eq hn hh 0)
      conv_lhs => rw [e]
      rfl
    · rw [if_neg ho, if_neg ho, correct_eq hn hh]
      rfl

end Sys2Proof.Machine
end

section
/-! SUPPORT. The steps of a second boundary in the site clock, and the time that EMPTY steps still owe (R62, R65, R73). -/

namespace Sys2Proof.Machine

/-! ## The clock at the wrap -/

/-- The clock after the wrap and the correction, the rest of the second having passed. -/
def wrapClock (k : Clock) : Clock :=
  { k.toWrap with sec := k.toWrap.sec + 1, ns := 0, rcCycle := 0, startHold := none }.applyCorrection

theorem wrapClock_eq (k : Clock) : wrapClock k = { k with
    sec := k.sec + 1, ns := (correctionOf k).toNat, rcCycle := 0, steer := none
    jump := if (dueOf k).isSome then none else k.jump
    startHold := if correctionOf k < 0 then some (correctionOf k).natAbs else none
    captures := k.captures.map fun r => r.pass (restOf k), pulseLeft := k.pulseLeft.map (· - restOf k)
    ahead := k.ahead + restOf k } := by
  unfold wrapClock
  rw [applyCorrection_eq rfl rfl, toWrap_eq]
  rfl

/-- The clock as the pulse starts. -/
def pulsedClock (s : State) : Clock := (wrapClock s.clock).startPulse s.cfg.pulse

/-- Whether the pulse is squelched. -/
def squelchedAt (s : State) : Bool :=
  match s.cfg.pulse.squelch with
  | .never => s.clock.oscBad
  | .freerun => s.clock.oscBad || s.clock.tstate == .freerun
  | .unfit => s.clock.oscBad || s.clock.grade != .tddOk

theorem squelchedBy_wrap (s : State) : squelchedBy (wrapClock s.clock) s.cfg.pulse.squelch = squelchedAt s := by
  rw [wrapClock_eq]
  unfold squelchedBy squelchedAt
  cases s.cfg.pulse.squelch <;> rfl

theorem pulsedClock_eq (s : State) : pulsedClock s = { wrapClock s.clock with
    active := s.cfg.pulse, squelched := squelchedAt s, ppsActive := !squelchedAt s && s.cfg.pulse.width != 0
    pulseLeft :=
      if (!squelchedAt s && s.cfg.pulse.width != 0) && s.cfg.pulse.width != 1000 then
        some (s.cfg.pulse.width * 32768000000)
      else none } := by
  have hw : s.cfg.pulse.width * 1000000 * unitsPerNs = s.cfg.pulse.width * 32768000000 := Nat.mul_assoc _ _ _
  unfold pulsedClock Clock.startPulse
  dsimp only
  rw [squelchedBy_wrap, hw]

/-! ## The steps that are owed -/

/-- The steps of EMPTY that the boundary still owes. -/
def oweSteps (k : Clock) : Clock := if k.onRc then { k with owed := 0 } else { k.stepLo k.owed with owed := 0 }

theorem oweSteps_stepped (k : Clock) : Stepped k (oweSteps k) := by
  unfold oweSteps
  split
  · exact ⟨rfl, rfl, rfl, rfl, rfl, rfl, rfl, rfl⟩
  · obtain ⟨h1, h2, h3, h4, h5, h6, h7, h8⟩ := stepLo_stepped k k.owed
    exact ⟨h1, h2, h3, h4, h5, h6, h7, h8⟩

theorem captureRec_pass_zero (r : CaptureRec) : r.pass 0 = r := by
  unfold CaptureRec.pass
  split <;> rfl

theorem pass_zero (k : Clock) : k.pass 0 = k := by
  have hc : (k.captures.map fun r => r.pass 0) = k.captures := by
    unfold PerSource.map
    dsimp only
    rw [captureRec_pass_zero, captureRec_pass_zero, captureRec_pass_zero]
  have hp : k.pulseLeft.map (· - 0) = k.pulseLeft := by cases k.pulseLeft <;> rfl
  unfold Clock.pass
  rw [hc, hp]
  rfl

theorem stepLo_none {k : Clock} (h : k.startHold = none) (hn : k.ns ≤ 999999990) : k.stepLo 0 = k := by
  rw [stepLo_free h, Nat.mul_zero, Nat.add_zero, Nat.min_eq_left hn, Nat.zero_mul, pass_zero]

theorem stepLo_hold {k : Clock} {m : Nat} (h : k.startHold = some m) (hm : 0 < m) : k.stepLo 0 = k := by
  rw [stepLo_within h (by omega), Nat.mul_zero, Nat.sub_zero, ← h, Nat.zero_mul, pass_zero]

theorem oweSteps_none {k : Clock} (ho : k.owed = 0) (hn : k.ns ≤ 999999990)
    (hh : ∀ m, k.startHold = some m → 0 < m) : oweSteps k = k := by
  unfold oweSteps
  split
  · rw [← ho]
  · rw [ho]
    have hk : k.stepLo 0 = k := by
      cases h : k.startHold with
      | none => exact stepLo_none h hn
      | some m => exact stepLo_hold h (hh m h)
    rw [hk, ← ho]

/-! ## The boundary -/

/-- The jump that the boundary applies is counted and told. -/
def jumpTold (due : Option Int) (u : State) : State :=
  match due with
  | none => u
  | some j =>
    noticeBoth (setFlagBoth (u.counting fun c => { c with jumps := bump c.jumps }) .jump) .time ["JUMP"]
      [kv "amount" (.int j), kv "second" (.nat u.clock.sec.toNat)]

theorem jumpTold_noticed (due : Option Int) (u : State) : Noticed
    { u with counts := { u.counts with jumps := if due.isSome then bump u.counts.jumps else u.counts.jumps } }
    (jumpTold due u) := by
  cases due with
  | none => exact .refl u
  | some j => exact (setFlagBoth_noticed _ _).trans (noticeBoth_noticed _ _ _ _)

/-- The state of a second boundary as the timing selector takes it. -/
def boundaryStarted (s : State) : State :=
  (jumpTold (dueOf s.clock) (s.onClock wrapClock)).onClock fun k => k.startPulse s.cfg.pulse

theorem secondBoundary_eq (s : State) : secondBoundary s =
    (timingBoundary (boundaryStarted s) (dueOf s.clock).isSome).onClock oweSteps := by
  have hd : (s.onClock Clock.toWrap).clock.dueJump = dueOf s.clock := by
    show s.clock.toWrap.dueJump = _
    rw [toWrap_eq]
    exact dueJump_eq s.clock
  have hcfg : (jumpTold (dueOf s.clock) (s.onClock wrapClock)).cfg = s.cfg := (jumpTold_noticed _ _).cfg
  unfold secondBoundary boundary
  dsimp only
  rw [hd]
  unfold boundaryStarted
  rw [← hcfg]
  rfl

/-- What the boundary has done when the timing selector takes it, but for notices. -/
def boundaryPulsed (s : State) : State :=
  { s with
    clock := pulsedClock s
    counts := { s.counts with
      jumps := if (dueOf s.clock).isSome then bump s.counts.jumps else s.counts.jumps } }

theorem boundaryStarted_noticed (s : State) : Noticed (boundaryPulsed s) (boundaryStarted s) :=
  (jumpTold_noticed (dueOf s.clock) (s.onClock wrapClock)).onClock fun k => k.startPulse s.cfg.pulse

end Sys2Proof.Machine
end

section
/-! SUPPORT. What a second boundary leaves, and O27. -/

namespace Sys2Proof.Machine

theorem AfterReshares.onClock {u t : State} (h : AfterReshares u t) (c : Clock) :
    AfterReshares { u with clock := c } { t with clock := c } := by
  obtain ⟨e, hs, hp⟩ := h
  refine ⟨?_, hs, hp⟩
  have k := congrArg (fun x : State => { x with clock := c }) e
  exact k

theorem Noticed.freed {s t : State} (h : Noticed s t) (n : Nat) : Noticed { s with free := n } { t with free := n } :=
  ⟨⟨by conv_lhs => rw [h.1.1]
       , h.1.2⟩, h.2⟩

section
variable {s t : State} {jumped : Bool} {n f : Nat} (h : BoundaryLeaves s t jumped n f)
include h

theorem BoundaryLeaves.frame : Shared
    { s with timing := t.timing, clock := copiesOf t s.clock, free := f } t := by
  have ht := h.shared.1.timing
  have hc := h.shared.1.clock
  have h1 : t.clock.tstate = _ := congrArg Clock.tstate hc
  have h2 : t.clock.grade = _ := congrArg Clock.grade hc
  have h3 : t.clock.jump = _ := congrArg Clock.jump hc
  unfold copiesOf
  rw [ht, h1, h2, h3]
  exact h.shared

theorem BoundaryLeaves.tstate : t.clock.tstate = t.timing.state ∧ t.clock.grade = t.timing.grade := by
  have ht := h.shared.1.timing
  have hc := h.shared.1.clock
  have h1 : t.clock.tstate = _ := congrArg Clock.tstate hc
  have h2 : t.clock.grade = _ := congrArg Clock.grade hc
  rw [ht, h1, h2]
  exact ⟨rfl, rfl⟩

theorem BoundaryLeaves.clockJump (hj : s.clock.jump = none) : t.clock.jump = none := by
  have h3 : t.clock.jump = _ := congrArg Clock.jump h.shared.1.clock
  rw [h3]
  show (if cancels s.timing _ then none else s.clock.jump) = none
  rw [hj, ite_self]

end

theorem BoundaryLeaves.jumpFollows {s t : State} {n f : Nat} (h : BoundaryLeaves s t false n f) : JumpFollows s t := by
  have hq : ((boundaryHeld s false n).select (boundaryChoice (boundaryHeld s false n))).jumpReq = s.timing.jumpReq := by
    rw [select_frame]
    exact boundaryHeld_jumpReq s false n
  refine jumpFollows_of h.shared hq rfl fun hj hk => ?_
  have hn : t.timing.jumpReq = none := by
    rw [h.timing]
    have hc : cancels s.timing ((boundaryHeld s false n).select (boundaryChoice (boundaryHeld s false n))) = true := by
      unfold cancels
      rw [Bool.and_eq_true, hq]
      exact ⟨decide_eq_true hk, hj⟩
    show (if cancels s.timing _ then none else _) = none
    exact if_pos hc
  rw [h.request, hn, hj]
  rfl

/-! ## The whole event -/

/-- What a second boundary leaves: `t0` is the state as the timing selector leaves it. -/
structure SecondLeaves (s t t0 : State) (n f : Nat) : Prop where
  leaves : BoundaryLeaves (boundaryStarted s) t0 (dueOf s.clock).isSome n f
  steps : t = { t0 with clock := oweSteps t0.clock }

theorem secondBoundary_leaves (s : State) : ∃ t0 n f, SecondLeaves s (secondBoundary s) t0 n f := by
  obtain ⟨n, f, h⟩ := timingBoundary_leaves (boundaryStarted s) (dueOf s.clock).isSome
  exact ⟨_, n, f, h, secondBoundary_eq s⟩

section
variable {s t t0 : State} {n f : Nat} (h : SecondLeaves s t t0 n f)
include h

theorem SecondLeaves.selector : AfterReshares
    { boundaryPulsed s with timing := t0.timing, clock := copiesOf t0 (pulsedClock s), free := f } t0 := by
  have hn := (((boundaryStarted_noticed s).onTiming fun _ => t0.timing).onClock (copiesOf t0)).freed f
  exact (hn.shared.trans h.leaves.frame).1

theorem SecondLeaves.clock : t0.clock = { pulsedClock s with
    tstate := t0.timing.state, grade := t0.timing.grade, jump := t0.clock.jump, permitted := t0.clock.permitted } := by
  have hc := h.selector.clock
  obtain ⟨h1, h2⟩ := h.leaves.tstate
  rw [← h1, ← h2]
  exact hc

theorem SecondLeaves.timing : t.timing = t0.timing := by rw [h.steps]

theorem SecondLeaves.stepped : Stepped t0.clock t.clock := by
  rw [h.steps]
  exact oweSteps_stepped _

theorem SecondLeaves.frame : AfterReshares
    { s with
      clock := t.clock, timing := t.timing, free := t.free
      counts := { s.counts with
        jumps := if (dueOf s.clock).isSome then bump s.counts.jumps else s.counts.jumps } } t := by
  have hf : t0.free = f := by rw [h.selector.1]
  have hk := h.selector.onClock (oweSteps t0.clock)
  rw [← hf] at hk
  have e := h.steps
  subst e
  exact hk

omit h in
theorem boundaryStarted_timing (s : State) : (boundaryStarted s).timing = s.timing :=
  (boundaryStarted_noticed s).timing

omit h in
theorem boundaryStarted_cfg (s : State) : (boundaryStarted s).cfg = s.cfg := (boundaryStarted_noticed s).cfg

end

end Sys2Proof.Machine
end

section
/-! SUPPORT. The clock after a second boundary, and O27. -/

namespace Sys2Proof.Machine

theorem pulsedClock_fields (s : State) : (pulsedClock s).sec = s.clock.sec + 1 ∧ (pulsedClock s).active = s.cfg.pulse
    ∧ (pulsedClock s).steer = none ∧ (pulsedClock s).oscBad = s.clock.oscBad
    ∧ (pulsedClock s).jump = if (dueOf s.clock).isSome then none else s.clock.jump := by
  rw [pulsedClock_eq, wrapClock_eq]
  exact ⟨rfl, rfl, rfl, rfl, rfl⟩

section
variable {s t t0 : State} {n f : Nat} (h : SecondLeaves s t t0 n f)
include h

theorem SecondLeaves.begins : t.clock.sec = s.clock.sec + 1 ∧ t.clock.active = s.cfg.pulse ∧ t.clock.steer = none
    ∧ t.clock.oscBad = s.clock.oscBad := by
  obtain ⟨h1, h2, h3, h4, -⟩ := pulsedClock_fields s
  have hk := h.stepped
  have hc := h.clock
  refine ⟨hk.sec.trans ?_, hk.active.trans ?_, hk.steer.trans ?_, hk.oscBad.trans ?_⟩ <;> rw [hc]
  · exact h1
  · exact h2
  · exact h3
  · exact h4

theorem SecondLeaves.jumped (hd : (dueOf s.clock).isSome) : t.clock.jump = none := by
  refine h.stepped.jump.trans (h.leaves.clockJump ?_)
  rw [(boundaryStarted_noticed s).clock]
  refine (pulsedClock_fields s).2.2.2.2.trans ?_
  exact if_pos hd

/-- Without steps owed the clock is the one that the pulse started on. -/
theorem SecondLeaves.exact (ho : s.clock.owed = 0) (hc : correctionOf s.clock ≤ 999999990) :
    t.clock = { pulsedClock s with
      tstate := t.timing.state, grade := t.timing.grade, jump := t.clock.jump, permitted := t.clock.permitted } := by
  have hk := h.clock
  have hp := wrapClock_eq s.clock
  have hq := pulsedClock_eq s
  have h1 : t0.clock.owed = 0 := by
    rw [hk, hq, hp]
    exact ho
  have h2 : t0.clock.ns ≤ 999999990 := by
    rw [hk, hq, hp]
    show (correctionOf s.clock).toNat ≤ 999999990
    omega
  have h3 : ∀ m, t0.clock.startHold = some m → 0 < m := by
    intro m hm
    rw [hk, hq, hp] at hm
    replace hm : (if correctionOf s.clock < 0 then some (correctionOf s.clock).natAbs else none) = some m := hm
    by_cases hn : correctionOf s.clock < 0
    · rw [if_pos hn, Option.some_inj] at hm
      omega
    · rw [if_neg hn] at hm
      cases hm
  have e := h.steps
  rw [oweSteps_none h1 h2 h3] at e
  have et : t = t0 := e
  rw [et]
  exact hk

theorem SecondLeaves.jumpFollows (hd : dueOf s.clock = none) : JumpFollows s t := by
  have hl := h.leaves
  rw [hd] at hl
  obtain ⟨h1, h2⟩ := hl.jumpFollows
  have hj : (boundaryStarted s).clock.jump = s.clock.jump := by
    rw [(boundaryStarted_noticed s).clock]
    refine (pulsedClock_fields s).2.2.2.2.trans ?_
    rw [hd]
    rfl
  have hc : t.clock.jump = t0.clock.jump := h.stepped.jump
  have hs : t.share = t0.share := by rw [h.steps]
  rw [boundaryStarted_timing, ← h.timing] at h1 h2
  rw [hj] at h1
  refine ⟨fun k => ?_, fun k => ?_⟩
  · rw [hc]
    exact h1 k
  · rw [hc, hs]
    exact h2 k

end

end Sys2Proof.Machine

open Sys2Proof Sys2Proof.Machine

/-- Settles O27. -/
theorem secondBoundaryAdvances : Obligations.SecondBoundaryAdvances := by
  intro s hr k p due c rest squelched on moved
  obtain ⟨t0, n, f, h⟩ := secondBoundary_leaves s
  have hl := h.leaves
  have hτ : (boundaryStarted s).timing = s.timing := boundaryStarted_timing s
  have hcfg : (boundaryStarted s).cfg = s.cfg := boundaryStarted_cfg s
  have ht : (secondBoundary s).timing = t0.timing := h.timing
  have hsh : (secondBoundary s).share = t0.share := by rw [h.steps]
  have hsel (i : Source) : Selectable (secondBoundary s) i ↔ Selectable t0 i := by
    unfold Selectable
    rw [ht]
  have hpre (i : Source) : Preferred (secondBoundary s) i ↔ Preferred t0 i := by
    unfold Preferred Before
    rw [ht]
    simp only [hsel]
  have hnew (i : Source) : NewlySelected (secondBoundary s) i ↔ NewlySelected t0 i := by
    unfold NewlySelected
    rw [ht]
  obtain ⟨b1, b2, b3, b4⟩ := h.begins
  refine ⟨secondBoundary s, lives hr rfl, h.frame, b1, b2, b3, b4, h.jumped, fun ho hc => ?_, ?_, ?_, fun i => ?_,
    fun hd => ?_, fun hd hq => ?_, fun e m hs hn hq he hm hlt => ?_, fun hs hk => ?_, fun i hn hp => ?_,
    fun i j hs hn hp => ?_, fun i j hs hv hp hij => ?_, fun j hs hj hv => ?_, fun hn => ?_, h.jumpFollows, ?_⟩
  · rw [h.exact ho hc, pulsedClock_eq, wrapClock_eq]
    rfl
  · rw [ht, hl.latch, hcfg]
  · rw [ht, hl.handed]
  · rw [ht, hl.source, hτ]
    rfl
  · rw [ht]
    exact ⟨hl.jumpReq hd, hl.lastJump hd⟩
  · rw [ht, hsh]
    exact ⟨hl.lockRun hd (by rw [hτ]; exact hq), hl.shareJump hd (by rw [hτ]; exact hq)⟩
  · have := hl.holdover (e := e) (m := m)
    rw [hτ, hcfg] at this
    rw [ht]
    exact this hs hn (by unfold Selectable; rw [hτ]; exact hq) he hm hlt
  · rw [ht] at hk ⊢
    rw [hl.state (by rw [hτ]; exact hs) (by rw [hτ]; exact hk), hτ]
  · exact (hnew i).2 (hl.first (by rw [hτ]; exact hn) ((hpre i).1 hp))
  · exact (hnew i).2 (hl.replaced (by rw [hτ]; exact hs) (fun k => hn ((hsel j).2 k)) ((hpre i).1 hp))
  · exact (hnew i).2 (hl.reverts (by rw [hτ]; exact hs) (by rw [hcfg]; exact hv) ((hpre i).1 hp) hij)
  · rw [ht]
    refine hl.stays (by rw [hτ]; exact hs) ((hsel j).1 hj) ?_
    rw [hcfg]
    exact hv.imp id (hpre j).1
  · rw [ht]
    exact hl.unselected fun i k => hn i ((hsel i).2 k)
  · have hg := hl.graded
    have hc0 : (secondBoundary s).cfg = t0.cfg := by rw [h.steps]
    unfold BoundAndGrade at hg ⊢
    rw [ht, hc0]
    exact hg

end

section
/-! SUPPORT. Filtered changes of the discrete inputs, as their blocks take them (R12, R26, R139, R174, R197). -/

namespace Sys2Proof.Machine

/-- The input stands at `level`, with no change under test. -/
def inputSet (s : State) (i : InputPin) (level : Bool) : State :=
  s.setInput i { pin := level, filtered := level, change := none }

section
variable {s : State} {i : InputPin} {level : Bool} (h : (s.site.inputs.get i).filtered = !level)
include h

theorem takeChange_taken : takeChange s i level =
    match i with
    | .resetN => inputSet s i level
    | .mastMoving => if level then testMast (levelMast (inputSet s i level) true) else levelMast (inputSet s i level) false
    | .oduLock => linkLock (inputSet s i level) level
    | .svcConnect => if level then inputSet s i level else serviceGone (inputSet s i level) := by
  unfold takeChange
  refine (if_neg ?_).trans ?_
  · rw [h]
    cases level <;> decide
  · cases i <;> rfl

end

/-! ## MAST_MOVING -/

/-- The record of an alignment that MAST_MOVING begins. -/
def mastBegun (s : State) : AlignRec :=
  { owner := .mast, mastFlag := false, start := s.now, current := none, peak := none, reports := 0, interval := 2
    toNext := 2 }

/-- What the level monitor makes of MAST_MOVING asserting. -/
def levelMasted (s : State) : Level :=
  match s.level.align with
  | none => { s.level with align := some (mastBegun s), indicator := 0, density := densityOf s.level.outPolarity 0 }
  | some a =>
    match a.owner with
    | .port _ => { s.level with align := some { a with mastFlag := true } }
    | .mast => s.level

theorem levelMast_asserted (s : State) : Noticed
    { s with
      level := levelMasted s, signals := s.signals ++ if s.level.align = none then [.alignStart] else [] }
    (levelMast s true) := by
  unfold levelMast levelMasted
  cases ha : s.level.align with
  | none => exact beginAlign_noticed s .mast 2
  | some a =>
    dsimp only
    rw [if_neg nofun, List.append_nil]
    cases ho : a.owner with
    | mast => exact .refl s
    | port p => exact .refl _

theorem levelMast_ends {s : State} {a : AlignRec} (ha : s.level.align = some a) (ho : a.owner = .mast) :
    levelMast s false = endAlign s "MAST" := by
  unfold levelMast
  rw [ha]
  dsimp only
  rw [ho]

theorem levelMast_unflags {s : State} {a : AlignRec} {p : Port} (ha : s.level.align = some a) (ho : a.owner = .port p) :
    levelMast s false = { s with level := { s.level with align := some { a with mastFlag := false } } } := by
  unfold levelMast
  rw [ha]
  dsimp only
  cases a
  cases ho
  rfl

theorem levelMast_idle {s : State} (ha : s.level.align = none) : levelMast s false = s := by
  unfold levelMast
  rw [ha]

/-- The test sequencer takes MAST_MOVING asserting in its own block. -/
theorem testMast_frame (v : State) :
    testMast v = { v with tests := (testMast v).tests, signals := (testMast v).signals } := by
  unfold testMast
  cases hc : v.tests.current with
  | none => rfl
  | some r =>
    dsimp only
    by_cases hl : v.link.claim = some r.number
    · rw [if_pos hl]
      by_cases hr : r.state = .running ∧ r.pending = none
      · rw [abortTest_running hc hr.1 hr.2]
        rfl
      · rw [abortTest_other hc]
        rw [not_and_or, ← ne_eq, ← ne_eq, ← Option.isSome_iff_ne_none] at hr
        exact hr.symm
    · rw [if_neg hl]

theorem testMast_idle {v : State} (h : v.tests.current = none) : testMast v = v := by
  unfold testMast
  rw [h]

theorem testMast_unclaimed {v : State} {r : TestRec} (h : v.tests.current = some r) (hl : v.link.claim ≠ some r.number) :
    testMast v = v := by
  unfold testMast
  rw [h]
  exact if_neg hl

theorem testMast_aborts {v : State} {r : TestRec} (h : v.tests.current = some r) (hl : v.link.claim = some r.number)
    (hr : r.state = .running) (hp : r.pending = none) : testMast v = aborted v r .mast := by
  unfold testMast
  rw [h]
  exact (if_pos hl).trans (abortTest_running h hr hp _)

/-- What MAST_MOVING asserting leaves. -/
structure MastTaken (u t : State) : Prop where
  frame : AfterNotices { u with level := t.level, tests := t.tests, signals := t.signals } t
  level : t.level = levelMasted u
  idle : u.tests.current = none →
    t.tests = u.tests ∧ t.signals = u.signals ++ if u.level.align = none then [.alignStart] else []
  aborts : ∀ r, u.tests.current = some r → u.link.claim = some r.number → r.state = .running → r.pending = none →
    t.tests.current = some { r with pending := some (.aborted, some .mast) }
  unclaimed : ∀ r, u.tests.current = some r → u.link.claim ≠ some r.number → t.tests = u.tests

theorem mast_taken (u : State) : MastTaken u (testMast (levelMast u true)) := by
  have h := levelMast_asserted u
  have hf := testMast_frame (levelMast u true)
  generalize levelMast u true = v at h hf ⊢
  have ht : v.tests = u.tests := h.tests
  have hk : v.link = u.link := h.link
  refine ⟨?_, ?_, fun hc => ?_, fun r hc hl hr hp => ?_, fun r hc hl => ?_⟩
  · have hn := (h.onTests fun _ => (testMast v).tests).withSignals (testMast v).signals
    have hl : (testMast v).level = levelMasted u := by
      rw [hf]
      exact h.level
    rw [hl, hf]
    exact hn.1
  · rw [hf]
    exact h.level
  · rw [testMast_idle (by rw [ht]; exact hc)]
    exact ⟨ht, h.signals⟩
  · rw [testMast_aborts (by rw [ht]; exact hc) (by rw [hk]; exact hl) hr hp]
    rfl
  · rw [testMast_unclaimed (by rw [ht]; exact hc) (by rw [hk]; exact hl)]
    exact ht

/-! ## ODU_LOCK -/

theorem linkLock_rises (s : State) : linkLock s true = { s with link := { s.link with lockLevel := true } } := rfl

section
variable {s : State}

theorem carries_iff (k : LinkState) : k.carries = true ↔ k = .up ∨ k = .fade := by cases k <;> decide

/-- The lock is gone. -/
def unlocked (s : State) : State := { s with link := { s.link with lockLevel := false } }

theorem linkLock_loses (h : s.link.state = .up ∨ s.link.state = .fade) :
    linkLock s false = enterLost (unlocked s) "LOCK" :=
  if_pos ((carries_iff _).2 h)

theorem linkLock_breaks (h : s.link.state = .acquire ∨ s.link.state = .lost) : linkLock s false =
    { s with link := { s.link with
      lockLevel := false, restoreTimer := none, restoreDue := false, unbroken := false } } := by
  have hc : s.link.state.carries ≠ true := by
    rcases h with h | h <;> rw [h] <;> decide
  exact (if_neg hc).trans (if_pos ((restoring_iff _).2 h))

theorem linkLock_stays (h1 : ¬(s.link.state = .up ∨ s.link.state = .fade))
    (h2 : ¬(s.link.state = .acquire ∨ s.link.state = .lost)) : linkLock s false = unlocked s :=
  (if_neg fun k => h1 ((carries_iff _).1 k)).trans (if_neg fun k => h2 ((restoring_iff _).1 k))

end

/-! ## SVC_CONNECT -/

/-- What the bus controller makes of a port that is gone. -/
theorem holdDrop_gone {v w : State} (h : Noticed v w) (p : Port) (c : HoldCause) : ∃ b n g, Noticed
    { v with bus := b, counts := { v.counts with busHoldExpired := n }, signals := g } (holdDrop w p c)
      ∧ (v.bus.current = none →
        b = { v.bus with hold := if v.bus.hold.map (·.port) = some p then none else v.bus.hold }) := by
  have hb := h.bus
  cases hc : v.bus.current with
  | some x =>
    rw [holdDrop_running ((congrArg Bus.current hb).trans hc)]
    split
    · rw [hb]
      exact ⟨_, v.counts.busHoldExpired, v.signals, h.onBus fun _ => _, nofun⟩
    · exact ⟨v.bus, v.counts.busHoldExpired, v.signals, h, nofun⟩
  | none =>
    have hcw : w.bus.current = none := by rw [hb]; exact hc
    by_cases hp : v.bus.hold.map (·.port) = some p
    · rw [holdDrop_expires hcw (by rw [hb]; exact hp)]
      refine ⟨{ v.bus with hold := none }, bump v.counts.busHoldExpired, v.signals ++ [.busChoose], ?_, fun _ => ?_⟩
      · exact (((h.onBus fun b => { b with hold := none }).counting
          (fun c => { c with busHoldExpired := bump c.busHoldExpired }) fun _ _ => rfl).trans
            (noticeMasked_noticed _ _ _ _ _)).push .busChoose
      · rw [if_pos hp]
    · rw [holdDrop_other hcw (by rw [hb]; exact hp)]
      refine ⟨v.bus, v.counts.busHoldExpired, v.signals, h, fun _ => ?_⟩
      rw [if_neg hp]

/-- What the level monitor makes of a port that is gone. -/
def levelGone (s : State) (p : Port) : Level :=
  match s.level.align with
  | none => s.level
  | some a =>
    if a.owner = .port p then
      if s.site.inputs.mastMoving.filtered = true then { s.level with align := some (toMast a) }
      else { s.level with align := none, indicator := 0, density := densityOf s.level.outPolarity 0 }
    else s.level

theorem releaseAlign_gone (s : State) (p : Port) (c : String) :
    ∃ g, Noticed { s with level := levelGone s p, signals := g } (releaseAlign s p c) := by
  unfold levelGone
  cases ha : s.level.align with
  | none =>
    rw [releaseAlign_other c (by rw [ha]; exact nofun)]
    exact ⟨s.signals, .refl s⟩
  | some a =>
    dsimp only
    by_cases ho : a.owner = .port p
    · have k := releaseAlign_after s p c ha ho
      rw [if_pos ho]
      by_cases hm : s.site.inputs.mastMoving.filtered = true
      · rw [if_pos hm] at k ⊢
        exact ⟨s.signals, k⟩
      · rw [if_neg hm] at k ⊢
        exact ⟨_, k⟩
    · rw [if_neg ho, releaseAlign_other c fun b hb => by rw [ha] at hb; cases hb; exact ho]
      exact ⟨s.signals, .refl s⟩

end Sys2Proof.Machine
end

section
/-! SUPPORT. A service port that is gone, and O22. -/

namespace Sys2Proof.Machine

/-- What SVC_CONNECT deasserting leaves. -/
structure ServiceGone (u t : State) : Prop where
  frame : t = { u with
    level := t.level, bus := t.bus, ports := t.ports
    counts := { u.counts with noticeDrops := t.counts.noticeDrops, busHoldExpired := t.counts.busHoldExpired }
    signals := t.signals }
  main : SameLine (u.port .main) (t.port .main)
  service : SameLine { u.port .service with access := .opened } (t.port .service)
  level : t.level = levelGone u .service
  bus : u.bus.current = none → t.bus =
    { u.bus with hold := if u.bus.hold.map (·.port) = some .service then none else u.bus.hold }

theorem serviceGone_leaves (u : State) : ServiceGone u (serviceGone u) := by
  obtain ⟨g, h⟩ := releaseAlign_gone (dropAccess u .service) .service "DISCONNECT"
  obtain ⟨b, n, g', k, hb⟩ := holdDrop_gone h .service .disconnect
  have e : serviceGone u = holdDrop (releaseAlign (dropAccess u .service) .service "DISCONNECT") .service .disconnect :=
    rfl
  rw [← e] at k
  generalize serviceGone u = t at k
  have h1 : t.level = levelGone u .service := k.level
  have h2 : t.bus = b := k.bus
  have h3 : t.signals = g' := k.signals
  have h4 : t.counts.busHoldExpired = n := congrArg Counters.busHoldExpired (PortsOnly.counts k.1.1)
  refine ⟨?_, k.1.2 .main, k.1.2 .service, h1, fun hc => ?_⟩
  · rw [h1, h2, h3, h4]
    exact k.1.1
  · rw [h2]
    exact hb hc

theorem levelGone_other {s : State} {p : Port} (h : s.level.align.map (·.owner) ≠ some (.port p)) :
    levelGone s p = s.level := by
  unfold levelGone
  cases ha : s.level.align with
  | none => rfl
  | some a =>
    refine if_neg fun ho => h ?_
    rw [ha]
    exact congrArg some ho

theorem levelGone_owner {s : State} {p : Port} {a : AlignRec} (ha : s.level.align = some a) (ho : a.owner = .port p) :
    levelGone s p =
      if s.site.inputs.mastMoving.filtered = true then
        { s.level with align := some { a with owner := .mast, mastFlag := false, toNext := a.interval } }
      else { s.level with align := none, indicator := 0, density := densityOf s.level.outPolarity 0 } := by
  unfold levelGone
  rw [ha]
  exact if_pos ho

theorem levelMasted_begins {s : State} (h : s.level.align = none) : levelMasted s =
    { s.level with align := some (mastBegun s), indicator := 0, density := densityOf s.level.outPolarity 0 } := by
  unfold levelMasted
  rw [h]

theorem levelMasted_flags {s : State} {a : AlignRec} {p : Port} (ha : s.level.align = some a) (ho : a.owner = .port p) :
    levelMasted s = { s.level with align := some { a with mastFlag := true } } := by
  unfold levelMasted
  rw [ha]
  dsimp only
  cases a
  cases ho
  rfl

end Sys2Proof.Machine

open Sys2Proof Sys2Proof.Machine

/-- Settles O22. -/
theorem inputChangesTaken : Obligations.InputChangesTaken := by
  intro s hr set rest begun
  refine ⟨fun hf => ?_, fun hf => ⟨fun ho => ?_, fun a p ha ho => ?_, fun ha => ?_⟩, fun level hf => ?_, fun hf => ?_,
    fun hf => lives hr (takeChange_taken (i := .svcConnect) (level := true) hf)⟩
  · have ht := mast_taken (inputSet s .mastMoving true)
    have e := takeChange_taken (i := .mastMoving) (level := true) hf
    refine ⟨_, lives hr e, ht.frame, fun ha => ht.level.trans (levelMasted_begins ha),
      fun a p ha ho => ht.level.trans (levelMasted_flags ha ho), ht.idle, ht.aborts, ht.unclaimed⟩
  · have e := takeChange_taken (i := .mastMoving) (level := false) hf
    obtain ⟨a, ha, hm⟩ := Option.map_eq_some_iff.1 ho
    have hl : levelMast (inputSet s .mastMoving false) false = endAlign (inputSet s .mastMoving false) "MAST" :=
      levelMast_ends (s := inputSet s .mastMoving false) ha hm
    exact ⟨_, lives hr (e.trans hl), (endAlign_noticed _ _).1⟩
  · have e := takeChange_taken (i := .mastMoving) (level := false) hf
    exact lives hr (e.trans (levelMast_unflags (s := inputSet s .mastMoving false) ha ho))
  · have e := takeChange_taken (i := .mastMoving) (level := false) hf
    exact lives hr (e.trans (levelMast_idle (s := inputSet s .mastMoving false) ha))
  · have e := takeChange_taken (i := .oduLock) (level := level) hf
    intro carries restoring
    refine ⟨fun h => ?_, fun hl h => ?_, fun hl h => ?_⟩
    · cases level with
      | true => exact lives hr e
      | false =>
        obtain ⟨h1, h2⟩ := h.resolve_left (by decide)
        exact lives hr (e.trans (linkLock_stays (s := inputSet s .oduLock false) h1 h2))
    · subst hl
      exact lives hr (e.trans (linkLock_breaks (s := inputSet s .oduLock false) h))
    · subst hl
      exact ⟨_, lives hr (e.trans (linkLock_loses (s := inputSet s .oduLock false) h)),
        (enterLost_shared (unlocked (inputSet s .oduLock false)) _).1⟩
  · have e := takeChange_taken (i := .svcConnect) (level := false) hf
    have ht := serviceGone_leaves (inputSet s .svcConnect false)
    exact ⟨serviceGone (inputSet s .svcConnect false), lives hr e, ht.frame, ht.main, ht.service,
      fun h => ht.level.trans (levelGone_other h), fun a ha ho => ht.level.trans (levelGone_owner ha ho), ht.bus⟩

end

section
/-! SUPPORT. SAVE and LOAD: the snapshot, the end of its write, and an image brought into force (R132, R204, R205). -/

namespace Sys2Proof.Machine

/-! ## SAVE -/

theorem handleSave_busy {s : State} (p : Port) (tag : Tag) (h : s.store.writing.isSome) :
    handleSave s p tag = (s, .no .noBusy) := if_pos h

theorem handleSave_takes {s : State} (p : Port) (tag : Tag) (h : s.store.writing = none)
    (hn : s.store.image.number < 2 ^ 32 - 1) : handleSave s p tag =
      ({ s with store := { s.store with writing := some {
          settings := s.cfg, number := if s.store.image.good then s.store.image.number + 1 else 1, port := p
          tag := tag } } }, .go) := by
  unfold handleSave countOn
  rw [if_neg (by rw [h]; decide)]
  dsimp only
  rw [if_pos hn]
  cases s.store.image.good <;> rfl

theorem saveWriteEnd_ends {s : State} {w : Writing} (h : s.store.writing = some w) (good : Bool) : Noticed
    { s with store := {
        image := { settings := w.settings, number := w.number, good := good }, blank := !good, writing := none } }
    (saveWriteEnd s good) := by
  unfold saveWriteEnd
  rw [h]
  dsimp only
  split <;> exact noticeOwner_noticed _ _ _ _ _

/-! ## What an image leaves alone -/

/-- `t` has the store, the tests, the bus, the link and the phase of `s`. -/
structure Loads (s t : State) : Prop where
  store : t.store = s.store
  tests : t.tests = s.tests
  bus : t.bus = s.bus
  link : t.link = s.link
  phase : t.site.phase = s.site.phase

theorem Loads.refl (s : State) : Loads s s := ⟨rfl, rfl, rfl, rfl, rfl⟩

theorem Loads.trans {s t u : State} (h : Loads s t) (k : Loads t u) : Loads s u :=
  ⟨k.store.trans h.store, k.tests.trans h.tests, k.bus.trans h.bus, k.link.trans h.link, k.phase.trans h.phase⟩

theorem Loads.reshared {s u t : State} (h : AfterReshares u t) (k : Loads s u) : Loads s t :=
  k.trans ⟨h.store, h.tests, h.bus, h.link, by rw [h.site]⟩

theorem Loads.noticed {s u t : State} (h : Noticed u t) (k : Loads s u) : Loads s t :=
  k.trans ⟨h.store, h.tests, h.bus, h.link, by rw [h.site]⟩

/-! ## The blocks of an image -/

section
variable (s : State) (img : Settings)

theorem loadLink_loads : Loads s (loadLink s img) ∧ (loadLink s img).cfg =
    { s.cfg with link := img.link, profiles := img.profiles, templates := img.templates } := by
  unfold loadLink
  dsimp only
  split
  · exact ⟨⟨rfl, rfl, rfl, rfl, rfl⟩, rfl⟩
  · have h := (shareInput_shared' (s.settings fun cfg =>
        { cfg with link := img.link, profiles := img.profiles, templates := img.templates })
      fun h => { h with reserve := img.link.reserve }).1
    exact ⟨.reshared h ⟨rfl, rfl, rfl, rfl, rfl⟩, h.cfg⟩

theorem applySource_loads (i : Source) (g : SourceSettings) : Loads s (applySource s i g)
    ∧ (applySource s i g).cfg = { s.cfg with sources := s.cfg.sources.put i g } := by
  have h := (applySource_sets s i g).frame
  exact ⟨.reshared h ⟨rfl, rfl, rfl, rfl, rfl⟩, h.cfg⟩

theorem sources_put (v w : PerSource SourceSettings) :
    ((v.put .gnss w.gnss).put .link w.link).put .aux w.aux = w := rfl

theorem loadTiming_loads : Loads s (loadTiming s img) ∧ (loadTiming s img).cfg =
    { s.cfg with sources := img.sources, timing := img.timing, pulse := img.pulse, auxDiv := img.auxDiv } := by
  obtain ⟨h1, c1⟩ := applySource_loads s .gnss img.sources.gnss
  obtain ⟨h2, c2⟩ := applySource_loads (applySource s .gnss img.sources.gnss) .link img.sources.link
  obtain ⟨h3, c3⟩ := applySource_loads (applySource (applySource s .gnss img.sources.gnss) .link img.sources.link) .aux
    img.sources.aux
  rw [c1] at c2
  rw [c2] at c3
  unfold loadTiming
  dsimp only
  generalize applySource (applySource (applySource s .gnss img.sources.gnss) .link img.sources.link) .aux
    img.sources.aux = t at h3 c3 ⊢
  rw [applyPulse_eq]
  refine ⟨((h1.trans h2).trans h3).trans ⟨rfl, rfl, rfl, rfl, rfl⟩, ?_⟩
  dsimp only [State.settings]
  rw [c3]
  rfl

theorem loadShare_loads : Loads s (loadShare s img) ∧ (loadShare s img).cfg =
    { s.cfg with
      tenants := img.tenants, carriers := img.carriers, borrow := img.borrow, restoreHold := img.restoreHold } := by
  have h := (shareInput_shared' (s.settings fun cfg =>
      { cfg with tenants := img.tenants, carriers := img.carriers, borrow := img.borrow, restoreHold := img.restoreHold })
    fun h => { h with carriers := .replicate 16 .idle }).1
  exact ⟨.reshared h ⟨rfl, rfl, rfl, rfl, rfl⟩, h.cfg⟩

/-- A LOAD releases every carrier. -/
theorem loadShare_idle (c : Fin 16) : ((loadShare s img).share.carriers.get c).state = .idle := by
  unfold loadShare shareInput
  dsimp only
  rw [reshare_idle]
  show ((Vector.replicate 16 Carrier.idle).get c).state = .idle
  rw [replicate_idle]
  rfl

theorem loadShare_noPermit (l : Fin 8) : (loadShare s img).share.permits.get l = false := by
  have h : PermitsAgree (loadShare s img) := by
    unfold loadShare shareInput
    exact reshare_permitsAgree _ _ _ _
  rw [← Bool.not_eq_true, h l]
  rintro ⟨c, d, -, -, ha⟩
  unfold OnAir at ha
  rw [loadShare_idle] at ha
  rcases ha with ha | ha <;> exact nomatch ha

/-- In STAGING the quiet watch leaves the phase. -/
theorem loadSite_loads (h : s.site.phase = .staging) : Loads s (loadSite s img) ∧ (loadSite s img).share = s.share
    ∧ (loadSite s img).cfg = { s.cfg with
        acceptMask := img.acceptMask, feeders := img.feeders, quiet := img.quiet, filters := img.filters } := by
  unfold loadSite
  generalize hv : (s.settings fun cfg =>
    { cfg with acceptMask := img.acceptMask, feeders := img.feeders, quiet := img.quiet, filters := img.filters }) = v
  have hl : v.site.phase ≠ .live := by
    rw [← hv]
    show s.site.phase ≠ .live
    rw [h]
    decide
  have hs : Loads s v := by
    rw [← hv]
    exact ⟨rfl, rfl, rfl, rfl, rfl⟩
  have hc : v.cfg = { s.cfg with
      acceptMask := img.acceptMask, feeders := img.feeders, quiet := img.quiet, filters := img.filters } := by
    rw [← hv]
    rfl
  have hh : v.share = s.share := by
    rw [← hv]
    rfl
  cases he : expiryDue v
  · have k := quietCheck_idle he
    exact ⟨hs.trans (.noticed k ⟨rfl, rfl, rfl, rfl, rfl⟩), k.share.trans hh, k.cfg.trans hc⟩
  · have k := quietCheck_stays he hl
    exact ⟨hs.trans (.noticed k ⟨rfl, rfl, rfl, rfl, rfl⟩), k.share.trans hh, k.cfg.trans hc⟩

theorem loadPort_loads (p : Port) : Loads s (loadPort s img p) ∧ (loadPort s img p).share = s.share
    ∧ (loadPort s img p).cfg = { s.cfg with ports := s.cfg.ports.put p (img.ports.get p) } := by
  unfold loadPort
  dsimp only
  rw [applySummary_eq]
  refine ⟨⟨rfl, rfl, rfl, rfl, rfl⟩, rfl, ?_⟩
  cases p <;> rfl

theorem loadAccess_loads : Loads s (loadAccess s img) ∧ (loadAccess s img).share = s.share
    ∧ (loadAccess s img).cfg = { s.cfg with minima := img.minima, siteCred := img.siteCred } := by
  obtain ⟨l, g, h⟩ := alignMinimumChanged_noticed
    (s.settings fun cfg => { cfg with minima := img.minima, siteCred := img.siteCred })
  exact ⟨.noticed h ⟨rfl, rfl, rfl, rfl, rfl⟩, h.share, h.cfg⟩

end

/-! ## The whole image -/

/-- What a LOAD in STAGING leaves. -/
structure ImageApplied (s t : State) (img : Settings) : Prop where
  loads : Loads s t
  cfg : t.cfg = img
  idle : ∀ c, (t.share.carriers.get c).state = .idle
  noPermit : ∀ l, t.share.permits.get l = false

theorem applyImage_applied {s : State} (img : Settings) (h : s.site.phase = .staging) :
    ImageApplied s (applyImage s img) img := by
  unfold applyImage
  dsimp only
  have h0 : Loads s (s.settings fun cfg => { cfg with level := img.level }) := ⟨rfl, rfl, rfl, rfl, rfl⟩
  have c0 : (s.settings fun cfg => { cfg with level := img.level }).cfg = { s.cfg with level := img.level } := rfl
  generalize (s.settings fun cfg => { cfg with level := img.level }) = v at h0 c0 ⊢
  obtain ⟨h1, c1⟩ := loadLink_loads v img
  generalize loadLink v img = v1 at h1 c1 ⊢
  obtain ⟨h2, c2⟩ := loadTiming_loads v1 img
  generalize loadTiming v1 img = v2 at h2 c2 ⊢
  obtain ⟨h3, c3⟩ := loadShare_loads v2 img
  have hi := loadShare_idle v2 img
  have hp := loadShare_noPermit v2 img
  generalize loadShare v2 img = v3 at h3 c3 hi hp ⊢
  have hl := h0.trans (h1.trans (h2.trans h3))
  obtain ⟨h4, s4, c4⟩ := loadSite_loads v3 img (hl.phase.trans h)
  generalize loadSite v3 img = v4 at h4 s4 c4 ⊢
  obtain ⟨h5, s5, c5⟩ := loadPort_loads v4 img .main
  generalize loadPort v4 img .main = v5 at h5 s5 c5 ⊢
  obtain ⟨h6, s6, c6⟩ := loadPort_loads v5 img .service
  generalize loadPort v5 img .service = v6 at h6 s6 c6 ⊢
  obtain ⟨h7, s7, c7⟩ := loadAccess_loads v6 img
  generalize loadAccess v6 img = t at h7 s7 c7 ⊢
  have hs : t.share = v3.share := s7.trans (s6.trans (s5.trans s4))
  refine ⟨hl.trans (h4.trans (h5.trans (h6.trans h7))), ?_, fun c => by rw [hs, hi], fun l => by rw [hs, hp]⟩
  rw [c7, c6, c5, c4, c3, c2, c1, c0]
  rfl

theorem handleLoad_loads {s : State} (hp : s.site.phase = .staging) (hw : s.store.writing = none)
    (ht : s.tests.current = none) (hg : s.store.image.good = true) (hl : s.link.state = .off) : handleLoad s =
      (applyImage s s.store.image.settings, .ok [kv "number" (.nat s.store.image.number)] []) := by
  unfold handleLoad
  rw [if_neg (not_not_intro hp), if_neg (by rw [hw, ht]; decide), if_neg (by rw [hg, hl]; decide)]

end Sys2Proof.Machine

open Sys2Proof Sys2Proof.Machine

/-- Settles O58. -/
theorem storeRequestsAct : Obligations.StoreRequestsAct := by
  refine ⟨fun s rq hx => ?_, fun s w good hr hw => ⟨_, lives hr rfl, (saveWriteEnd_ends hw good).1⟩⟩
  intro u taken
  have hu : portLine s rq.port = u := rfl
  clear_value u
  refine ⟨fun hw hn => ?_, fun hw => ?_, fun hp hw ht hg hl => ?_⟩
  · exact answersAt hu hx (handleSave_takes rq.port rq.tag hw hn)
  · exact answersAt hu hx (handleSave_busy rq.port rq.tag hw)
  · have h := applyImage_applied u.store.image.settings hp
    exact ⟨_, answersAt hu hx (handleLoad_loads hp hw ht hg hl), h.cfg, h.loads.store, h.loads.tests, h.loads.bus,
      h.loads.link, h.loads.phase.trans hp, h.idle, h.noPermit⟩

end

section
/-! SUPPORT. The end of every reset: the reshare of carriers that are all IDLE, the alignment that MAST_MOVING begins, and
the autostart (R7, R19, R107, R173). -/

namespace Sys2Proof.Machine

/-! ## A reshare of idle carriers -/

theorem reshare_sheds (s : State) (before : Share) (named : Option (Fin 16 × ShareCause)) (fr : Bool) :
    (reshare s before named fr).counts.sheds =
      (s.share.reshared s.cfg fr).shed.foldl (fun n _ => bump n) s.counts.sheds := by
  unfold reshare
  dsimp only
  generalize s.share.reshared s.cfg fr = r
  rw [(reshareReport_noticed _ _ _ _).1.1, push_foldl_signals]
  unfold deliverAck
  split <;> rfl

/-- A carrier that is not on the air is not shed. -/
theorem reshared_shed_idle {s : State} (h : ∀ c, s.share.carriers.get c = .idle) (fr : Bool) :
    (s.share.reshared s.cfg fr).shed = [] := by
  have hf : ∀ (g : Fin 16 → Carrier), (List.finRange 16).filter (fun c => isShed (s.share.carriers.get c) (g c)) = [] := by
    intro g
    rw [List.filter_eq_nil_iff]
    intro c _
    rw [h c, Bool.not_eq_true]
    rfl
  exact congrArg _ (hf _)

/-- A reshare that delivers and sheds nothing, as notices on the tables, the acknowledgement and the count. -/
theorem Shared.noticed {u t : State} (h : Shared u t) (hg : t.signals = u.signals)
    (hd : t.counts.sheds = u.counts.sheds) : Noticed
      { u with share := t.share, clock := t.clock, counts := { u.counts with reshares := t.counts.reshares } } t := by
  refine ⟨⟨?_, h.1.2.2⟩, h.2⟩
  have e := h.1.1
  rw [hd, hg] at e
  have hk := h.1.clock
  generalize t.clock = k at e hk ⊢
  rw [hk]
  exact e

/-- What the share engine holds after the reshare that ends a reset. -/
structure ShareRests (h h' : Share) : Prop where
  carriers : ∀ c, h'.carriers.get c = .idle
  permits : ∀ l, h'.permits.get l = false
  borrow : h'.borrow = .absent
  orders : h'.orders = h.orders
  phase : h'.phase = h.phase
  base : h'.base = h.base
  reserve : h'.reserve = h.reserve

/-- The reshare that ends a reset. -/
structure IdleReshared (s t : State) : Prop where
  frame : Noticed
    { s with share := t.share, clock := t.clock, counts := { s.counts with reshares := bump s.counts.reshares } } t
  clock : t.clock = { s.clock with
    permitted := if s.share.jump = s.share.ackSent then s.clock.permitted else s.share.jump }
  share : ShareRests s.share t.share

theorem reshare_rested {s : State} (h : ∀ c, s.share.carriers.get c = .idle) (hb : s.share.borrow = .absent)
    (before : Share) : ShareRests s.share (reshare s before none false).share := by
  have hr : ∀ c, (reshare s before none false).share.carriers.get c = .idle := fun c => reshare_rests (h c) _ _ _
  refine ⟨hr, fun l => ?_, ?_, ?_, ?_, ?_, ?_⟩
  · rw [← Bool.not_eq_true, reshare_permitsAgree]
    rintro ⟨c, d, -, -, ha⟩
    unfold OnAir at ha
    rw [hr] at ha
    rcases ha with ha | ha <;> exact nomatch ha
  · rw [reshare_borrow, borrowAfter_absent s false hb]
  all_goals
    rw [reshare_share]
    rfl

theorem reshare_idleReshared {s : State} (h : ∀ c, s.share.carriers.get c = .idle) (hb : s.share.borrow = .absent)
    (before : Share) : IdleReshared s (reshare s before none false) := by
  have hd : (reshare s before none false).counts.sheds = s.counts.sheds := by
    rw [reshare_sheds, reshared_shed_idle h]
    rfl
  have hg : (reshare s before none false).signals = s.signals := by
    rw [reshare_delivers, borrowAfter_absent s false hb, List.append_nil]
  have hn := (reshare_shared s before none false).noticed hg hd
  rw [reshare_counts] at hn
  exact ⟨hn, reshare_clock s before none false, reshare_rested h hb before⟩

end Sys2Proof.Machine
end

section
/-! SUPPORT. The autostart of a reset, and what every reset ends with (R7, R19, R107, R173). -/

namespace Sys2Proof.Machine

/-! ## The link after a reset -/

/-- An event of the link supervisor that leaves the base reshares nothing. -/
theorem linkCommit_quiet {s : State} {old : Link} (h : baseOf s.cfg s.link = old.base) (c : String) : ∃ g, Noticed
    { s with link := { s.link with base := baseOf s.cfg s.link }, signals := g } (linkCommit s old c) := by
  have hn : ∀ (t : State) (p : Prop) [Decidable p] (w : List String) (l : List Pair),
      Noticed t (if p then t else noticeBoth t .link w l) := by
    intro t p _ w l
    split
    · exact .refl t
    · exact noticeBoth_noticed _ _ _ _
  have hp : ∀ (t u : State) (p : Prop) [Decidable p] (a b : Signal), Noticed t u → Noticed
      { t with signals := if p then t.signals else (t.signals ++ [a]) ++ [b] } (if p then u else (u.push a).push b) := by
    intro t u p _ a b k
    split
    · exact k
    · exact (k.push a).push b
  unfold linkCommit
  dsimp only
  rw [if_pos (show (s.onLink fun k => { k with base := baseOf s.cfg k }).link.base = old.base from h)]
  refine ⟨_, Noticed.trans (hp (s.onLink fun k => { k with base := baseOf s.cfg k }) _ _ _ _ ?_) (syncSummary_noticed _ _)⟩
  exact (hn _ _ _ _).trans (hn _ _ _ _)

/-- The first write of the init sequence, handed over. -/
theorem linkStart_atReset {s : State} {lock : Bool} (hl : s.link = .atReset lock) (hb : s.bus = .atReset) (c : String) :
    ∃ k b g, Noticed { s with link := k, bus := b, signals := g } (linkStart s c)
      ∧ k.state = .acquire ∧ k.init.isSome = true := by
  have hi : (linkStarting s).link.init = some (newInit false) := rfl
  have hd : (linkStarting s).link.discardInit = false := by
    show s.link.discardInit = false
    rw [hl]
    rfl
  have hs : (linkStarting s).bus.internalSlot = none := by
    show s.bus.internalSlot = none
    rw [hb]
    rfl
  rw [linkStart_eq, offerInit_free hi hd hs]
  generalize hv : (((linkStarting s).onBus fun b =>
    { b with internalSlot := some (initTxn (linkStarting s).cfg (newInit false)) }).push .busChoose).onLink (fun k =>
      { k with init := some { newInit false with
          place := .offered, formed := some (initForm (linkStarting s).cfg (newInit false)) } }) = v
  have hst : v.link.state = .acquire := by
    rw [← hv]
    show bringUpState s.link = .acquire
    rw [hl]
    rfl
  have hin : v.link.init.isSome = true := by
    rw [← hv]
    rfl
  have hbase : baseOf v.cfg v.link = s.link.base := by
    rw [baseOf_not_carries v.cfg (by rw [hst]; rfl), hl]
    rfl
  obtain ⟨g, h⟩ := linkCommit_quiet hbase c
  have hf : { s with
      link := { v.link with base := baseOf v.cfg v.link }, bus := v.bus, signals := g } =
      { v with link := { v.link with base := baseOf v.cfg v.link }, signals := g } := by
    rw [← hv]
    rfl
  rw [← hf] at h
  exact ⟨_, _, g, h, hst, hin⟩

/-! ## The end of a reset -/

/-- What a reset leaves of the state `w` in which its blocks stand. -/
structure ResetEnded (w t : State) : Prop where
  frame : ∃ l k b g, Noticed
    { w with
      level := l, link := k, bus := b, signals := g, share := t.share, clock := t.clock
      counts := { w.counts with reshares := bump w.counts.reshares } } t
  clock : t.clock = { w.clock with
    permitted := if w.share.jump = w.share.ackSent then w.clock.permitted else w.share.jump }
  share : ShareRests w.share t.share
  level : w.site.inputs.mastMoving.filtered = false → t.level = w.level
  mast : w.site.inputs.mastMoving.filtered = true → t.level.align.map (·.owner) = some .mast
  stays : w.cfg.link.autostart = false → t.link = w.link ∧ t.bus = w.bus
  started : w.cfg.link.autostart = true → t.link.state = .acquire ∧ t.link.init.isSome = true

theorem levelMasted_owner {s : State} (h : s.level.align = none) : (levelMasted s).align.map (·.owner) = some .mast := by
  rw [levelMasted_begins h]
  rfl

/-- MAST_MOVING, asserted at a reset, begins an alignment. -/
theorem mastIf_ends {s : State} (ha : s.level.align = none) (b : Bool) : ∃ l g, Noticed
    { s with level := l, signals := g } (if b then levelMast s true else s)
      ∧ (b = false → l = s.level) ∧ (b = true → l.align.map (·.owner) = some .mast) := by
  cases b with
  | false => exact ⟨s.level, s.signals, .refl s, fun _ => rfl, nofun⟩
  | true => exact ⟨_, _, levelMast_asserted s, nofun, fun _ => levelMasted_owner ha⟩

theorem autostartIf_ends {s : State} {lock : Bool} (hl : s.link = .atReset lock) (hb : s.bus = .atReset) (b : Bool) :
    ∃ k u g, Noticed { s with link := k, bus := u, signals := g } (if b then linkStart s "AUTOSTART" else s)
      ∧ (b = false → k = s.link ∧ u = s.bus) ∧ (b = true → k.state = .acquire ∧ k.init.isSome = true) := by
  cases b with
  | false => exact ⟨s.link, s.bus, s.signals, .refl s, fun _ => ⟨rfl, rfl⟩, nofun⟩
  | true =>
    obtain ⟨k, u, g, h, h1, h2⟩ := linkStart_atReset hl hb "AUTOSTART"
    exact ⟨k, u, g, h, nofun, fun _ => ⟨h1, h2⟩⟩

theorem endReset_ended {w : State} {lock : Bool} (hc : ∀ c, w.share.carriers.get c = .idle)
    (hb : w.share.borrow = .absent) (ha : w.level.align = none) (hl : w.link = .atReset lock) (hu : w.bus = .atReset) :
    ResetEnded w (endReset w) := by
  obtain ⟨n1, hck, hsh⟩ := reshare_idleReshared hc hb w.share
  unfold endReset
  dsimp only
  generalize reshare w w.share none false = v1 at n1 hck hsh ⊢
  have n2 := n1.trans (noticeBoth_noticed v1 .site ["RESET"] [kv "cause" (.word v1.site.cause.word)])
  generalize noticeBoth v1 .site ["RESET"] [kv "cause" (.word v1.site.cause.word)] = v2 at n2 ⊢
  have hm : v2.site.inputs.mastMoving.filtered = w.site.inputs.mastMoving.filtered := by rw [n2.site]
  have hal : v2.level.align = none := by rw [n2.level]; exact ha
  obtain ⟨l, g, n3, l1, l2⟩ := mastIf_ends hal v2.site.inputs.mastMoving.filtered
  generalize (if v2.site.inputs.mastMoving.filtered = true then levelMast v2 true else v2) = v3 at n3 ⊢
  have n4 := ((n2.onLevel fun _ => l).withSignals g).trans n3
  have hl3 : v3.link = .atReset lock := by rw [n4.link]; exact hl
  have hu3 : v3.bus = .atReset := by rw [n4.bus]; exact hu
  have hau : v3.cfg.link.autostart = w.cfg.link.autostart := by
    rw [n4.cfg]
    rfl
  obtain ⟨k, u, g', n5, k1, k2⟩ := autostartIf_ends hl3 hu3 v3.cfg.link.autostart
  generalize (if v3.cfg.link.autostart = true then linkStart v3 "AUTOSTART" else v3) = t at n5 ⊢
  have n6 := (((n4.onLink fun _ => k).onBus fun _ => u).withSignals g').trans n5
  have hts : t.share = v1.share := n6.share
  have htc : t.clock = v1.clock := n6.clock
  have htl : t.level = l := n6.level
  have htk : t.link = k := n6.link
  have htb : t.bus = u := n6.bus
  rw [hm] at l1 l2
  rw [hau] at k1 k2
  refine ⟨⟨l, k, u, g', ?_⟩, htc.trans hck, hts ▸ hsh, fun h => ?_, fun h => ?_, fun h => ?_, fun h => ?_⟩
  · rw [hts, htc]
    exact n6
  · rw [htl, l1 h, n2.level]
  · rw [htl]
    exact l2 h
  · obtain ⟨e1, e2⟩ := k1 h
    rw [htk, htb, e1, e2, hl3, hu3, hl, hu]
    exact ⟨rfl, rfl⟩
  · rw [htk]
    exact k2 h

end Sys2Proof.Machine
end

section
/-! SUPPORT. Power-on and pin resets (R68, R78, R173, R175, R203), and O8 and O9. -/

namespace Sys2Proof.Machine

section
variable {w t : State} (h : ResetEnded w t)
include h

theorem ResetEnded.cfg : t.cfg = w.cfg := by
  obtain ⟨_, _, _, _, k⟩ := h.frame
  exact k.cfg

theorem ResetEnded.run : t.run = w.run := by
  obtain ⟨_, _, _, _, k⟩ := h.frame
  exact k.run

theorem ResetEnded.timing : t.timing = w.timing := by
  obtain ⟨_, _, _, _, k⟩ := h.frame
  exact k.timing

theorem ResetEnded.tests : t.tests = w.tests := by
  obtain ⟨_, _, _, _, k⟩ := h.frame
  exact k.tests

theorem ResetEnded.site : t.site = w.site := by
  obtain ⟨_, _, _, _, k⟩ := h.frame
  exact k.site

theorem ResetEnded.store : t.store = w.store := by
  obtain ⟨_, _, _, _, k⟩ := h.frame
  exact k.store

theorem ResetEnded.rest : t.pending = w.pending ∧ t.free = w.free ∧ t.rc = w.rc := by
  obtain ⟨_, _, _, _, k⟩ := h.frame
  exact ⟨k.pending, k.free, k.rc⟩

theorem ResetEnded.counts : t.counts =
    { w.counts with reshares := bump w.counts.reshares, noticeDrops := t.counts.noticeDrops } := by
  obtain ⟨_, _, _, _, k⟩ := h.frame
  exact PortsOnly.counts k.1.1

theorem ResetEnded.ports (p : Port) : SameLine (w.port p) (t.port p) := by
  obtain ⟨_, _, _, _, k⟩ := h.frame
  exact k.1.2 p

end

/-! ## The blocks of a reset -/

theorem resetBlocks_ended (x : State) (cause : ResetCause) :
    ResetEnded (resetBlocks x cause) (endReset (resetBlocks x cause)) :=
  endReset_ended (lock := x.site.inputs.oduLock.filtered) replicate_idle rfl rfl rfl rfl

theorem resetBlocks_port (x : State) (cause : ResetCause) (p : Port) :
    SameLine (.atReset (x.cfg.ports.get p) .atReset) ((resetBlocks x cause).port p) := by
  cases p <;> exact ⟨rfl, rfl, rfl, rfl, rfl, rfl⟩

/-! ## The image read -/

theorem abandon_idle {x : Store} (h : x.writing = none) : x.abandon = x := by
  unfold Store.abandon
  rw [h]

theorem abandon_image (s : State) : s.store.abandon.image = { s.store.image with good := imageAgrees s } := by
  unfold Store.abandon imageAgrees
  cases s.store.writing <;> rfl

theorem readStore_fields (s : State) :
    (readStore { s with store := s.store.abandon }).cfg =
        (if imageAgrees s then s.store.image.settings else .factory)
      ∧ (readStore { s with store := s.store.abandon }).store =
        { image := { s.store.image with good := imageAgrees s }, blank := !imageAgrees s, writing := none } := by
  have hw := (abandon_fields s.store).2
  have hi := abandon_image s
  unfold readStore
  dsimp only
  rw [abandon_idle hw, hi, hw]
  exact ⟨rfl, rfl⟩

/-- The part as its blocks are reset: the image read, the inputs settled, the clock and the selector afresh. -/
def fullReady (s : State) : State :=
  let s := readStore { s with store := s.store.abandon }
  let s := s.onSite fun x => { x with inputs := settledInputs x.inputs }
  { s with clock := .atReset s.cfg, timing := .atReset s.cfg, rc := { s.rc with ms := 0 } }

theorem fullReset_eq (s : State) (cause : ResetCause) :
    fullReset s cause = endReset (resetBlocks (fullReady s) cause) := rfl

structure FullReady (s y : State) : Prop where
  cfg : y.cfg = if imageAgrees s then s.store.image.settings else .factory
  store : y.store =
    { image := { s.store.image with good := imageAgrees s }, blank := !imageAgrees s, writing := none }
  inputs : y.site.inputs = settledInputs s.site.inputs
  clock : y.clock = .atReset y.cfg
  timing : y.timing = .atReset y.cfg
  rest : y.pending = s.pending ∧ y.free = s.free ∧ y.rc = { s.rc with ms := 0 }

theorem fullReady_ready (s : State) : FullReady s (fullReady s) := by
  obtain ⟨hcfg, hstore⟩ := readStore_fields s
  exact ⟨hcfg, hstore, rfl, rfl, rfl, rfl, rfl, rfl⟩

/-- What every power-on or pin reset ends with. -/
theorem fullReset_after (s : State) (cause : ResetCause) :
    AfterFullReset s (fullReset s cause) s.site.inputs cause := by
  have hy := fullReady_ready s
  rw [fullReset_eq]
  generalize fullReady s = y at hy ⊢
  have h := resetBlocks_ended y cause
  have hc : (endReset (resetBlocks y cause)).cfg = y.cfg := h.cfg
  have hmast : (resetBlocks y cause).site.inputs.mastMoving.filtered = s.site.inputs.mastMoving.pin := by
    show y.site.inputs.mastMoving.filtered = _
    rw [hy.inputs]
    rfl
  generalize endReset (resetBlocks y cause) = t at h hc ⊢
  constructor
  case running => exact h.run
  case settings => rw [hc, hy.cfg]
  case blank => rw [h.store, show (resetBlocks y cause).store = y.store from rfl, hy.store]
  case image =>
    rw [h.store, show (resetBlocks y cause).store = y.store from rfl, hy.store]
    exact ⟨rfl, rfl⟩
  case site =>
    rw [h.site, ← hy.inputs]
    rfl
  case clock =>
    have hj : y.timing.jumpReq = none := by
      rw [hy.timing]
      rfl
    have hs : (resetBlocks y cause).share.jump = false ∧ (resetBlocks y cause).share.ackSent = true := by
      show y.timing.jumpReq.isSome = false ∧ (!y.timing.jumpReq.isSome) = true
      rw [hj]
      exact ⟨rfl, rfl⟩
    rw [h.clock, hc, show (resetBlocks y cause).clock = y.clock from rfl, hy.clock, hs.1, hs.2]
    rfl
  case timing => rw [h.timing, hc, show (resetBlocks y cause).timing = y.timing from rfl, hy.timing]
  case tests => exact h.tests
  case bus => exact fun ha => (h.stays (hc ▸ ha)).2
  case link =>
    intro ha
    refine (h.stays (hc ▸ ha)).1.trans ?_
    show Link.atReset y.site.inputs.oduLock.filtered = _
    rw [hy.inputs]
    rfl
  case started => exact fun ha => h.started (hc ▸ ha)
  case level =>
    intro hm
    rw [h.level (hmast.trans hm), hc]
    rfl
  case mast => exact fun hm => h.mast (hmast.trans hm)
  case noPermit => exact h.share.permits
  case carriers =>
    intro c
    rw [h.share.carriers]
    rfl
  case ports =>
    intro p
    rw [hc]
    exact (resetBlocks_port y cause p).trans (h.ports p)
  case oneReshare =>
    rw [h.counts]
    rfl
  case untouched =>
    obtain ⟨e1, e2, e3⟩ := h.rest
    obtain ⟨r1, r2, r3⟩ := hy.rest
    rw [e1, e2, e3]
    exact ⟨r1, r2, r3⟩

/-- What the reset leaves depends on the store, the queue and the free values of the state alone. -/
theorem AfterFullReset.of_store {s s' t : State} {v : PerInput Input} {c : ResetCause} (h : AfterFullReset s' t v c)
    (hs : s'.store = s.store) (hr : s'.pending = s.pending ∧ s'.free = s.free ∧ s'.rc = s.rc) :
    AfterFullReset s t v c := by
  have hi : imageAgrees s' = imageAgrees s := by
    unfold imageAgrees
    rw [hs]
  obtain ⟨r1, r2, r3⟩ := hr
  have h1 := h.settings
  have h2 := h.blank
  have h3 := h.image
  have h4 := h.untouched
  rw [hi, hs] at h1
  rw [hi] at h2
  rw [hi, hs] at h3
  rw [r1, r2, r3] at h4
  exact { h with settings := h1, blank := h2, image := h3, untouched := h4 }

/-- A part that RESET_N holds from power-on. -/
def heldOn (s : State) : State := pinReset { s with cfg := .factory, rc := { s.rc with ms := 0 } }

theorem powerOn_held {s : State} (h : s.site.inputs.resetN.pin = false) : settle (powerOn s) = heldOn s := by
  have e : powerOn s = heldOn s := by
    unfold powerOn
    rw [h]
    rfl
  rw [e]
  exact settle_none _ rfl

/-- The inputs of a part that RESET_N has been let go of. -/
def resetReleased (s : State) : State := s.onSite fun x => { x with inputs := resetHigh x.inputs }

theorem pinResetEnd_eq (s : State) : pinResetEnd s = fullReset (resetReleased s) .pin := rfl

end Sys2Proof.Machine

open Sys2Proof Sys2Proof.Machine

/-- Settles O8. -/
theorem powerOnResets : Obligations.PowerOnResets := by
  intro s
  refine ⟨fun h => ⟨fullReset s .power, ?_, fullReset_after s .power⟩, fun h => ⟨heldOn s, ?_, rfl, rfl, ?_, ?_⟩⟩
  · have e : powerOn s = fullReset s .power := if_pos h
    rw [← e]
    rfl
  · have e := powerOn_held h
    rw [← e]
    rfl
  · exact fun l => replicate_get false l
  · exact abandon_good _

/-- Settles O9. -/
theorem pinResetEndResets : Obligations.PinResetEndResets := by
  intro s hr
  have h := (fullReset_after (resetReleased s) .pin).of_store (s := s) rfl ⟨rfl, rfl, rfl⟩
  rw [← pinResetEnd_eq] at h
  refine ⟨pinResetEnd s, ?_, h⟩
  show Host.Outcome.next (if s.run = .held then settle (pinResetEnd s) else s) = _
  rw [if_pos hr]

end

section
/-! SUPPORT. RESTART (R68, R79, R107, R183, R203), and O12. -/

namespace Sys2Proof.Machine

/-- The clock of a RESTART, but for its copy of the acknowledgement. -/
def restartedClock (k : Clock) : Clock :=
  { k with
    auxCount := 0, divert := none
    captures := if k.divert.isSome then k.captures.put .aux .cleared else k.captures
    lastDiverted := if k.divert.isSome then none else k.lastDiverted }

theorem restartClock_eq (s : State) : restartClock s = { s with clock := restartedClock s.clock } := by
  unfold restartClock restartedClock
  cases h : s.clock.divert with
  | none =>
    show { s with clock := { s.clock with auxCount := 0 } } = _
    rw [show ({ s.clock with auxCount := 0 } : Clock) = { s.clock with auxCount := 0, divert := none } by rw [← h]]
    rfl
  | some n => rfl

/-- The part as its blocks are reset by a RESTART. -/
def restartReady (s : State) : State :=
  { s with
    cfg := restartSettings s, store := { s.store with blank := restartBlank s }, clock := restartedClock s.clock
    timing := { s.timing with sources := s.timing.sources.map fun r => { r with mark := none } } }

/-- The blocks, reset by a RESTART. -/
def restarted (s : State) : State := endReset (resetBlocks (restartReady s) .restart)

theorem restartTakesPlace_eq {s : State} (h : s.site.restart.isSome) :
    restartTakesPlace s = (restarted s).push (.linkToTiming (restarted s).link.state) := by
  have e : restartReady s = restartTiming (restartClock
      { s with cfg := restartSettings s, store := { s.store with blank := restartBlank s } }) := by
    rw [restartClock_eq]
    rfl
  unfold restarted restartTakesPlace restartEffect
  rw [e, if_pos h]

theorem restarted_ended (s : State) : ResetEnded (resetBlocks (restartReady s) .restart) (restarted s) := by
  unfold restarted
  exact resetBlocks_ended (restartReady s) .restart

theorem resetBlocks_cfg (x : State) (cause : ResetCause) : (resetBlocks x cause).cfg = x.cfg := rfl

theorem resetBlocks_store (x : State) (cause : ResetCause) : (resetBlocks x cause).store = x.store := rfl

theorem restarted_cfg (s : State) : (restarted s).cfg = restartSettings s := by
  rw [(restarted_ended s).cfg, resetBlocks_cfg]
  rfl

theorem restarted_clock (s : State) : (restarted s).clock =
    { restartedClock s.clock with permitted := s.timing.jumpReq.isSome } := by
  rw [(restarted_ended s).clock]
  have hj : (resetBlocks (restartReady s) .restart).share.jump = s.timing.jumpReq.isSome := rfl
  have hs : (resetBlocks (restartReady s) .restart).share.ackSent = !s.timing.jumpReq.isSome := rfl
  rw [hj, hs]
  cases s.timing.jumpReq <;> rfl

theorem restarted_port (s : State) (p : Port) : ((restarted s).port p).access = .opened
    ∧ ((restarted s).port p).rxq = [] ∧ ((restarted s).port p).waiting = [] := by
  obtain ⟨-, h2, h3, h4, -, -⟩ := (resetBlocks_port (restartReady s) .restart p).trans ((restarted_ended s).ports p)
  exact ⟨h4, h2, h3⟩

end Sys2Proof.Machine

open Sys2Proof Sys2Proof.Machine

/-- Settles O12. -/
theorem restartKeepsTiming : Obligations.RestartKeepsTiming := by
  intro s hr hp
  have h := restarted_ended s
  have hc := restarted_cfg s
  have hk := restarted_clock s
  have hx := restarted_port s
  have e := restartTakesPlace_eq hp
  generalize restarted s = t at h hc hk hx e
  refine ⟨_, lives hr e, hk, ?_, hc, ?_, ?_, ?_, ?_, ?_, ?_, h.tests, h.site, fun hm => ?_,
    h.mast, fun ha => ?_, fun ha => ?_, h.share.carriers, h.share.borrow, ?_, ?_, ?_, ?_, h.share.permits, ?_,
    hx⟩
  · exact h.timing
  · exact (congrArg (fun c => c.timing) hc).trans rfl
  · exact (congrArg (fun c => c.sources) hc).trans rfl
  · exact (congrArg (fun c => c.pulse) hc).trans rfl
  · exact (congrArg (fun c => c.auxDiv) hc).trans rfl
  · show t.store.writing = _
    rw [h.store, resetBlocks_store]
    rfl
  · show t.store.image = _
    rw [h.store, resetBlocks_store]
    rfl
  · refine (h.level hm).trans ?_
    show _ = Level.atReset t.cfg
    rw [hc]
    rfl
  · replace ha : t.cfg.link.autostart = false := ha
    rw [hc] at ha
    exact h.stays ha
  · replace ha : t.cfg.link.autostart = true := ha
    rw [hc] at ha
    exact h.started ha
  · exact h.share.orders
  · exact h.share.phase
  · exact h.share.base
  · refine h.share.reserve.trans ?_
    show _ = t.cfg.link.reserve
    rw [hc]
    rfl
  · exact h.counts

end

section
/-! SUPPORT. The read requests (R14–R211), and O60. -/

namespace Sys2Proof.Machine

/-! ## The records that the replies give -/

theorem handleAlignRead_none {u : State} (h : u.level.align = none) :
    handleAlignRead u = (u, .ok [kv "owner" .absent] []) := by
  unfold handleAlignRead
  rw [h]

theorem handleAlignRead_some {u : State} {a : AlignRec} (h : u.level.align = some a) :
    handleAlignRead u =
      (u, .ok [kv "owner" (.word a.owner.word), kv "mast" (.mark a.mastFlag), kv "start" (.time a.start),
         kv "level" (.optInt a.current), kv "peak" (.optInt (a.peak.map (·.1))),
         kv "peaktime" (.optTime (a.peak.map (·.2))), kv "reports" (.nat a.reports), kv "interval" (.nat a.interval),
         kv "next" (.nat a.toNext)] []) := by
  unfold handleAlignRead
  rw [h]
  rfl

theorem templatePairs_eq (cfg : Settings) (n : TemplateName) :
    templatePairs cfg n =
      [kv "name" (.word n.word), kv "addr" (.nat (cfg.templates.get n).addr),
        kv "bytes" (.bytes (cfg.templates.get n).bytes)]
        ++ (if n = .profile then [kv "pos" (.nat (cfg.templates.get n).pos)] else []) := by
  cases n <;> rfl

theorem Share.granted_eq (h : Share) :
    h.granted = (h.tenants.get 0).granted + (h.tenants.get 1).granted + (h.tenants.get 2).granted
      + (h.tenants.get 3).granted := by
  unfold Share.granted tenantSum
  rfl

theorem holdVal_eq (o : Option HoldTimer) :
    holdVal o = match o with
      | none => .absent | some (.ms n) => .nat n | some .untilCancelled => .word "UNTIL_CANCELLED" := by
  cases o with
  | none => rfl
  | some t => cases t <;> rfl

theorem handleShareRead_eq (u : State) :
    handleShareRead u =
      (u, .ok ([kv "base" (.nat u.share.base), kv "reserve" (.nat u.share.reserve),
           kv "full" (.nat (u.share.base - u.share.reserve)), kv "pool" (.nat u.share.pool)]
          ++ (match u.share.borrow with
            | .absent => [kv "borrow" .absent, kv "amount" .absent, kv "test" .absent]
            | .waiting n t => [kv "borrow" (.word "WAITING"), kv "amount" (.nat n), kv "test" (.nat t)]
            | .held n t => [kv "borrow" (.word "HELD"), kv "amount" (.nat n), kv "test" (.nat t)])
          ++ [kv "total" (.nat ((u.share.tenants.get 0).granted + (u.share.tenants.get 1).granted
                + (u.share.tenants.get 2).granted + (u.share.tenants.get 3).granted)),
              kv "grade" (.word u.share.grade.word), kv "jump" (.word (if u.share.jump then "PRESENT" else "NONE")),
              kv "jumphold" (.mark u.share.ack), kv "phase" (.word u.share.phase.word),
              kv "orders" (.nat u.share.orders), kv "lend" (.nat u.cfg.borrow), kv "restore" (.nat u.cfg.restoreHold)])
          (((List.finRange 4).filter fun k => (u.cfg.tenants.get k).defined).map fun k =>
            [kv "t" (.nat k.val), kv "admitted" (.nat (u.share.tenants.get k).admitted),
             kv "granted" (.nat (u.share.tenants.get k).granted)])) := by
  unfold handleShareRead
  dsimp only
  rw [Share.granted_eq]
  cases u.share.borrow <;> rfl

/-! ## The one object that a read names -/

theorem optIndexOf_val (n : Nat) (p : Fin n) : optIndexOf n (some (p.val : Int)) = some (some p) := by
  show (indexOf n (some (p.val : Int))).map some = _
  rw [indexOf_val]
  rfl

theorem handleProfileRead_val (u : State) (p : Fin 8) :
    handleProfileRead u (some p.val) = (u, .ok (profilePairs u.cfg p) []) := by
  unfold handleProfileRead
  rw [optIndexOf_val]

theorem handleCaptureRead_val (u : State) (i : Fin 3) :
    handleCaptureRead u (some i.val) = (u, .ok (capturePairs u (sourceAt i) ++ captureTail u) []) := by
  unfold handleCaptureRead
  rw [optIndexOf_val]

theorem handleSourceRead_val (u : State) (i : Fin 3) :
    handleSourceRead u (some i.val) = (u, .ok (sourcePairs u (sourceAt i)) []) := by
  unfold handleSourceRead
  rw [optIndexOf_val]

theorem handleCarrierRead_val (u : State) (c : Fin 16) :
    handleCarrierRead u (some c.val) = (u, .ok (carrierPairs u c) []) := by
  unfold handleCarrierRead
  rw [optIndexOf_val]

/-! ## Tests (R153, R156) -/

theorem testNumber_val {n : Nat} (h1 : 1 ≤ n) (h9 : n ≤ 999) : testNumber (some n) = some n := by
  show (if 1 ≤ (n : Int) ∧ (n : Int) ≤ 999 then some (n : Int).toNat else none) = some n
  rw [if_pos (by omega), Int.toNat_natCast]

section
variable {u : State} {r : TestRec} (h1 : 1 ≤ r.number) (h9 : r.number ≤ 999)
include h1 h9

theorem handleTestRead_current (hc : u.tests.current = some r) :
    handleTestRead u (some r.number) =
      (u, .ok (testHead r ++ currentPairsOf u r ++ paramPairs r.params ++ testerPairs r u.tests.tester) []) := by
  unfold handleTestRead
  simp only [testNumber_val h1 h9, hc, Option.filter_some, beq_self_eq_true, if_true]

theorem handleTestRead_queued (hc : u.tests.current.map (·.number) ≠ some r.number)
    (hq : (u.tests.queue.find? fun x => x.number == r.number) = some r) :
    handleTestRead u (some r.number) = (u, .ok (testHead r ++ paramPairs r.params) []) := by
  have hf : (u.tests.current.filter fun x => x.number == r.number) = none := by
    cases e : u.tests.current with
    | none => rfl
    | some x =>
      rw [e] at hc
      have hx : x.number ≠ r.number := fun k => hc (congrArg some k)
      rw [Option.filter_some, if_neg (by rw [beq_iff_eq]; exact hx)]
  unfold handleTestRead
  simp only [testNumber_val h1 h9, hf, hq]

end

theorem handleResultRead_logged {u : State} {r : TestRec}
    (h : (u.tests.log.find? fun x => x.number == r.number) = some r) :
    handleResultRead u (some r.number) =
      (u, .ok (testHead r ++ [kv "reason" (reasonVal r.reason), kv "cleanup" (cleanupMark r),
                              kv "start" (secVal r.start), kv "end" (secVal r.finish)]
                ++ paramPairs r.params ++ (resultRecords r.kind r.results).1) (resultRecords r.kind r.results).2) := by
  have e : (fun x : TestRec => (x.number : Int) == (r.number : Int)) = fun x => x.number == r.number := by
    funext x
    rw [Bool.eq_iff_iff, beq_iff_eq, beq_iff_eq, Int.ofNat_inj]
  unfold handleResultRead
  simp only [e, h]

/-! ## Results of bus transactions (R54) -/

theorem handleBusResult_all (u : State) (p : Port) :
    handleBusResult u p none =
      (u, .ok [kv "held" (.nat (u.bus.results.get p).length)] ((u.bus.results.get p).map resultPairs)) := rfl

theorem handleBusResult_tag (u : State) (p : Port) {n : Nat} (hn : n ≤ 9999) :
    handleBusResult u p (some n) =
      (u, .ok [] (((u.bus.results.get p).filter fun x => x.tag.any fun g => g.value == n).map resultPairs)) := by
  have hr : inRange 0 9999 (some (n : Int)) = true := by
    simp only [inRange]
    exact decide_eq_true (by omega)
  have ef : (fun x : Txn => match x.tag with | none => false | some g => (g.value : Int) == (n : Int))
      = fun x => x.tag.any fun g => g.value == n := by
    funext x
    cases x.tag with
    | none => rfl
    | some g =>
      show ((g.value : Int) == (n : Int)) = (g.value == n)
      rw [Bool.eq_iff_iff, beq_iff_eq, beq_iff_eq, Int.ofNat_inj]
  unfold handleBusResult
  rw [hr, ← ef]
  rfl

/-! ## Tenants (R111) -/

section
variable {u : State} {p : Port}

theorem handleTenantRead_site (h : (u.port p).access = .site) (t : Fin 4) :
    handleTenantRead u p (some t.val) = (u, .ok (tenantPairs u t) []) := by
  unfold handleTenantRead
  rw [optIndexOf_val, h]

theorem handleTenantRead_siteAll (h : (u.port p).access = .site) :
    handleTenantRead u p none = (u, .ok [] ((List.finRange 4).map (tenantPairs u))) := by
  unfold handleTenantRead
  rw [h]
  rfl

theorem handleTenantRead_own {t : Fin 4} (h : (u.port p).access = .tenant t) :
    handleTenantRead u p (some t.val) = (u, .ok (tenantPairs u t) []) := by
  unfold handleTenantRead
  rw [optIndexOf_val, h]
  exact if_pos rfl

theorem handleTenantRead_ownAll {t : Fin 4} (h : (u.port p).access = .tenant t) :
    handleTenantRead u p none = (u, .no .noLevel) := by
  unfold handleTenantRead
  rw [h]
  rfl

end

end Sys2Proof.Machine

open Sys2Proof Sys2Proof.Machine

/-- Settles O60: each read gives the record of its object. -/
theorem readsAnswer : Obligations.ReadsAnswer := by
  intro s rq ht he u
  have hu : portLine s rq.port = u := rfl
  clear_value u
  have hx {n : Need} (hm : n.met u rq.port = true) : Executes s rq n := ⟨ht, he, hu ▸ hm⟩
  intro answers high source align k g profile template b bus c l capture aux τ timing selector h borrow total carrier
  have hcarrier : carrierPairs u = carrier := by
    funext x
    simp only [carrierPairs, carrier, h]
    cases u.cfg.carriers.get x with
    | none => rfl
    | some d =>
      dsimp only
      rw [holdVal_eq] <;> rfl
  intros
  refine ⟨fun hv => ?_, fun hb => ?_, fun hc ha => ?_, fun t hc ha => ?_⟩
  · refine ⟨?_, answersAt hu (hx hv) rfl, ?_, answersAt hu (hx hv) rfl, answersAt hu (hx hv) rfl, ?_,
      answersAt hu (hx hv) rfl, answersAt hu (hx hv) rfl, answersAt hu (hx hv) rfl,
      fun p => answersAt hu (hx hv) (handleProfileRead_val u p), answersAt hu (hx hv) rfl,
      fun n => answersAt hu (hx hv) (congrArg (fun l => (u, Reply.ok l [])) (templatePairs_eq u.cfg n)), answersAt hu (hx hv) rfl,
      fun i => ⟨answersAt hu (hx hv) (handleCaptureRead_val u i), answersAt hu (hx hv) (handleSourceRead_val u i)⟩,
      answersAt hu (hx hv) rfl, answersAt hu (hx hv) rfl,
      fun x => answersAt hu (hx hv) (hcarrier ▸ handleCarrierRead_val u x), answersAt hu (hx hv) (hcarrier ▸ rfl),
      fun f => answersAt hu (hx hv) rfl, answersAt hu (hx hv) rfl, answersAt hu (hx hv) rfl,
      fun r h1 h9 hc => answersAt hu (hx hv) (handleTestRead_current h1 h9 hc),
      fun r h1 h9 hc hq => answersAt hu (hx hv) (handleTestRead_queued h1 h9 hc hq),
      answersAt hu (hx hv) rfl, fun r hr => answersAt hu (hx hv) (handleResultRead_logged hr)⟩
    · cases ha : u.level.align with
      | none => exact answersAt hu (hx hv) (by simp only [handleAlignRead_none ha, align, ha])
      | some a => exact answersAt hu (hx hv) (by simp only [handleAlignRead_some ha, align, ha])
    · exact answersAt hu (hx hv) rfl
    · exact answersAt hu (hx hv) (handleShareRead_eq u)
  · exact ⟨answersAt hu (hx hb) rfl, fun n hn => answersAt hu (hx hb) (handleBusResult_tag u rq.port hn)⟩
  · exact ⟨fun t => answersAt hu (hx hc) (handleTenantRead_site ha t), answersAt hu (hx hc) (handleTenantRead_siteAll ha)⟩
  · exact ⟨answersAt hu (hx hc) (handleTenantRead_own ha), answersAt hu (hx hc) (handleTenantRead_ownAll ha)⟩
end

section
/-! SUPPORT. The taking of lines from the receive queue and their judging (R187–R190), and O56. -/

namespace Sys2Proof.Machine

/-! ## The queue -/

theorem canTake_iff (s : State) (p : Port) :
    canTake s p = true ↔ (s.port p).waiting = [] ∧ ∀ r, s.site.restart = some r → r.port ≠ p := by
  unfold canTake
  rw [Bool.and_eq_true, List.isEmpty_iff, Bool.not_eq_true', Option.any_eq_false]
  simp only [beq_eq_false_iff_ne]

theorem canTake_congr {s t : State} {p : Port} (hw : (t.port p).waiting = (s.port p).waiting)
    (hr : t.site.restart = s.site.restart) : canTake t p = canTake s p := by
  unfold canTake
  rw [hw, hr]

theorem canTake_setPort (s : State) (p : Port) (x : PortState) (h : x.waiting = (s.port p).waiting) :
    canTake (s.setPort p x) p = canTake s p :=
  canTake_congr (by cases p <;> exact h) rfl

/-- A port whose line, or whose RESTART, is as it was takes a line as before. -/
theorem Noticed.canTake {s t : State} (h : Noticed s t) (p : Port) : canTake t p = Machine.canTake s p :=
  canTake_congr (h.1.2 p).2.2.1 (congrArg Site.restart h.site)

theorem drainFor_waits {s : State} {p : Port} (h : canTake s p = false) : ∀ n, drainFor n p s = s
  | 0 => rfl
  | _ + 1 => if_neg (by rw [h]; exact Bool.false_ne_true)

theorem drainFor_empty {s : State} {p : Port} (h : (s.port p).rxq = []) : ∀ n, drainFor n p s = s
  | 0 => rfl
  | n + 1 => by
    unfold drainFor
    split
    · rw [h]
    · rfl

theorem drainFor_takes {s : State} {p : Port} {y : RxLine} {q : List RxLine} (n : Nat) (hc : canTake s p = true)
    (hq : (s.port p).rxq = y :: q) :
    drainFor (n + 1) p s = drainFor n p (runLine (s.setPort p { s.port p with rxq := q }) p y) := by
  conv_lhs => unfold drainFor
  rw [if_pos hc, hq]
  rfl

/-! ## What a taken line does -/

/-- A request's command is the taking of its line by its port (log 5). -/
theorem exec_requestRow {i : Instr} {rq : Req} {n : Need} (h : requestOf i = some (rq, n)) (s : State) :
    exec i s = .next (requestRow rq (serve i) s) := by
  cases i <;> (cases h <;> rfl)

section
variable {w t : State} {p : Port} {y : RxLine} (hr : w.run = .running) (hc : canTake w p = true)
include hr hc

theorem runLine_request {i : Instr} {rq : Req} {n : Need} (hj : judgeLine p (w.cfg.ports.get p).check y = .request i)
    (hi : requestOf i = some (rq, n)) (hp : rq.port = p) (he : exec i w = .next t) : runLine w p y = t := by
  subst hp
  rw [exec_requestRow hi, requestRow_takes rq (serve i) w ⟨hr, hc⟩] at he
  unfold runLine
  rw [hj]
  exact Host.Outcome.next.inj he

theorem lineNotRequest_takes (why : NotRequest) : exec (.lineNotRequest p why) w = .next (settle (answerBad w p why)) :=
  lives hr (if_pos hc)

theorem runLine_bad {why : NotRequest} (hj : judgeLine p (w.cfg.ports.get p).check y = .bad why)
    (he : exec (.lineNotRequest p why) w = .next t) : runLine w p y = t := by
  rw [lineNotRequest_takes hr hc] at he
  unfold runLine
  rw [hj]
  exact Host.Outcome.next.inj he

end

/-! ## The head of the queue -/

section
variable {s t : State} {p : Port} {y : RxLine} {q : List RxLine} (hr : s.run = .running) (hc : canTake s p = true)
  (hq : (s.port p).rxq = y :: q)
include hr hc hq

theorem drainFor_request {i : Instr} {rq : Req} {k : Need} (n : Nat)
    (hj : judgeLine p (s.cfg.ports.get p).check y = .request i) (hi : requestOf i = some (rq, k)) (hp : rq.port = p)
    (he : exec i (s.setPort p { s.port p with rxq := q }) = .next t) : drainFor (n + 1) p s = drainFor n p t := by
  have hw := (canTake_setPort s p { s.port p with rxq := q } rfl).trans hc
  rw [drainFor_takes n hc hq, runLine_request (w := s.setPort p { s.port p with rxq := q }) hr hw hj hi hp he]

theorem drainFor_bad {why : NotRequest} (n : Nat) (hj : judgeLine p (s.cfg.ports.get p).check y = .bad why)
    (he : exec (.lineNotRequest p why) (s.setPort p { s.port p with rxq := q }) = .next t) :
    drainFor (n + 1) p s = drainFor n p t := by
  have hw := (canTake_setPort s p { s.port p with rxq := q } rfl).trans hc
  rw [drainFor_takes n hc hq, runLine_bad (w := s.setPort p { s.port p with rxq := q }) hr hw hj he]

end

/-! ## A complete line (R187, R188) -/

/-- The line that the characters complete. -/
def completed (s : State) (p : Port) (l : List RxChar) : RxLine := (l.foldl Assembly.take (s.port p).assembly).line

/-- The port with its assembly begun again. -/
def reassembled (s : State) (p : Port) : State := s.setPort p { s.port p with assembly := .empty }

/-- The line appended to the receive queue. -/
def appended (s : State) (p : Port) (x : RxLine) : State :=
  s.setPort p { s.port p with assembly := .empty, rxq := (s.port p).rxq ++ [x] }

/-- The line counted as dropped. -/
def dropCounted (s : State) (p : Port) : State :=
  { reassembled s p with counts := { s.counts with drops := s.counts.drops.put p (bump (s.counts.drops.get p)) } }

theorem reassembled_canTake (s : State) (p : Port) : canTake (reassembled s p) p = canTake s p :=
  canTake_setPort s p _ rfl

theorem appended_canTake (s : State) (p : Port) (x : RxLine) : canTake (appended s p x) p = canTake s p :=
  canTake_setPort s p _ rfl

section
variable {s : State} {p : Port} {l : List RxChar}

theorem lineComplete_none (h : (completed s p l).isEmpty = true) : lineComplete s p l = reassembled s p := if_pos h

theorem lineComplete_some (h : (completed s p l).isEmpty = false) :
    lineComplete s p l = drain (receiveLine (reassembled s p) p (completed s p l)) p :=
  if_neg (by
    show ¬(completed s p l).isEmpty = true
    rw [h]
    exact Bool.false_ne_true)

theorem receiveLine_fits (x : RxLine) (h : (s.port p).rxq.length < 4) :
    receiveLine (reassembled s p) p x = appended s p x := by
  unfold receiveLine
  rw [if_pos (by cases p <;> exact h)]
  cases p <;> rfl

theorem receiveLine_full (x : RxLine) (h : 4 ≤ (s.port p).rxq.length) :
    receiveLine (reassembled s p) p x = dropLine (reassembled s p) p x := by
  unfold receiveLine
  rw [if_neg (by cases p <;> exact Nat.not_lt.2 h)]

theorem dropLine_noticed (s : State) (p : Port) (x : RxLine) :
    Noticed { s with counts := { s.counts with drops := s.counts.drops.put p (bump (s.counts.drops.get p)) } }
      (dropLine s p x) :=
  (setFlag_noticed _ _ _).trans (noticeMasked_noticed _ _ _ _ _)

theorem dropLine_waits (x : RxLine) (h : canTake s p = false) : canTake (dropLine (reassembled s p) p x) p = false :=
  (Noticed.canTake (dropLine_noticed _ p x) p).trans ((reassembled_canTake s p).trans h)

theorem dropLine_tagged {x : RxLine} {g : Tag} {rest : List Char} (h : Tagged x.chars g rest) :
    dropLine (reassembled s p) p x
      = noticeMasked (setFlag (dropCounted s p) p .lineDrop) p .port ["DROP"] [kv "tag" (.tag g)] := by
  unfold dropLine
  rw [(readTag_some _ _ _).2 h]
  rfl

theorem dropLine_untagged {x : RxLine} (h : ¬∃ g rest, Tagged x.chars g rest) :
    dropLine (reassembled s p) p x
      = noticeMasked (setFlag (dropCounted s p) p .lineDrop) p .port ["DROP"] [kv "tag" .absent] := by
  unfold dropLine
  rw [(readTag_none _).2 h]
  rfl

theorem lineComplete_appends (hx : (completed s p l).isEmpty = false) (hl : (s.port p).rxq.length < 4) :
    lineComplete s p l = drainFor 4 p (appended s p (completed s p l)) := by
  rw [lineComplete_some hx, receiveLine_fits _ hl]
  rfl

theorem lineComplete_waits (hx : (completed s p l).isEmpty = false) (hl : (s.port p).rxq.length < 4)
    (hc : canTake s p = false) : lineComplete s p l = appended s p (completed s p l) := by
  rw [lineComplete_appends hx hl]
  exact drainFor_waits ((appended_canTake s p _).trans hc) 4

theorem lineComplete_drops (hx : (completed s p l).isEmpty = false) (hl : 4 ≤ (s.port p).rxq.length)
    (hc : canTake s p = false) : lineComplete s p l = dropLine (reassembled s p) p (completed s p l) := by
  rw [lineComplete_some hx, receiveLine_full _ hl]
  exact drainFor_waits (dropLine_waits _ hc) 4

section
variable {t : State} (hr : s.run = .running) (hx : (completed s p l).isEmpty = false) (hc : canTake s p = true)
  (hq : (s.port p).rxq = []) (ht : (t.port p).rxq = [])
include hx hc hq ht

/-- A line that an empty queue takes is at once judged. -/
theorem lineComplete_runs (hrun : runLine (reassembled s p) p (completed s p l) = t) : lineComplete s p l = t := by
  have ha : (appended s p (completed s p l)).port p =
      { s.port p with assembly := .empty, rxq := (s.port p).rxq ++ [completed s p l] } := by cases p <;> rfl
  have hw : (appended s p (completed s p l)).setPort p { (appended s p (completed s p l)).port p with rxq := [] }
      = reassembled s p := by
    rw [ha]
    unfold appended reassembled State.setPort
    rw [show ({ s.port p with assembly := .empty, rxq := [] } : PortState) = { s.port p with assembly := .empty } by
      rw [← hq]]
    cases p <;> rfl
  rw [lineComplete_appends hx (by rw [hq]; decide),
    drainFor_takes 3 ((appended_canTake s p _).trans hc) (q := []) (by rw [ha, hq]; rfl), hw, hrun]
  exact drainFor_empty ht 3

include hr in
theorem lineComplete_request {i : Instr} {rq : Req} {n : Need}
    (hj : judgeLine p (s.cfg.ports.get p).check (completed s p l) = .request i) (hi : requestOf i = some (rq, n))
    (hp : rq.port = p) (he : exec i (reassembled s p) = .next t) : lineComplete s p l = t :=
  lineComplete_runs hx hc hq ht
    (runLine_request hr ((reassembled_canTake s p).trans hc) hj hi hp he)

include hr in
theorem lineComplete_bad {why : NotRequest}
    (hj : judgeLine p (s.cfg.ports.get p).check (completed s p l) = .bad why)
    (he : exec (.lineNotRequest p why) (reassembled s p) = .next t) : lineComplete s p l = t :=
  lineComplete_runs hx hc hq ht (runLine_bad hr ((reassembled_canTake s p).trans hc) hj he)

end

end

/-! ## The tests of a line (R189) -/

section
variable {p : Port} {mode : CheckMode} {x : RxLine}

theorem judgeLine_untagged (h : ¬∃ g rest, Tagged x.chars g rest) : judgeLine p mode x = .bad .noTag := by
  unfold judgeLine
  rw [(readTag_none _).2 h]

variable {g : Tag} {rest : List Char} (ht : Tagged x.chars g rest)
include ht

theorem judgeLine_overlong (ho : x.overlong = true) : judgeLine p mode x = .bad (.overlong g) := by
  unfold judgeLine
  rw [(readTag_some _ _ _).2 ht]
  exact if_pos ho

theorem judgeLine_tagged (ho : x.overlong = false) :
    judgeLine p mode x =
      if !checkPasses mode x.chars then .bad (.badCheck g)
      else if x.bad then .bad (.badGrammar g)
      else
        match (uncheckedRest x.chars rest).bind (readRest p g) with
        | none => .bad (.badGrammar g)
        | some none => .bad (.unknownVerb g)
        | some (some i) => .request i := by
  unfold judgeLine
  rw [(readTag_some _ _ _).2 ht]
  dsimp only
  rw [ho]
  rfl

theorem judgeLine_badCheck (ho : x.overlong = false) (hc : ¬CheckPasses mode x.chars) :
    judgeLine p mode x = .bad (.badCheck g) := by
  rw [judgeLine_tagged ht ho, Bool.eq_false_iff.2 fun k => hc ((checkPasses_iff _ _).1 k)]
  rfl

theorem judgeLine_badGrammar (ho : x.overlong = false) (hc : CheckPasses mode x.chars)
    (hb : x.bad = true ∨ ¬∃ ws fs, Grammatical x.chars rest ws fs) : judgeLine p mode x = .bad (.badGrammar g) := by
  rw [judgeLine_tagged ht ho, (checkPasses_iff _ _).2 hc]
  rcases hb with hb | hb
  · rw [hb]
    rfl
  · rw [(readRest_spells p g x.chars rest ht).1 hb]
    cases x.bad <;> rfl

section
variable (ho : x.overlong = false) (hc : CheckPasses mode x.chars) (hb : x.bad = false) {ws : List (List Char)}
  {fs : Fields} (hg : Grammatical x.chars rest ws fs)
include ho hc hb hg

theorem judgeLine_unknown (hf : formatOf ws formats = none) : judgeLine p mode x = .bad (.unknownVerb g) := by
  rw [judgeLine_tagged ht ho, (checkPasses_iff _ _).2 hc, hb, ((readRest_spells p g x.chars rest ht).2 ws fs hg).1 hf]
  rfl

theorem judgeLine_request {h : Format} {w : Option (List Char)} (hf : formatOf ws formats = some (h, w)) :
    judgeLine p mode x =
      .request (h.build { port := p, tag := g, extra := fs.any fun f => (keyForm h f.1).isNone } w fs) := by
  rw [judgeLine_tagged ht ho, (checkPasses_iff _ _).2 hc, hb,
    ((readRest_spells p g x.chars rest ht).2 ws fs hg).2 h w hf]
  rfl

end

end

end Sys2Proof.Machine

open Sys2Proof Sys2Proof.Machine

/-- Settles O56: a complete line is appended, dropped or taken, and judged by the tests of R189 in their order. -/
theorem linesTaken : Obligations.LinesTaken := by
  intro s p hr mode
  refine ⟨fun l => ⟨fun hx => lives hr (lineComplete_none hx),
      fun hx hc hl => lives hr (lineComplete_waits hx hl hc), fun hx hc hl => ?_, fun hx hc hq => ?_,
      fun hx hl => lives hr (lineComplete_appends hx hl)⟩, fun n => ⟨?_, fun y q hc hq => ?_⟩,
    fun x => ⟨judgeLine_untagged, fun g rest ht => ?_⟩, fun hc => ?_⟩
  · exact ⟨fun g rest ht => lives hr ((lineComplete_drops hx hl hc).trans (dropLine_tagged ht)),
      fun ht => lives hr ((lineComplete_drops hx hl hc).trans (dropLine_untagged ht))⟩
  · exact ⟨fun i rq n t hj hi hp he ht => lives hr (lineComplete_request hr hx hc hq ht hj hi hp he),
      fun why t hj he ht => lives hr (lineComplete_bad hr hx hc hq ht hj he)⟩
  · rintro (hc | hq)
    · exact drainFor_waits hc n
    · exact drainFor_empty hq n
  · exact ⟨fun i rq k t hj hi hp he => drainFor_request hr hc hq n hj hi hp he,
      fun why t hj he => drainFor_bad hr hc hq n hj he⟩
  · exact ⟨judgeLine_overlong ht, judgeLine_badCheck ht, judgeLine_badGrammar ht, fun ho hc hb ws fs hg =>
      ⟨judgeLine_unknown ht ho hc hb hg, fun h w hf => judgeLine_request ht ho hc hb hg hf⟩⟩
  · have h := fun why => lineNotRequest_takes hr hc (why := why)
    exact ⟨h .noTag, fun g => ⟨h (.overlong g), h (.badCheck g), h (.badGrammar g), h (.unknownVerb g)⟩⟩
end

section
/-! SUPPORT. The timers of a port, the sending of its lines, and its summary record (R183, R191–R196), and O55. -/

namespace Sys2Proof.Machine

/-! ## Timers -/

section
variable {s : State} {p : Port}

theorem lockoutExpired_some (h : (s.port p).lockout.isSome) :
    lockoutExpired s p = s.setPort p { s.port p with lockout := none, mismatches := 0 } := if_pos h

theorem intervalExpired_some (h : (s.port p).intervalTimer.isSome) : intervalExpired s p = sendSummary s p := if_pos h

theorem spacingExpired_pending (h : (s.port p).spacingTimer.isSome) (hp : (s.port p).changePending = true) :
    spacingExpired s p =
      sendSummary (s.setPort p { s.port p with spacingTimer := none, changePending := false }) p := by
  unfold spacingExpired
  rw [if_pos h]
  exact if_pos hp

theorem spacingExpired_idle (h : (s.port p).spacingTimer.isSome) (hp : (s.port p).changePending = false) :
    spacingExpired s p = s.setPort p { s.port p with spacingTimer := none } := by
  unfold spacingExpired
  rw [if_pos h]
  refine (if_neg (by rw [hp]; exact Bool.false_ne_true)).trans ?_
  rw [show ({ s.port p with spacingTimer := none } : PortState)
    = { s.port p with spacingTimer := none, changePending := false } by rw [← hp]]
  rfl

/-! ## Sending -/

theorem serialOut_head {h : TxLine} {l : List TxLine} (hr : s.run = .running) (hq : (s.port p).txq = h :: l) :
    serialOut s p = h.text ++ ['\r', '\n'] := by
  unfold serialOut
  rw [hr, hq]
  rfl

theorem lineSent_none (hq : (s.port p).txq = []) : lineSent s p = s := by
  unfold lineSent
  rw [hq]

/-- The head line sent and `l` left, with the receive queue `q`. -/
def sentState (s : State) (p : Port) (l : List TxLine) (q : List RxLine) : State :=
  { s with
    ports := s.ports.put p { s.port p with txq := l ++ (s.port p).waiting.take (24 - l.length)
                                           waiting := (s.port p).waiting.drop (24 - l.length), rxq := q }
    site := { s.site with restart := s.site.restart.map fun r =>
      if r.port = p then { r with lines := r.lines - 1 } else r } }

theorem sentState_port (s : State) (p : Port) (l : List TxLine) (q : List RxLine) :
    (sentState s p l q).port p =
      { s.port p with txq := l ++ (s.port p).waiting.take (24 - l.length)
                      waiting := (s.port p).waiting.drop (24 - l.length), rxq := q } := by
  cases p <;> rfl

theorem sentState_setRxq (s : State) (p : Port) (l : List TxLine) (r q : List RxLine) :
    (sentState s p l r).setPort p { (sentState s p l r).port p with rxq := q } = sentState s p l q := by
  rw [sentState_port]
  cases p <;> rfl

/-- The port can take a line after a sending when no reply of its waits still and it has no RESTART pending. -/
theorem sentState_canTake (s : State) (p : Port) (l : List TxLine) (q : List RxLine) :
    canTake (sentState s p l q) p = true
      ↔ (s.port p).waiting.drop (24 - l.length) = [] ∧ ∀ r, s.site.restart = some r → r.port ≠ p := by
  rw [canTake_iff, sentState_port]
  refine and_congr_right fun _ => ?_
  show (∀ r, (s.site.restart.map fun r => if r.port = p then { r with lines := r.lines - 1 } else r) = some r
    → r.port ≠ p) ↔ _
  cases s.site.restart with
  | none => exact ⟨fun _ r h => (nomatch h), fun _ r h => (nomatch h)⟩
  | some x =>
    have hx : (if x.port = p then { x with lines := x.lines - 1 } else x).port = x.port := by split <;> rfl
    constructor
    · intro h r hr
      cases hr
      exact hx ▸ h _ rfl
    · intro h r hr
      cases hr
      exact hx.symm ▸ h x rfl

variable {h : TxLine} {l : List TxLine}

theorem lineSent_some (hq : (s.port p).txq = h :: l) :
    lineSent s p = drainFor 4 p (sentState s p l (s.port p).rxq) := by
  unfold lineSent
  rw [hq]
  rfl

theorem lineSent_rests (hq : (s.port p).txq = h :: l)
    (hn : (s.port p).rxq = [] ∨ ¬((s.port p).waiting.drop (24 - l.length) = []
      ∧ ∀ r, s.site.restart = some r → r.port ≠ p)) : lineSent s p = sentState s p l (s.port p).rxq := by
  rw [lineSent_some hq]
  rcases hn with hn | hn
  · exact drainFor_empty (by rw [sentState_port]; exact hn) 4
  · exact drainFor_waits (Bool.eq_false_iff.2 fun k => hn ((sentState_canTake _ _ _ _).1 k)) 4

section
variable {y : RxLine} {q : List RxLine} {t : State} (hr : s.run = .running) (hq : (s.port p).txq = h :: l)
  (hx : (s.port p).rxq = y :: q)
  (ht : (s.port p).waiting.drop (24 - l.length) = [] ∧ ∀ r, s.site.restart = some r → r.port ≠ p)
include hr hq hx ht

theorem lineSent_request {i : Instr} {rq : Req} {n : Need}
    (hj : judgeLine p (s.cfg.ports.get p).check y = .request i) (hi : requestOf i = some (rq, n)) (hp : rq.port = p)
    (he : exec i (sentState s p l q) = .next t) : lineSent s p = drainFor 3 p t := by
  rw [lineSent_some hq]
  refine drainFor_request (s := sentState s p l (s.port p).rxq) hr ((sentState_canTake _ _ _ _).2 ht) (y := y) (q := q) ?_ 3
    hj hi hp ?_
  · rw [sentState_port]
    exact hx
  · rw [sentState_setRxq]
    exact he

theorem lineSent_bad {why : NotRequest} (hj : judgeLine p (s.cfg.ports.get p).check y = .bad why)
    (he : exec (.lineNotRequest p why) (sentState s p l q) = .next t) : lineSent s p = drainFor 3 p t := by
  rw [lineSent_some hq]
  refine drainFor_bad (s := sentState s p l (s.port p).rxq) hr ((sentState_canTake _ _ _ _).2 ht) (y := y) (q := q) ?_ 3 hj ?_
  · rw [sentState_port]
    exact hx
  · rw [sentState_setRxq]
    exact he

end

/-! ## Notices and summaries -/

theorem notice_enters {words : List String} {pairs : List Pair}
    (h : (s.port p).txq.length + (noticeLines s p words pairs).length + 3 ≤ 24) :
    notice s p words pairs = s.setPort p { s.port p with txq := (s.port p).txq ++ noticeLines s p words pairs } :=
  if_pos ((fits_iff _ _).2 h)

theorem notice_drops {words : List String} {pairs : List Pair}
    (h : 24 < (s.port p).txq.length + (noticeLines s p words pairs).length + 3) :
    notice s p words pairs = setFlag (countNoticeDrop s p) p .noticeDrop :=
  if_neg (by rw [fits_iff]; omega)

theorem setFlag_set {e : EventFlag} (h : e ∈ (s.port p).summary.events) : setFlag s p e = s := if_pos h

theorem setFlag_clear {e : EventFlag} (h : e ∉ (s.port p).summary.events) :
    setFlag s p e = summaryChange (s.onPort p fun x => { x with summary := x.summary.setEvent e }) p := if_neg h

theorem syncKey_same {cur : SumVals} {k : SumKey} (h : (s.port p).summary.vals.val k = cur.val k) :
    syncKey s p cur k = s := if_pos h

theorem syncKey_differs {cur : SumVals} {k : SumKey} (h : (s.port p).summary.vals.val k ≠ cur.val k) :
    syncKey s p cur k = summaryChange (s.onPort p fun x => { x with summary := x.summary.setValue k cur }) p := if_neg h

end

theorem SumVals.take_val (v w : SumVals) (k : SumKey) : (v.take w k).val k = w.val k := by cases k <;> rfl

theorem SumVals.take_val_other (v w : SumVals) {j k : SumKey} (h : j ≠ k) : (v.take w k).val j = v.val j := by
  cases k <;> cases j <;> first | rfl | exact absurd rfl h

end Sys2Proof.Machine

open Sys2Proof Sys2Proof.Machine

/-- Settles O55. -/
theorem portTimersAndSending : Obligations.PortTimersAndSending := by
  intro s p x
  refine ⟨fun hr => ⟨fun h => lives hr (lockoutExpired_some h),
      fun h => ⟨_, lives hr (intervalExpired_some h), sendSummary_offered s p⟩,
      fun h hp => lives hr (spacingExpired_idle h hp),
      fun h hp => ⟨_, lives hr (spacingExpired_pending h hp), sendSummary_offered _ p⟩,
      fun h l hq => serialOut_head hr hq, fun hq => lives hr (lineSent_none hq), fun h l hq => ?_⟩,
    fun words pairs => ⟨notice_enters, notice_drops, fun c => rfl⟩, fun e => ⟨setFlag_set, fun h => ?_⟩,
    fun cur k => ⟨syncKey_same, fun h => ?_⟩, fun own => rfl, rfl⟩
  · exact ⟨fun hn => lives hr (lineSent_rests hq hn), fun y q hx ht =>
      ⟨fun i rq n t hj hi hp he => lives hr (lineSent_request hr hq hx ht hj hi hp he),
        fun why t hj he => lives hr (lineSent_bad hr hq hx ht hj he)⟩⟩
  · rw [setFlag_clear h]
    exact summaryChange_changed _ p
  · refine ⟨x.summary.vals.take cur k, ?_, SumVals.take_val _ _ _, fun j hj => SumVals.take_val_other _ _ hj⟩
    rw [syncKey_differs h]
    exact summaryChange_changed _ p
end

section
/-! SUPPORT. The cycle of the RC clock (R17, R62, R63, R66, R73, R90, R174, R175), and O2. -/

namespace Sys2Proof.Machine

/-! ## Site time over one RC cycle -/

/-- The window of the oscillator check has counted the cycle. -/
def windowed (k : Clock) (lo : Nat) : Clock := { k with windowRc := k.windowRc + 1, windowLo := k.windowLo + lo }

/-- `m` steps on the LO, short of the wrap. -/
def loSteps (k : Clock) (m : Nat) : Clock :=
  { k with
    ns := k.ns + (10 * m - k.startHold.getD 0)
    captures := k.captures.map fun r => if r.last.isSome then { r with elapsed := r.elapsed + m * 327680 } else r
    ahead := k.ahead + m * 327680
    startHold := k.startHold.bind fun h => if 10 * m < h then some (h - 10 * m) else none
    pulseLeft := k.pulseLeft.map (· - m * 327680) }

/-- The next cycle of the second, of `u` units of time, to the reading `n`. -/
def rcSteppedTo (k : Clock) (u n : Nat) : Clock :=
  { k with
    rcCycle := k.rcCycle + 1, ns := n
    captures := k.captures.map fun r => if r.last.isSome then { r with elapsed := r.elapsed + u } else r
    ahead := k.ahead + u, pulseLeft := k.pulseLeft.map (· - u) }

/-- The next cycle of the second, on the RC clock. -/
def rcStepped (k : Clock) : Clock := rcSteppedTo k 1000000000 ((k.rcCycle + 1) * 1000000000 / 32768 / 10 * 10)

/-- The steps of the cycle on the LO that commands have not taken. -/
def cycleSteps (k : Clock) (lo : Nat) : Nat := 10 * lo - k.ahead / 327680

def wrapSteps (k : Clock) : Nat := (k.startHold.getD 0 + (1000000000 - k.ns)) / 10

/-- Whether the second ends in the cycle. -/
def cycleWraps (k : Clock) (lo : Nat) : Bool :=
  if k.onRc then decide (k.ahead < 1000000000) && decide (32767 ≤ k.rcCycle)
  else decide (wrapSteps k ≤ cycleSteps k lo)

/-- The clock that the cycle leaves, before what falls due. -/
def cycleMoved (k : Clock) (lo : Nat) : Clock :=
  if k.onRc then (if 1000000000 ≤ k.ahead ∨ 32767 ≤ k.rcCycle then k else rcStepped k)
  else if cycleWraps k lo then { loSteps k (wrapSteps k - 1) with owed := cycleSteps k lo - wrapSteps k }
  else loSteps k (cycleSteps k lo)

/-- Steps that end before the wrap are not lost. -/
theorem stepLo_loSteps {k : Clock} {m : Nat} (h : k.ns + (10 * m - k.startHold.getD 0) ≤ 999999990) :
    k.stepLo m = loSteps k m := by
  unfold loSteps
  cases hk : k.startHold with
  | none =>
    rw [hk, Option.getD_none, Nat.sub_zero] at h
    rw [stepLo_free hk, Nat.min_eq_left h, Option.getD_none, Nat.sub_zero, Option.bind_none]
    unfold Clock.pass
    dsimp only
    rw [hk]
    rfl
  | some x =>
    rw [hk, Option.getD_some] at h
    rw [Option.getD_some, Option.bind_some]
    by_cases hx : 10 * m < x
    · rw [stepLo_within hk hx, if_pos hx, show k.ns + (10 * m - x) = k.ns by omega]
      unfold Clock.pass
      generalize m * 327680 = u
      rfl
    · rw [stepLo_past hk (by omega), Nat.min_eq_left h, if_neg hx]
      rfl

theorem stepRc_rcStepped {k : Clock} (h : k.rcCycle < 32767) : k.stepRc 1 = rcStepped k := by
  unfold Clock.stepRc rcStepped rcSteppedTo
  rw [Nat.one_mul]
  dsimp only
  rw [Nat.min_eq_left (show (k.pass unitsPerCycle).rcCycle + 1 ≤ 32767 from h)]
  rfl

theorem cycle_eq {k : Clock} (h : k.ns ≤ 999999990) (lo : Nat) : k.cycle lo = (cycleMoved k lo, cycleWraps k lo) := by
  have hs : k.stepsToWrap = wrapSteps k := rfl
  have hn : 10 * lo - k.ahead / unitsPerStep = cycleSteps k lo := rfl
  have hm (m : Nat) (hm : m + 1 ≤ wrapSteps k ∨ m = 0) : k.stepLo m = loSteps k m := by
    refine stepLo_loSteps ?_
    unfold wrapSteps at hm
    omega
  unfold Clock.cycle cycleMoved cycleWraps
  dsimp only
  rw [hs, hn, show unitsPerCycle = 1000000000 from rfl]
  by_cases hr : k.onRc = true
  · rw [if_pos hr, if_pos hr, if_pos hr]
    by_cases ha : 1000000000 ≤ k.ahead
    · rw [if_pos ha, if_pos (Or.inl ha), decide_eq_false (Nat.not_lt.2 ha)]
      rfl
    · rw [if_neg ha, decide_eq_true (Nat.lt_of_not_le ha), Bool.true_and]
      by_cases hc : 32767 ≤ k.rcCycle
      · rw [if_pos hc, if_pos (Or.inr hc), decide_eq_true hc]
      · rw [if_neg hc, if_neg (not_or.2 ⟨ha, hc⟩), decide_eq_false hc, stepRc_rcStepped (by omega)]
  · rw [if_neg hr, if_neg hr, if_neg hr]
    by_cases hw : cycleSteps k lo < wrapSteps k
    · rw [if_pos hw, decide_eq_false (Nat.not_le.2 hw), hm _ (Or.inl hw)]
      rfl
    · rw [if_neg hw, decide_eq_true (Nat.not_lt.1 hw), hm _ (by omega)]
      rfl

theorem loSteps_windowed (k : Clock) (lo m : Nat) :
    { loSteps k m with windowRc := k.windowRc + 1, windowLo := k.windowLo + lo } = loSteps (windowed k lo) m := rfl

theorem rcSteppedTo_windowed (k : Clock) (lo u n : Nat) :
    { rcSteppedTo k u n with windowRc := k.windowRc + 1, windowLo := k.windowLo + lo }
      = rcSteppedTo (windowed k lo) u n := rfl

section
variable (k : Clock) (lo : Nat)

theorem windowed_onRc : (windowed k lo).onRc = k.onRc := rfl

theorem windowed_wrapSteps : wrapSteps (windowed k lo) = wrapSteps k := rfl

theorem windowed_cycleSteps (n : Nat) : cycleSteps (windowed k lo) n = cycleSteps k n := rfl

theorem windowed_ahead : (windowed k lo).ahead = k.ahead := rfl

theorem windowed_rcCycle : (windowed k lo).rcCycle = k.rcCycle := rfl

theorem windowed_wraps (n : Nat) : cycleWraps (windowed k lo) n = cycleWraps k n := by
  unfold cycleWraps
  rw [windowed_onRc, windowed_wrapSteps, windowed_cycleSteps, windowed_ahead, windowed_rcCycle]

theorem cycleMoved_windowed :
    { cycleMoved k lo with windowRc := k.windowRc + 1, windowLo := k.windowLo + lo } = cycleMoved (windowed k lo) lo := by
  unfold cycleMoved
  rw [windowed_onRc, windowed_wraps, windowed_wrapSteps, windowed_cycleSteps, windowed_ahead, windowed_rcCycle,
    ← loSteps_windowed, ← loSteps_windowed]
  generalize wrapSteps k = w
  generalize cycleSteps k lo = n
  split
  · split
    · rfl
    · unfold rcStepped
      rw [rcSteppedTo_windowed, windowed_rcCycle]
  · split
    · generalize loSteps k (w - 1) = q
      rfl
    · rfl

end

theorem cycleMoved_passing (k : Clock) (lo : Nat) : (cycleMoved k lo).passing = k.passing := by
  have hr (u n : Nat) : (rcSteppedTo k u n).passing = k.passing := rfl
  have hs (m : Nat) : (loSteps k m).passing = k.passing := rfl
  unfold cycleMoved
  generalize wrapSteps k = w
  generalize cycleSteps k lo = n
  split
  · split
    · rfl
    · exact hr _ _
  · split
    · exact hs (w - 1)
    · exact hs n

theorem lead_eq (k : Clock) (lo : Nat) : k.lead lo = k.ahead - (if k.onRc then 1000000000 else lo * 3276800) := by
  unfold Clock.lead unitsPerCycle unitsPerStep unitsPerNs
  rw [show 10 * lo * (10 * 32768) = lo * 3276800 by omega]

/-! ## What falls due in it -/

/-- The rows that site time brings as it moves from `k` to `m`. -/
def clockDues (k m : Clock) (wraps : Bool) : List Instr :=
  (if m.pulseLeft = some 0 then [.pulseWidthEnd] else [])
    ++ (if k.ns < 600000000 ∧ 600000000 ≤ m.ns then [.steeringPoint] else [])
    ++ (if wraps = true then [.secondBoundary] else [])

theorem steers_iff (a b : Nat) : steers a b = true ↔ a < 600000000 ∧ 600000000 ≤ b := by
  unfold steers steeringNs
  rw [Bool.and_eq_true, decide_eq_true_iff, decide_eq_true_iff]

theorem occurDue_const (c : Bool) (i : Instr) (l : List Due) (s : State) :
    occurDue (dueWhen (fun _ => c) i :: l) s = occurDue l ((if c = true then [i] else []).foldl occur s) := by
  cases c <;> rfl

/-- Rows that fall due whatever the earlier ones change take place one after the other. -/
theorem occurDue_clockDue (k : Clock) (r : Clock × Bool) (s : State) :
    occurDue (clockDue k r) s = (clockDues k r.1 r.2).foldl occur s := by
  unfold clockDue clockDues
  rw [occurDue_const, occurDue_const, occurDue_const, List.foldl_append, List.foldl_append]
  simp only [steers_iff, beq_iff_eq]
  rfl

section
variable {s : State} (h : s.clock.ns ≤ 999999990) {lo : Nat} (hl : loCycles s = lo) {m : Clock}
  (hm : cycleMoved (windowed s.clock lo) lo = m) {d : List Instr}
  (hd : clockDues s.clock m (cycleWraps s.clock lo) = d)
include h hl hm hd

/-- The clock's cycle, the events that fall due and the edge, and then the window's end. -/
theorem clockCycle_eq {t : State} (ht : d.foldl occur { s with clock := m } = t) {edge : State}
    (he : clockEdge { t with clock := { t.clock with
      ahead := s.clock.ahead - (if s.clock.onRc then 1000000000 else lo * 3276800) } } = edge) :
    clockCycle s =
      if s.clock.windowRc < 4095 then edge else occur edge (.oscCheckWindowEnd (s.clock.windowLo + lo)) := by
  have hd' : clockDues s.clock (cycleMoved s.clock lo) (cycleWraps s.clock lo) = d := by
    rw [← hd, ← hm, ← cycleMoved_windowed]
    rfl
  unfold clockCycle
  dsimp only
  rw [hl, cycle_eq h lo]
  dsimp only
  rw [occurDue_clockDue, hd']
  unfold State.onClock
  dsimp only
  rw [cycleMoved_windowed, hm, lead_eq, ht, he, occurDue_const]
  by_cases hw : s.clock.windowRc < 4095
  · rw [if_pos hw, decide_eq_false (by omega)]
    rfl
  · rw [if_neg hw, decide_eq_true (by omega)]
    rfl

/-- Where nothing falls due the clock alone moves. -/
theorem clockCycle_idle (hp : s.clock.passing = false) (hw : s.clock.windowRc < 4095) (hn : d = []) :
    clockCycle s = { s with
      clock := { m with ahead := s.clock.ahead - (if s.clock.onRc then 1000000000 else lo * 3276800) } } := by
  subst hn
  rw [clockCycle_eq h hl hm hd rfl rfl, if_pos hw]
  refine clockEdge_counting ?_
  show m.passing = false
  rw [← hm, cycleMoved_passing]
  exact hp

end

/-! ## The millisecond tick -/

theorem rcCycle_between {s : State} {a : Nat} (e : s.rc.ms = a) (h : a < 31768) :
    rcCycle s = (s.onRc fun r => { r with ms := a + 1000 }, false) := by
  subst e
  unfold rcCycle
  exact if_neg (by omega)

theorem rcCycle_ms {s : State} {a : Nat} (e : s.rc.ms = a) (h : 31768 ≤ a) :
    rcCycle s = (s.onRc fun r => { r with ms := a + 1000 - 32768 }, true) := by
  subst e
  unfold rcCycle
  exact if_pos (by omega)

theorem pinReset_stopped {s : State} (h : s.run = .held) : occur s .pinReset = s :=
  occur_next (congrArg _ (if_neg (by rw [h]; decide)))

/-- A part held in reset stays so until RESET_N has been high for its filter time. -/
theorem heldTick_stays {s : State} (h : s.run = .held)
    (hn : ∀ n, s.site.inputs.resetN.lower.change = some (true, n) → n < s.cfg.filters.resetN) :
    heldTick s = lowerInput s .resetN := by
  have hc : changeDue (lowerInput s .resetN) .resetN =
      match s.site.inputs.resetN.lower.change with
      | some (l, n) => if s.cfg.filters.resetN ≤ n then some l else none
      | none => none := changeDue_setInput s .resetN _
  show (match resetDue (lowerInput s .resetN) with
    | some i => occur (lowerInput s .resetN) i | none => lowerInput s .resetN) = _
  unfold resetDue changeRow
  rw [hc]
  cases hx : s.site.inputs.resetN.lower.change with
  | none => rfl
  | some e =>
    obtain ⟨l, n⟩ := e
    dsimp only
    cases l with
    | true =>
      rw [if_neg (by have := hn n hx; omega)]
      rfl
    | false =>
      by_cases hf : s.cfg.filters.resetN ≤ n
      · rw [if_pos hf]
        exact pinReset_stopped h
      · rw [if_neg hf]
        rfl

/-! ## The cycle of the part -/

theorem tick_held {s : State} (h : s.run = .held) :
    tick s = (if (rcCycle s).2 then heldTick (rcCycle s).1 else (rcCycle s).1).onRc
      fun r => { r with cycles := s.rc.cycles + 1 } := by
  unfold tick runCycle
  rw [if_neg (by rw [h]; decide), h]

theorem restartDue_none {s : State} (h : s.site.restart = none) : occurDue [restartDue] s = s := by
  refine occurDue_none fun d hd => ?_
  rw [List.mem_singleton.1 hd]
  simp only [restartDue, dueWhen, h]
  rfl

theorem tick_held_between {s : State} (h : s.run = .held) (hr : s.rc.ms < 31768) :
    tick s = { s with rc := { ms := s.rc.ms + 1000, cycles := s.rc.cycles + 1 } } := by
  rw [tick_held h, rcCycle_between rfl hr]
  generalize s.rc.ms + 1000 = a
  rfl

/-- The filter of RESET_N alone runs, and the counts of the cycle come to `a` and `c`. -/
theorem heldTick_counted {s : State} {x : Input} (h : s.run = .held) (hx : s.site.inputs.resetN.lower = x)
    (hn : ∀ n, x.change = some (true, n) → n < s.cfg.filters.resetN) (a c : Nat) :
    (heldTick (s.onRc fun r => { r with ms := a })).onRc (fun r => { r with cycles := c }) = { s with
      rc := { ms := a, cycles := c }
      site := { s.site with inputs := { s.site.inputs with resetN := x } } } := by
  subst hx
  have e := heldTick_stays (s := s.onRc fun r => { r with ms := a }) h hn
  rw [e]
  rfl

theorem tick_held_ms {s : State} {x : Input} (h : s.run = .held) (hr : 31768 ≤ s.rc.ms)
    (hx : s.site.inputs.resetN.lower = x) (hn : ∀ n, x.change = some (true, n) → n < s.cfg.filters.resetN) :
    tick s = { s with
      rc := { ms := s.rc.ms + 1000 - 32768, cycles := s.rc.cycles + 1 }
      site := { s.site with inputs := { s.site.inputs with resetN := x } } } := by
  rw [tick_held h, rcCycle_ms rfl hr, if_pos rfl]
  exact heldTick_counted h hx hn _ _

section
/-! The running part, where the clock's cycle leaves `t` and the sense counters rest. -/

variable {s t : State} (h : s.run = .running) (ht : clockCycle (s.onLevel Level.cycle) = t)
  (hf : t.tests.feeder.phase ≠ .charge)
include h ht hf

theorem tick_running :
    tick s = (occurDue [restartDue] (if (rcCycle t).2 then msTick (rcCycle t).1 else (rcCycle t).1)).onRc
      fun r => { r with cycles := s.rc.cycles + 1 } := by
  unfold tick runCycle
  rw [if_neg (by rw [h]; decide), h]
  dsimp only
  rw [ht, senseCycle_outside_charge hf]

variable {a : Nat} (e : t.rc.ms = a)
include e

theorem tick_running_between (hr : a < 31768) (hs : t.site.restart = none) :
    tick s = { t with rc := { ms := a + 1000, cycles := s.rc.cycles + 1 } } := by
  rw [tick_running h ht hf, rcCycle_between e hr, if_neg Bool.false_ne_true]
  generalize a + 1000 = b
  have hn := restartDue_none (s := t.onRc fun r => { r with ms := b }) hs
  rw [hn]
  rfl

theorem tick_running_ms (hr : 31768 ≤ a) :
    tick s = (occurDue [restartDue] (msTick { t with rc := { t.rc with ms := a + 1000 - 32768 } })).onRc
      fun r => { r with cycles := s.rc.cycles + 1 } := by
  rw [tick_running h ht hf, rcCycle_ms e hr, if_pos rfl]
  generalize a + 1000 - 32768 = b
  rfl

end

end Sys2Proof.Machine
end

section
/-! SUPPORT. O2. -/

namespace Sys2Proof.Machine

theorem lowerInputs_eq (s : State) : lowerInputs s =
    { s with site := { s.site with inputs :=
      { resetN := s.site.inputs.resetN.lower, mastMoving := s.site.inputs.mastMoving.lower
        oduLock := s.site.inputs.oduLock.lower, svcConnect := s.site.inputs.svcConnect.lower } } } := rfl

end Sys2Proof.Machine

open Sys2Proof Sys2Proof.Machine

/-- Settles O2. -/
theorem emptyQueueRunsOneClockCycle : Obligations.EmptyQueueRunsOneClockCycle := by
  intro s lo k rcTurns passed onRc window steps n toWrap wraps moved due ahead nothingDue indicated less filtered
    portLess ticked
  have hw : cycleWraps k lo = wraps := rfl
  have hm : cycleMoved (windowed k lo) lo = moved := by
    have h1 : rcStepped (windowed k lo) =
        { window with
          rcCycle := k.rcCycle + 1, ns := (k.rcCycle + 1) * 1000000000 / 32768 / 10 * 10
          captures := passed 1000000000, ahead := k.ahead + 1000000000
          pulseLeft := k.pulseLeft.map (· - 1000000000) } := rfl
    have h2 (m : Nat) : loSteps (windowed k lo) m = steps m := rfl
    have h3 : cycleSteps k lo = n := rfl
    have h4 : wrapSteps k = toWrap := rfl
    have h5 : windowed k lo = window := rfl
    unfold cycleMoved
    rw [windowed_onRc, windowed_wraps, windowed_wrapSteps, windowed_cycleSteps, windowed_ahead, windowed_rcCycle,
      h1, h2, h2, h3, h4, h5, hw]
    rfl
  have hd : clockDues k moved wraps = due := rfl
  have hf : Input.lower = filtered := by
    funext x
    unfold Input.lower
    simp only [filtered]
    cases x.change <;> rfl
  have hl (q : Nat) : ({ lowerInputs (lowerTimers s) with
      site := { (lowerInputs (lowerTimers s)).site with quietMs := q } } : State)
        = { ticked with site := { ticked.site with quietMs := q } } := by
    rw [lowerInputs_eq, hf]
    rfl
  have ht : quietTick (lowerInputs (lowerTimers s)) = ticked := hl (min 65535000 (s.site.quietMs + 1))
  have hms : msTick s = occurDue tickDue ticked := congrArg (occurDue tickDue) ht
  have ha : k.ahead - (if k.onRc then 1000000000 else lo * 3276800) = ahead := rfl
  have idle (hq : nothingDue) (hc : k.windowRc < 4095) :
      clockCycle (s.onLevel Level.cycle) = { s with level := indicated, clock := { moved with ahead := ahead } } := by
    obtain ⟨hn, hp, hdue⟩ := hq
    exact clockCycle_idle (s := s.onLevel Level.cycle) hn (lo := lo) (d := due) rfl hm hd hp hc hdue
  refine ⟨fun h => ?_, fun h => ?_, tick_off, fun h hr => ?_, fun h hr hn => ?_, fun h hq hc hf' hs hr => ?_,
    fun h hq hc hf' hs hr => ?_, fun h => ?_, hms, fun h => hms.trans (occurDue_none h)⟩
  · unfold step
    rw [h]
  · unfold tick
    rw [if_neg h]
    rfl
  · exact tick_held_between h hr
  · exact tick_held_ms h hr (congrFun hf _) hn
  · exact tick_running_between h (idle hq hc) hf' rfl hr hs
  · exact tick_running_ms h (idle hq hc) hf' rfl hr
  · exact clockCycle_eq (lo := lo) (d := due) h rfl hm hd rfl rfl
end

section
/-! SUPPORT. GO LIVE and STAGE (R177, R178), the ways out of STAGING, and O48. -/

namespace Sys2Proof.Machine

/-! ## The tests of GO LIVE -/

/-- What GO LIVE needs of its port. -/
def goLiveNeed (force : Bool) : Need := if force then .siteIn .sitePhase else .group .sitePhase

/-- The current test claims the link. -/
def LinkClaimed (u : State) : Prop := ∃ r, u.tests.current = some r ∧ u.link.claim = some r.number

/-- Every test of the acceptance mask has passed. -/
def MaskMet (u : State) : Prop := ∀ k ∈ u.cfg.acceptMask, ∃ n, u.tests.acceptance.get k = .pass n

/-- The link is UP and the oscillator good. -/
def LiveReady (u : State) : Prop := u.link.state = .up ∧ u.timing.grade ≠ .oscFail

def linkClaimed (u : State) : Bool := u.tests.current.any fun r => u.link.claim == some r.number

theorem linkClaimed_iff (u : State) : linkClaimed u = true ↔ LinkClaimed u := by
  unfold linkClaimed LinkClaimed
  rw [Option.any_eq_true]
  simp only [beq_iff_eq]

theorem maskMet_iff (u : State) : maskMet u = true ↔ MaskMet u := by
  have hp (e : Entry) : isPass e = true ↔ ∃ n, e = .pass n := by
    cases e with
    | pass n => exact ⟨fun _ => ⟨n, rfl⟩, fun _ => rfl⟩
    | absent => exact ⟨nofun, fun ⟨_, h⟩ => nomatch h⟩
    | fail n => exact ⟨nofun, fun ⟨_, h⟩ => nomatch h⟩
  unfold maskMet MaskMet
  rw [List.all_eq_true]
  exact forall₂_congr fun k _ => hp _

theorem liveReady_iff (u : State) : ¬(u.link.state ≠ .up ∨ u.timing.grade = .oscFail) ↔ LiveReady u := by
  unfold LiveReady
  rw [not_or, not_not]

theorem goLiveNeed_atSite {u : State} {p : Port} {force : Bool} (h : (goLiveNeed force).met u p = true) :
    (force && !atSite u p) = false := by
  cases force with
  | false => rfl
  | true =>
    have hs : atSite u p = true := (Bool.and_eq_true_iff.1 h).2
    rw [hs]
    rfl

/-- The phase that GO LIVE enters. -/
def livePhase (u : State) : SitePhase := if mainQuiet u then .autonomous else .live

def liveCause (u : State) (force : Bool) : String := if mainQuiet u then "QUIET" else if force then "FORCE" else "GO_LIVE"

/-- GO LIVE, by its tests. -/
theorem handleGoLive_eq (u : State) (p : Port) (force : Bool) : handleGoLive u p force =
    if force && !atSite u p then (u, .no .noLevel)
    else if u.site.phase ≠ .staging then (u, .no .noState)
    else if linkClaimed u then (u, .no .noBusy)
    else if u.link.state ≠ .up ∨ u.timing.grade = .oscFail then (u, .no .noState)
    else if !force && !maskMet u then (u, .no .noPhase)
    else
      (changePhase u (livePhase u) force (liveCause u force),
        .ok [kv "phase" (.word (livePhase u).word), kv "forced" (.mark force)] []) := by
  unfold handleGoLive linkClaimed
  cases u.tests.current <;> rfl

section
variable {u : State} {p : Port} {force : Bool} (hl : (force && !atSite u p) = false)
include hl

theorem handleGoLive_notStaging (hs : u.site.phase ≠ .staging) : handleGoLive u p force = (u, .no .noState) := by
  rw [handleGoLive_eq, hl]
  exact if_pos hs

variable (hs : u.site.phase = .staging)
include hs

theorem handleGoLive_claimed (hc : LinkClaimed u) : handleGoLive u p force = (u, .no .noBusy) := by
  rw [handleGoLive_eq, hl, (linkClaimed_iff u).2 hc, if_neg (not_not_intro hs)]
  rfl

variable (hc : ¬LinkClaimed u)
include hc

theorem handleGoLive_notReady (hr : ¬LiveReady u) : handleGoLive u p force = (u, .no .noState) := by
  rw [handleGoLive_eq, hl, Bool.eq_false_iff.2 (mt (linkClaimed_iff u).1 hc), if_neg (not_not_intro hs)]
  exact if_pos (not_not.1 (mt (liveReady_iff u).1 hr))

variable (hr : LiveReady u)
include hr

theorem handleGoLive_unmet (hf : force = false) (hm : ¬MaskMet u) : handleGoLive u p force = (u, .no .noPhase) := by
  rw [handleGoLive_eq, hl, Bool.eq_false_iff.2 (mt (linkClaimed_iff u).1 hc), if_neg (not_not_intro hs),
    if_neg ((liveReady_iff u).2 hr), Bool.eq_false_iff.2 (mt (maskMet_iff u).1 hm), hf]
  rfl

theorem handleGoLive_enters (hm : force = true ∨ MaskMet u) : ∃ r, handleGoLive u p force =
    (changePhase u (livePhase u) force (liveCause u force), .ok r []) := by
  have hq : (!force && !maskMet u) = false := by
    rcases hm with hm | hm
    · rw [hm]
      rfl
    · rw [(maskMet_iff u).2 hm]
      exact Bool.and_false _
  refine ⟨[kv "phase" (.word (livePhase u).word), kv "forced" (.mark force)], ?_⟩
  rw [handleGoLive_eq, hl, Bool.eq_false_iff.2 (mt (linkClaimed_iff u).1 hc), if_neg (not_not_intro hs),
    if_neg ((liveReady_iff u).2 hr), hq]
  rfl

end

/-! ## The phase entered -/

section
variable {u t : State} {force : Bool} {cause : String} (ht : changePhase u (livePhase u) force cause = t)
include ht

theorem livePhase_live (hq : mainQuiet u = false) :
    Shared { u with site := { u.site with phase := .live, forced := force } } t := by
  have e : livePhase u = .live := by
    unfold livePhase
    rw [hq]
    rfl
  rw [← ht, e]
  exact changePhase_other (x := u.site) (.refl u) (by decide) force cause

theorem livePhase_quiet (hq : mainQuiet u = true) :
    t.site = { u.site with phase := .autonomous, forced := force } ∧ t.cfg = u.cfg ∧ MainTestsEnded u t := by
  have e : livePhase u = .autonomous := by
    unfold livePhase
    rw [hq]
    rfl
  rw [e] at ht
  obtain ⟨h1, h2, -, h4⟩ := changePhase_autonomous (s := u) (x := u.site) (.refl u) force cause
  rw [ht] at h1 h2 h4
  exact ⟨h1, h2, h4⟩

theorem livePhase_site : t.site = { u.site with phase := livePhase u, forced := force } ∧ t.cfg = u.cfg := by
  unfold livePhase
  cases hq : mainQuiet u with
  | false => exact ⟨(livePhase_live ht hq).1.site, (livePhase_live ht hq).1.cfg⟩
  | true =>
    obtain ⟨h1, h2, -⟩ := livePhase_quiet ht hq
    exact ⟨h1, h2⟩

theorem livePhase_entered :
    t.site = { u.site with phase := livePhase u, forced := force } ∧ t.share.phase = t.site.phase ∧ t.cfg = u.cfg
      ∧ (mainQuiet u = false → AfterReshares { u with site := t.site } t) ∧ (mainQuiet u = true → MainTestsEnded u t) := by
  obtain ⟨hs, hc⟩ := livePhase_site ht
  have hp := (changePhase_shared u (livePhase u) force cause).phase
  rw [ht] at hp
  refine ⟨hs, ?_, hc, fun hq => ?_, fun hq => (livePhase_quiet ht hq).2.2⟩
  · rw [hp, hs]
  · have hv := livePhase_live ht hq
    rw [show t.site = { u.site with phase := .live, forced := force } from hv.1.site]
    exact hv.1

end

/-! ## STAGE -/

section
variable {u : State}

theorem handleStage_staging (h : u.site.phase = .staging) :
    handleStage u = (u, .ok [kv "phase" (.word SitePhase.staging.word)] []) := by
  unfold handleStage
  rw [if_pos h]

theorem handleStage_leaves (h : u.site.phase ≠ .staging) :
    handleStage u = (changePhase u .staging false "STAGE", .ok [kv "phase" (.word SitePhase.staging.word)] []) := by
  unfold handleStage
  rw [if_neg h]

end

/-! ## The ways out of STAGING -/

/-- The invariants of all parts, the phase among them. -/
def Scope.staged : Scope := { share := true, owners := true, link := true, timing := true, site := true }

theorem settle_staged {s : State} (h : s.site.phase = .staging) : (settle s).site.phase = .staging :=
  ((settle_keeps (m := .staged) s).staged rfl).phase h

theorem live_staged {f : State → State} {s : State} (hs : s.site.phase = .staging) (hf : (f s).site.phase = .staging) :
    (live f s).site.phase = .staging := by
  unfold live
  split
  · exact settle_staged hf
  · exact hs

/-- What GO LIVE needs where it takes the site out of STAGING. -/
def LivePasses (u : State) (rq : Req) (force : Bool) : Prop :=
  (goLiveNeed force).met u rq.port = true ∧ ¬LinkClaimed u ∧ LiveReady u ∧ (force = true ∨ MaskMet u)

theorem serveGoLive_passes {u : State} {rq : Req} {force : Bool} (hs : u.site.phase = .staging)
    (h : (serveGoLive rq force u).site.phase ≠ .staging) : LivePasses u rq force ∧ rq.extra = false := by
  by_cases hn : (goLiveNeed force).met u rq.port = true
  case neg =>
    exact absurd ((congrArg (fun t => t.site.phase) (answer_noLevel (Bool.eq_false_iff.2 hn))).trans hs) h
  by_cases he : rq.extra = true
  case pos => exact absurd ((congrArg (fun t => t.site.phase) (answer_foreignKey hn he)).trans hs) h
  replace he : rq.extra = false := Bool.eq_false_iff.2 he
  have stays {r : Reply} (e : handleGoLive u rq.port force = (u, r)) : False := by
    refine h ?_
    have ha : serveGoLive rq force u = _ := answer_executes hn he
    rw [ha, e]
    exact hs
  have hl := goLiveNeed_atSite hn
  have hc : ¬LinkClaimed u := fun hc => stays (handleGoLive_claimed hl hs hc)
  have hr : LiveReady u := by_contra fun hr => stays (handleGoLive_notReady hl hs hc hr)
  refine ⟨⟨hn, hc, hr, ?_⟩, he⟩
  cases hf : force with
  | true => exact .inl rfl
  | false => exact .inr (by_contra fun hm => stays (handleGoLive_unmet hl hs hc hr hf hm))

theorem portLine_staged {s : State} (h : s.site.phase = .staging) (p : Port) : (portLine s p).site.phase = .staging :=
  ((portLine_keeps (m := .staged) s p).staged rfl).phase h

theorem goLive_leaves {s t : State} {rq : Req} {force : Bool} (hs : s.site.phase = .staging)
    (he : exec (.goLive rq force) s = .next t) (ht : t.site.phase ≠ .staging) :
    Executes s rq (goLiveNeed force) ∧ LivePasses (portLine s rq.port) rq force := by
  cases he
  by_cases hr : s.run = .running
  case neg =>
    rw [requestRow, live_stopped _ _ hr] at ht
    exact absurd hs ht
  by_cases hc : canTake s rq.port = true
  case neg =>
    rw [requestRow_waits _ _ _ hr (Bool.eq_false_iff.2 hc)] at ht
    exact absurd (settle_staged hs) ht
  rw [requestRow_takes _ _ _ ⟨hr, hc⟩] at ht
  obtain ⟨hp, he⟩ := serveGoLive_passes (portLine_staged hs rq.port) (mt settle_staged ht)
  exact ⟨⟨⟨hr, hc⟩, he, hp.1⟩, hp⟩

theorem leavesStaging_cases {i : Instr} (h : leavesStaging i = true) :
    (∃ rq force, i = .goLive rq force) ∨ (∃ p l, i = .lineComplete p l) ∨ ∃ p, i = .transmitLineSent p := by
  unfold leavesStaging at h
  split at h
  · exact .inl ⟨_, _, rfl⟩
  · exact .inr (.inl ⟨_, _, rfl⟩)
  · exact .inr (.inr ⟨_, rfl⟩)
  · cases h

theorem exec_leaves {i : Instr} {s t : State} (hs : s.site.phase = .staging) (he : exec i s = .next t)
    (ht : t.site.phase ≠ .staging) :
    (∃ rq force, i = .goLive rq force ∧ Executes s rq (goLiveNeed force) ∧ LivePasses (portLine s rq.port) rq force)
      ∨ (∃ p l, i = .lineComplete p l) ∨ ∃ p, i = .transmitLineSent p := by
  have hi : leavesStaging i = true := by
    by_contra hi
    exact ht (((exec_keeps (m := .staged) i s t he fun _ => Bool.eq_false_iff.2 hi).staged rfl).phase hs)
  rcases leavesStaging_cases hi with ⟨rq, force, rfl⟩ | h
  · exact .inl ⟨rq, force, rfl, goLive_leaves hs he ht⟩
  · exact .inr h

theorem runLine_leaves {s : State} {p : Port} {x : RxLine} (hs : s.site.phase = .staging)
    (ht : (runLine s p x).site.phase ≠ .staging) :
    ∃ rq force, judgeLine p (s.cfg.ports.get p).check x = .request (.goLive rq force)
      ∧ LivePasses (portLine s p) rq force := by
  unfold runLine at ht
  cases hj : judgeLine p (s.cfg.ports.get p).check x with
  | bad why =>
    rw [hj] at ht
    exact absurd (settle_staged (((answerBad_keeps (m := .staged) s p why).staged rfl).phase hs)) ht
  | request i =>
    rw [hj] at ht
    have hv : (serve i (portLine s p)).site.phase ≠ .staging := mt settle_staged ht
    by_cases hi : ∃ rq force, i = .goLive rq force
    · obtain ⟨rq, force, rfl⟩ := hi
      exact ⟨rq, force, rfl, (serveGoLive_passes (portLine_staged hs p) hv).1⟩
    · have hk := serve_keeps (m := .staged) i (portLine s p) fun _ rq force e => hi ⟨rq, force, e⟩
      exact absurd ((hk.staged rfl).phase (portLine_staged hs p)) hv

/-! ## Lines that a port takes later -/

section
variable {s t : State} {p : Port} (hs : s.site.phase = .staging)
include hs

theorem drainFor_staged (n : Nat) (hq : ∀ x ∈ (s.port p).rxq, NotGoLive p x) :
    (drainFor n p s).site.phase = .staging :=
  ((drainFor_keeps (m := .staged) p n s fun _ => hq).staged rfl).phase hs

variable (hq : ∀ x ∈ (s.port p).rxq, NotGoLive p x)
include hq

theorem transmitLineSent_staged (he : exec (.transmitLineSent p) s = .next t) : t.site.phase = .staging := by
  cases he
  refine live_staged hs ?_
  cases hx : (s.port p).txq with
  | nil => rw [lineSent_none hx]; exact hs
  | cons h l =>
    rw [lineSent_some hx]
    refine drainFor_staged (s := sentState s p l (s.port p).rxq) hs 4 ?_
    rw [sentState_port]
    exact hq

theorem lineComplete_staged {l : List RxChar} (hx : NotGoLive p (completed s p l))
    (he : exec (.lineComplete p l) s = .next t) : t.site.phase = .staging := by
  cases he
  refine live_staged hs ?_
  by_cases hn : (completed s p l).isEmpty = true
  · rw [lineComplete_none hn]
    exact hs
  replace hn : (completed s p l).isEmpty = false := Bool.eq_false_iff.2 hn
  by_cases hl : (s.port p).rxq.length < 4
  · rw [lineComplete_appends hn hl]
    refine drainFor_staged (s := appended s p (completed s p l)) hs 4 fun y hy => ?_
    have hp : ((appended s p (completed s p l)).port p).rxq = (s.port p).rxq ++ [completed s p l] := by cases p <;> rfl
    rw [hp] at hy
    rcases List.mem_append.1 hy with hy | hy
    · exact hq y hy
    · exact List.mem_singleton.1 hy ▸ hx
  · rw [lineComplete_some hn, receiveLine_full _ (Nat.not_lt.1 hl)]
    have hd := (dropLine_noticed (reassembled s p) p (completed s p l)).1
    refine drainFor_staged (s := dropLine (reassembled s p) p (completed s p l)) ?_ 4 fun y hy => ?_
    · rw [PortsOnly.site hd.1]
      exact hs
    · have hp : ((dropLine (reassembled s p) p (completed s p l)).port p).rxq = (s.port p).rxq := by
        rw [(hd.2 p).2.1]
        cases p <;> rfl
      exact hq y (hp ▸ hy)

end

end Sys2Proof.Machine

open Sys2Proof Sys2Proof.Machine

/-- Settles O48. -/
theorem phaseRequestsAct : Obligations.PhaseRequestsAct := by
  refine ⟨fun s rq force h => ?_, fun s rq ht => ?_, fun s rq h => ?_, fun s hs => ⟨?_, fun i t => exec_leaves hs,
    fun p x => runLine_leaves hs, fun p hq => ⟨fun t => transmitLineSent_staged hs hq,
      fun l t hx => lineComplete_staged hs hq hx⟩⟩⟩
  · intro u
    have hu : portLine s rq.port = u := rfl
    have hl : (force && !atSite u rq.port) = false := goLiveNeed_atSite h.2.2
    clear_value u
    refine ⟨fun hs hc hr hm => ?_, fun hs => answersAt hu h (handleGoLive_notStaging hl hs),
      fun hs hc => answersAt hu h (handleGoLive_claimed hl hs hc),
      fun hs hc hr => answersAt hu h (handleGoLive_notReady hl hs hc hr),
      fun hs hc hr hf hm => answersAt hu h (handleGoLive_unmet hl hs hc hr hf hm)⟩
    have hm' : force = true ∨ MaskMet u := by
      cases hf : force with
      | true => exact .inl rfl
      | false => exact .inr (hm hf)
    obtain ⟨r, e⟩ := handleGoLive_enters hl hs hc hr hm'
    exact ⟨_, r, answersAt hu h e, livePhase_entered rfl⟩
  · intro u ha
    refine answers_noLevel ht (Bool.eq_false_iff.2 fun k => ha ?_)
    exact beq_iff_eq.1 (Bool.and_eq_true_iff.1 k).2
  · intro u
    have hu : portLine s rq.port = u := rfl
    clear_value u
    refine ⟨fun hs => ?_, fun hs => ⟨_, answersAt hu h (handleStage_staging hs)⟩⟩
    have hp := changePhase_shared u .staging false "STAGE"
    exact ⟨_, _, answersAt hu h (handleStage_leaves hs),
      (changePhase_other (x := u.site) (.refl u) (by decide) false "STAGE").1, hp.phase, hp.noPermit rfl⟩
  · exact ((tick_keeps (m := .staged) s).staged rfl).phase hs
end
